-- ==== Sys2Proof/Word.lean ====
section
/-! DEFINITION. The word types of the model: a byte, a register word, a 64-bit host address, a byte string. -/

namespace Sys2Proof

/-- One byte, as the host memory, the shelf and every byte string hold it (R8). -/
abbrev Byte := BitVec 8

/-- One register word (R9: registers are 32 bits wide). -/
abbrev Word := BitVec 32

/-- A host address or a 64-bit register pair (R46: host addresses are untranslated). -/
abbrev Addr := BitVec 64

/-- A byte string, first byte at the lowest address (R8). -/
abbrev Bytes := List Byte

end Sys2Proof
end

