-- ==== Sys2Proof/Machine/Bits.lean ====
section
/-! DEFINITION. Bit fields, byte order, saturating counters and sparse tables: the helpers every chapter uses. -/

namespace Sys2Proof.Machine

/-! ## Counters (the register tables say of each whether it wraps or saturates) -/

/-- A counter that stops at its largest value ("saturates at"). -/
def satInc {w : Nat} (x : BitVec w) : BitVec w :=
  if x = BitVec.allOnes w then x else x + 1

/-- `n` saturating steps at once. -/
def satAdd {w : Nat} (x : BitVec w) (n : Nat) : BitVec w :=
  if x.toNat + n ≥ 2 ^ w then BitVec.allOnes w else x + BitVec.ofNat w n

/-- A value held within bounds, as the register tables say of a clamped write. -/
def clamp (lo hi x : Nat) : Nat := max lo (min hi x)

/-- Division rounded up. -/
def ceilDiv (a b : Nat) : Nat := (a + b - 1) / b

/-! ## Fields of a number -/

/-- Bits `[lo + len - 1 : lo]` of `x` (R7). -/
def field (x lo len : Nat) : Nat := (x / 2 ^ lo) % 2 ^ len

/-- Bit `i` of `x`. -/
def bitAt (x i : Nat) : Bool := x.testBit i

/-- 1 or 0. -/
def b2n (b : Bool) : Nat := if b then 1 else 0

/-- Clears in `x` the bits that a W1C write sets (R10). -/
def w1c {w : Nat} (x : BitVec w) (v : Nat) : BitVec w := x &&& ~~~ (BitVec.ofNat w v)

/-- Sets bit `i`. -/
def setBit {w : Nat} (x : BitVec w) (i : Nat) : BitVec w := x ||| BitVec.ofNat w (2 ^ i)

/-- Clears bit `i`. -/
def clearBit {w : Nat} (x : BitVec w) (i : Nat) : BitVec w := x &&& ~~~ (BitVec.ofNat w (2 ^ i))

/-- The number of set bits of `x` among bits `0 … n - 1`. -/
def popCount (x : Nat) : Nat → Nat
  | 0 => 0
  | n + 1 => popCount x n + b2n (x.testBit n)

/-! ## Byte strings (R8: numbers are little-endian, byte strings keep their standard's order) -/

/-- The number a byte string spells, least significant byte first. -/
def leNat : Bytes → Nat
  | [] => 0
  | b :: bs => b.toNat + 256 * leNat bs

/-- One bit of a reflected CRC with the Castagnoli polynomial (PRESUMED, log 118). -/
def crcBit (c : BitVec 32) : BitVec 32 := if c.getLsbD 0 then (c >>> 1) ^^^ 0x82F63B78#32 else c >>> 1

/-- One byte of CRC-32C: its eight bits, least significant first. -/
def crcByte (c : BitVec 32) (b : BitVec 8) : BitVec 32 :=
  crcBit (crcBit (crcBit (crcBit (crcBit (crcBit (crcBit (crcBit (c ^^^ b.setWidth 32))))))))

/-- CRC-32C as RFC 3720 specifies it (R251, R408, R432). (PRESUMED, log 118) -/
def crc32c (bs : Bytes) : BitVec 32 := ~~~ (bs.foldl crcByte (BitVec.allOnes 32))

/-- The number a byte string spells, most significant byte first. -/
def beNat (bs : Bytes) : Nat := leNat bs.reverse

/-- `k` bytes of `n`, least significant first. -/
def leBytes (n : Nat) : Nat → Bytes
  | 0 => []
  | k + 1 => BitVec.ofNat 8 n :: leBytes (n / 256) k

/-- `k` bytes of `n`, most significant first. -/
def beBytes (n k : Nat) : Bytes := (leBytes n k).reverse

/-- Byte `i`; bytes past the end read zero. -/
def byteAt (bs : Bytes) (i : Nat) : Nat := (bs.getD i 0).toNat

/-- `len` bytes from offset `off`; bytes past the end read zero. -/
def slice (bs : Bytes) (off len : Nat) : Bytes :=
  (List.range len).map fun i => bs.getD (off + i) 0

/-- The little-endian number in `len` bytes at `off`. -/
def leAt (bs : Bytes) (off len : Nat) : Nat := leNat (slice bs off len)

/-- The big-endian number in `len` bytes at `off`. -/
def beAt (bs : Bytes) (off len : Nat) : Nat := beNat (slice bs off len)

/-- `n` zero bytes. -/
def zeros (n : Nat) : Bytes := List.replicate n 0

/-- Pads with zero bytes at the end, or cuts, to `n` bytes. -/
def padTo (n : Nat) (bs : Bytes) : Bytes := (bs ++ zeros (n - bs.length)).take n

/-- Byte-wise exclusive or over the shorter of the two. -/
def xorBytes (a b : Bytes) : Bytes := List.zipWith (· ^^^ ·) a b

/-- A byte from a number. -/
def byte (n : Nat) : Byte := BitVec.ofNat 8 n

/-- A byte string from numbers. -/
def bytesOf (ns : List Nat) : Bytes := ns.map byte

/-- The hexadecimal digits of a byte string, high digit of each byte first. -/
def nibbles : Bytes → List Nat
  | [] => []
  | b :: bs => b.toNat / 16 :: b.toNat % 16 :: nibbles bs

/-- Bytes from hexadecimal digits, two per byte, high digit first; a last single digit is padded with zero. -/
def packNibbles : List Nat → Bytes
  | [] => []
  | [h] => [byte (16 * h)]
  | h :: l :: ds => byte (16 * h + l) :: packNibbles ds

/-! ## Sparse tables: strictly rising keys, no entry equal to the default -/

/-- A table from numbers to `α`, only the entries that differ from a default being listed. -/
abbrev SMap (α : Type) := List (Nat × α)

/-- The entry at `k`, or the default `d`. -/
def mget {α : Type} (d : α) : SMap α → Nat → α
  | [], _ => d
  | (a, v) :: m, k => if a = k then v else mget d m k

/-- Drops the entry at `k`. -/
def merase {α : Type} : SMap α → Nat → SMap α
  | [], _ => []
  | (a, v) :: m, k => if a = k then merase m k else (a, v) :: merase m k

/-- Puts `v` at `k`, keeping the keys rising. -/
def minsert {α : Type} : SMap α → Nat → α → SMap α
  | [], k, v => [(k, v)]
  | (a, w) :: m, k, v =>
    if k < a then (k, v) :: (a, w) :: m
    else if k = a then (k, v) :: m
    else (a, w) :: minsert m k v

/-- Writes `v` at `k`; writing the default removes the entry, so that equal tables are equal data. -/
def mset {α : Type} [DecidableEq α] (d : α) (m : SMap α) (k : Nat) (v : α) : SMap α :=
  if v = d then merase m k else minsert m k v

/-- Changes the entry at `k` by `f`. -/
def mmod {α : Type} [DecidableEq α] (d : α) (m : SMap α) (k : Nat) (f : α → α) : SMap α :=
  mset d m k (f (mget d m k))

/-- Changes every listed entry by `f`, dropping those that become the default. -/
def mmap {α : Type} [DecidableEq α] (d : α) (f : Nat → α → α) : SMap α → SMap α
  | [] => []
  | (a, v) :: m => mset d (merase (mmap d f m) a) a (f a v)

/-- The canonical form of a sparse table. -/
def mwf {α : Type} [DecidableEq α] (d : α) (m : SMap α) : Bool :=
  (m.map (·.1)).Pairwise (· < ·) && m.all fun e => decide (e.2 ≠ d)

/-- Folds a state change over a list of subjects, first to last. -/
def forEach {α σ : Type} (xs : List α) (f : α → σ → σ) (s : σ) : σ :=
  xs.foldl (fun s x => f x s) s

/-- ACLK ticks in a second (R408). -/
abbrev rtcSecond : Nat := 32768

end Sys2Proof.Machine
end

