-- ==== Sys2Proof/Machine/KazkelTypes.lean ====
section
/-! DEFINITION. The state of Kazkel's mailboxes, images and NOR records, and of the custodian ports and ceremonies
(chapters 12 and 13). -/

namespace Sys2Proof.Machine

/-- MBX_k_STAT.STATE (R312). -/
inductive MbxState where
  | idle | posted | busy | done
  deriving DecidableEq, Repr

def mbxCode : MbxState → Nat
  | .idle => 0 | .posted => 1 | .busy => 2 | .done => 3

/-- A mailbox (R311 to R320). -/
structure Mbx where
  state : MbxState := .idle
  abortSeen : Bool := false
  dropped : Word := 0
  /-- the data window, 448 bytes; bytes past the end of the list are zero -/
  data : Bytes := []
  /-- the request Kazkel is running; it stays after the mailbox went IDLE under R320, and its response is then discarded -/
  running : Option Bytes := none
  /-- Kazkel has begun to act on it (R320) -/
  acting : Bool := false
  /-- what a command under way has counted so far: records discarded by SAGGAR_RESET (R325) -/
  count : Nat := 0
  deriving DecidableEq, Repr

/-- States of an image slot (R333). -/
inductive SlotState where
  | empty | staged | authorised | trial | committed | rejected
  deriving DecidableEq, Repr

def slotCode : SlotState → Nat
  | .empty => 0 | .staged => 1 | .authorised => 2 | .trial => 3 | .committed => 4 | .rejected => 5

/-- An image slot and what its image's header says (R332, R333). -/
structure Image where
  state : SlotState := .empty
  svn : Nat := 0
  attempts : Nat := 0
  /-- header bytes 8 to 11 -/
  version : Bytes := []
  levelMin : Nat := 0
  levelMax : Nat := 0
  needsSvn : Nat := 0
  digest : Bytes := []
  deriving DecidableEq, Repr

/-- The two slots of a kind, A first (R333). -/
structure Slots where
  a : Image := {}
  b : Image := {}
  deriving DecidableEq, Repr

/-- Firmware and glaze images (R332 to R340). -/
structure Firmware where
  kazkel : Slots := { a := { state := .committed, version := bytesOf [2, 4, 1, 0], levelMin := 2, levelMax := 4 } }
  glaze : Slots := { a := { state := .committed, version := bytesOf [1, 0, 0, 0] } }
  /-- the slot the running Kazkel booted from is B -/
  runningB : Bool := false
  /-- the OTP rollback count, 0 to 64 (R338) -/
  rollback : Nat := 0
  /-- the boot ROM found no bootable slot (R340) -/
  recovery : Bool := false
  /-- the level of a glaze change under way (R339): it comes into force when every in-service kiln holds it -/
  glazeNext : Option (BitVec 16) := none
  /-- the glaze slot being activated is B -/
  glazeNextB : Bool := false
  /-- the glaze level in force (R134) -/
  glazeLevel : BitVec 16 := 1
  /-- an IMAGE_STAGE runs: kind and slot B (R335) -/
  staging : Option (Bool × Bool) := none
  /-- a WARM reset follows an activation (R336) -/
  warmDue : Bool := false
  deriving DecidableEq, Repr

/-- Kazkel's mailboxes: mailbox k of function i at 8 i + k, levels by function (R311, R322). -/
structure Mailboxes where
  boxes : SMap Mbx := []
  levels : SMap Nat := []
  /-- the mailbox last taken, for the round robin (R316) -/
  lastTaken : Nat := 0
  /-- DMA staging pages: holder by page (R324) -/
  pageOwner : SMap (Option Nat) := []
  deriving DecidableEq, Repr

/-- CUS_p_STAT.STATE (R360). -/
inductive CardState where
  | empty | activating | connected | authenticated | done | failed
  deriving DecidableEq, Repr

def cardCode : CardState → Nat
  | .empty => 0 | .activating => 1 | .connected => 2 | .authenticated => 3 | .done => 4 | .failed => 5

/-- CUS_p_STAT.LAST codes (R360). -/
inductive CardResult where
  | none | ok | noAtr | protocol | notEnrolled | authFailed | cardRefused | duplicate | shardInvalid | removed | timeout
  | storeFailed
  deriving DecidableEq, Repr

def cardResultCode : CardResult → Nat
  | .none => 0 | .ok => 1 | .noAtr => 2 | .protocol => 3 | .notEnrolled => 4 | .authFailed => 5 | .cardRefused => 6
  | .duplicate => 7 | .shardInvalid => 8 | .removed => 9 | .timeout => 10 | .storeFailed => 11

/-- The exchange a custodian port has under way (R342 to R355). -/
inductive Exchange where
  | none | debounce | atr | select | identity | deviceCert | authenticate | release (kind : Nat) | store (output : Nat)
  deriving DecidableEq, Repr

/-- What the interface bytes of a card's ATR say (R342): TA1, TA3, TB3, and CRC selected by TC3. -/
structure Atr where
  ta1 : Option Nat := none
  ta3 : Option Nat := none
  tb3 : Option Nat := none
  crc : Bool := false
  deriving DecidableEq, Repr

/-- The parameters of a T=1 link (R342): the Fi/Di code of TA1 in use, 0x11 for 372/1; IFSC; BWI and CWI; CRC in place of LRC. The
codes of TA1 and TB3 and the defaults are ISO/IEC 7816-3's (PRESUMED, log 34). -/
structure CardLink where
  fiDi : Nat := 0x11
  ifsc : Nat := 32
  bwi : Nat := 4
  cwi : Nat := 13
  crc : Bool := false
  deriving DecidableEq, Repr

/-- A custodian port (R342 to R346). -/
structure CusPort where
  link : CardLink := {}
  present : Bool := false
  powered : Bool := false
  classA : Bool := false
  state : CardState := .empty
  last : CardResult := .none
  exch : Exchange := .none
  /-- failures in the present error recovery (R342) -/
  failures : Nat := 0
  custId : Bytes := []
  cardKey : Bytes := []
  /-- Nd and the ephemeral private key (R345) -/
  nonce : Bytes := []
  ephemeral : Bytes := []
  /-- the secure messaging keys, 64 bytes (R346) -/
  keys : Bytes := []
  sendCtr : Nat := 0
  recvCtr : Nat := 0
  deriving DecidableEq, Repr

/-- A set of shards under collection (R348 to R350). -/
structure ShardSet where
  kind : Nat
  m : Nat := 0
  n : Nat := 0
  setId : Bytes := []
  secretLen : Nat := 0
  kcv : Bytes := []
  attr : Nat := 0
  /-- accepted shares: custodian ID, x, share -/
  shares : List (Bytes × Nat × Bytes) := []
  combined : Option Bytes := none
  deriving DecidableEq, Repr

/-- A shard due to a custodian (R354, R355). -/
structure OutputShard where
  custId : Bytes
  record : Bytes
  stored : Bool := false
  deriving DecidableEq, Repr

/-- The roster of a saggar (R347). -/
structure Roster where
  m : Nat := 0
  n : Nat := 0
  aHash : Bytes := []
  entries : List Bytes := []
  deriving DecidableEq, Repr

/-- A ceremony in progress or the last one run (R351 to R359). -/
structure Ceremony where
  number : Nat := 0
  kind : Nat := 0
  step : Nat := 0
  saggar : Nat := 0
  slot : Nat := 0
  limitMin : Nat := 0
  record : Bytes := []
  cd : Bytes := []
  /-- the mode code it was begun from (R355) -/
  fromMode : Nat := 0
  bootstrap : Bool := false
  quorumSag : Nat := 0
  /-- custodians that have presented a card at WRITING (R351) -/
  seen : List Bytes := []
  aSet : ShardSet := { kind := 1 }
  keySet : Option ShardSet := none
  outputs : List OutputShard := []
  /-- drawn at step 4: the new secret key, SERIAL and nonce of its slot image, CNONCE and authorisation secret (R219, R354) -/
  newKey : Bytes := []
  newSeed : Bytes := []
  newNonce : Bytes := []
  newSecret : Bytes := []
  outcome : Nat := 0
  committed : Bool := false
  deriving DecidableEq, Repr

/-- A journal entry's outcome part (R359): number, kind, saggar, CD, outcome and begin and end times. -/
structure JournalEntry where
  number : Nat
  record : Bytes
  cd : Bytes
  beginRtc : Nat
  endRtc : Option Nat := none
  /-- per card served: port, custodian ID, result and the card's signature over CD -/
  cards : List (Nat × Bytes × Nat × Bytes) := []
  outcome : Option Nat := none
  deriving DecidableEq, Repr

/-- Custodian ports and ceremonies (chapter 13). -/
structure Custodians where
  port0 : CusPort := {}
  port1 : CusPort := {}
  /-- CUS_AUTHFAIL -/
  fail0 : BitVec 16 := 0
  fail1 : BitVec 16 := 0
  cer : Ceremony := {}
  rosters : SMap Roster := []
  /-- the last 64 ceremonies, newest first -/
  journal : List JournalEntry := []
  deriving DecidableEq, Repr

end Sys2Proof.Machine
end

