-- ==== Sys2Proof/Machine/Status.lean ====
section
/-! DEFINITION. The status codes of completion records (R87), each under its name. -/

namespace Sys2Proof.Machine

namespace St

def OK : Nat := 0x0000
def BAD_FIRING_CODE : Nat := 0x0101
def BAD_FLAGS : Nat := 0x0102
def BAD_STEP_COUNT : Nat := 0x0103
def STATE_FLAG_MISMATCH : Nat := 0x0104
def REPLAY_ID_ZERO : Nat := 0x0105
def BAD_PARAMETER : Nat := 0x0106
def BAD_LENGTH : Nat := 0x0107
def EXT_FETCH_FAILED : Nat := 0x0108
def BLOB_FETCH_FAILED : Nat := 0x0109
def BAD_GRAPH : Nat := 0x010A
def BAD_GROUP : Nat := 0x010B
def ACCESS_VIOLATION : Nat := 0x010C
def BAD_INPUT_FORMAT : Nat := 0x010D
def KEY_NOT_RESIDENT : Nat := 0x0201
def KEY_HANDLE_INVALID : Nat := 0x0202
def KEY_USAGE : Nat := 0x0203
def BLOB_AUTH_FAILED : Nat := 0x0204
def BLOB_EPOCH_RETIRED : Nat := 0x0205
def BLOB_WRONG_SAGGAR : Nat := 0x0206
def NO_ROUTE : Nat := 0x0207
def ROUTE_NO_KEY : Nat := 0x0208
def KEY_BLOCK_INVALID : Nat := 0x0209
def KEY_WEAK : Nat := 0x020A
def KSN_EXHAUSTED : Nat := 0x020B
def POLICY_FUNCTION : Nat := 0x0301
def POLICY_PIN : Nat := 0x0302
def POLICY_EXPORT : Nat := 0x0303
def POLICY_ALGORITHM : Nat := 0x0304
def POLICY_WORLD : Nat := 0x0305
def POLICY_LIFECYCLE : Nat := 0x0306
def POLICY_ATTEMPTS : Nat := 0x0307
def PIN_MISMATCH : Nat := 0x0401
def CVV_MISMATCH : Nat := 0x0402
def CRYPTOGRAM_MISMATCH : Nat := 0x0403
def MAC_MISMATCH : Nat := 0x0404
def SIGNATURE_INVALID : Nat := 0x0405
def CACHE_FULL : Nat := 0x0501
def NO_ROOM : Nat := 0x0502
def ENTROPY_UNAVAILABLE : Nat := 0x0503
def REPLAY_WINDOW_FULL : Nat := 0x0504
def OPERAND_PAGES : Nat := 0x0505
def ABORTED_KILN_RESET : Nat := 0x0601
def ABORTED_MODE : Nat := 0x0602
def ABORTED_FAULT : Nat := 0x0603
def ABORTED_KILN_LOST : Nat := 0x0604
def NOT_SERVICE : Nat := 0x0701
def DRAINING : Nat := 0x0702
def UNMIRRORED_STRICT : Nat := 0x0703
def NO_LEASE : Nat := 0x0704
def FUNCTION_UNBOUND : Nat := 0x0705
def STANDBY_MODULE : Nat := 0x0706
def OPERAND_ZERO : Nat := 0x0801
def OPERAND_EQ_MODULUS : Nat := 0x0802
def OPERAND_GT_MODULUS : Nat := 0x0803
def MODULUS_INVALID : Nat := 0x0804
def POINT_NOT_ON_CURVE : Nat := 0x0805
def POINT_AT_INFINITY : Nat := 0x0806
def ENCODING_INVALID : Nat := 0x0807

end St

/-- The class of a status is its high byte (R87, R88). -/
def statusClass (st : Nat) : Nat := st / 256

/-- STEP of a ware refused under R84, R118, R375 or R376 (R86). -/
def stepRefused : Nat := 0xFFFF

/-- STEP of a graph-wide preparation failure (R86, R206). -/
def stepGraph : Nat := 0xFFFE

end Sys2Proof.Machine
end

