-- ==== Sys2Proof/Machine/Attr.lean ====
section
/-! DEFINITION. The 64-bit attribute word of a key (R220 to R223) and what a code requires of it. -/

namespace Sys2Proof.Machine

/-- A key as a firing reaches it: where it came from, its attribute word and its material. -/
structure KeyVal where
  handle : Nat := 0
  attr : Nat := 0
  material : Bytes := []
  serial : Nat := 0
  bepoch : Nat := 0
  deriving DecidableEq, Repr

/-! ## Fields of ATTR (R220) -/

def attrUsage (a : Nat) : Nat := field a 0 8
def attrMode (a : Nat) : Nat := field a 8 4
def attrAlg (a : Nat) : Nat := field a 12 4
def attrSize (a : Nat) : Nat := field a 16 14
def attrExport (a : Nat) : Nat := field a 30 2
def attrGroups (a : Nat) : Nat := field a 32 10
def attrTokenise (a : Nat) : Bool := bitAt a 42
def attrWorld (a : Nat) : Bool := bitAt a 43
def attrPrivate (a : Nat) : Bool := bitAt a 44
def attrLc (a : Nat) : Nat := field a 48 4
def attrVersion (a : Nat) : Nat := field a 56 8
/-- the reserved bits [47:45] and [55:52] -/
def attrReserved (a : Nat) : Nat := field a 45 3 + field a 52 4

/-! ## Codes (R220 to R222) -/

namespace Alg
def AES : Nat := 1
def TDES : Nat := 2
def HMAC : Nat := 3
def RSA : Nat := 4
def NIST : Nat := 5
def EDW : Nat := 6
def MLKEM : Nat := 7
def MLDSA : Nat := 8
end Alg

namespace Us
def B0 : Nat := 0x01
def B1 : Nat := 0x02
def C0 : Nat := 0x10
def D0 : Nat := 0x20
def D1 : Nat := 0x21
def E0 : Nat := 0x30
def E1 : Nat := 0x31
def E2 : Nat := 0x32
def K0 : Nat := 0x40
def K1 : Nat := 0x41
def K2 : Nat := 0x42
def K3 : Nat := 0x43
def M1 : Nat := 0x50
def M3 : Nat := 0x51
def M6 : Nat := 0x52
def M7 : Nat := 0x53
def P0 : Nat := 0x60
def S0 : Nat := 0x70
def V1 : Nat := 0x80
def V2 : Nat := 0x81
end Us

namespace Md
def B : Nat := 1
def C : Nat := 2
def D : Nat := 3
def E : Nat := 4
def G : Nat := 5
def N : Nat := 6
def S : Nat := 7
def V : Nat := 8
def X : Nat := 9
def Y : Nat := 10
end Md

/-- The ALG values R221 permits for a USAGE; the empty list is a usage the table does not list. -/
def usageAlgs (u : Nat) : List Nat :=
  if u = Us.B0 then [Alg.AES, Alg.TDES] else if u = Us.B1 then [Alg.AES]
  else if u = Us.C0 then [Alg.TDES] else if u = Us.D0 then [Alg.AES, Alg.TDES]
  else if u = Us.D1 then [Alg.RSA]
  else if u = Us.E0 ∨ u = Us.E1 ∨ u = Us.E2 then [Alg.AES, Alg.TDES]
  else if u = Us.K0 ∨ u = Us.K1 then [Alg.AES, Alg.TDES]
  else if u = Us.K2 then [Alg.RSA]
  else if u = Us.K3 then [Alg.NIST, Alg.EDW, Alg.MLKEM]
  else if u = Us.M1 then [Alg.AES, Alg.TDES] else if u = Us.M3 then [Alg.TDES]
  else if u = Us.M6 then [Alg.AES, Alg.TDES] else if u = Us.M7 then [Alg.HMAC]
  else if u = Us.P0 then [Alg.AES, Alg.TDES]
  else if u = Us.S0 then [Alg.RSA, Alg.NIST, Alg.EDW, Alg.MLDSA]
  else if u = Us.V1 then [Alg.AES, Alg.TDES] else if u = Us.V2 then [Alg.TDES]
  else []

/-- A key requirement of a catalogue: usages, modes and algorithms; an empty list admits every value. -/
structure KeyReq where
  usages : List Nat := []
  modes : List Nat := []
  algs : List Nat := []
  /-- R220 PRIVATE the role needs: `none` for a symmetric key or either -/
  priv : Option Bool := none
  /-- R220 TOKENISE must be 1 -/
  tokenise : Bool := false
  deriving DecidableEq, Repr

/-- R222: MODE N meets every listed mode where it is listed or the policy permits unrestricted keys. MODE Y meets only "any mode". -/
def modeMeets (modes : List Nat) (unrestricted : Bool) (m : Nat) : Bool :=
  modes.isEmpty || modes.contains m || (m = Md.N && unrestricted)

/-- USAGE, MODE, ALG, TOKENISE and PRIVATE of check 1 of R223. -/
def reqMeets (r : KeyReq) (unrestricted : Bool) (a : Nat) : Bool :=
  (r.usages.isEmpty || r.usages.contains (attrUsage a)) &&
  modeMeets r.modes unrestricted (attrMode a) &&
  (r.algs.isEmpty || r.algs.contains (attrAlg a)) &&
  (!r.tokenise || attrTokenise a) &&
  (match r.priv with | none => true | some p => attrPrivate a == p)

/-- The facts of the saggar's policy and the device that key checks use (R223, R224). -/
structure KeyPolicy where
  unrestricted : Bool := false
  /-- the floor for each ALG, at index ALG − 1 -/
  floors : List Nat := []
  /-- the bit of ATTR [51:48] of the present lifecycle state, `none` where the state has none (R491) -/
  lcBit : Option Nat := none
  /-- the firing runs for Kazkel during a ceremony (R223) -/
  ceremony : Bool := false
  deriving DecidableEq, Repr

/-- The checks of R223 on one key for a code of `group`; `revoked` and `enrolled` are the serial's standing. (DEDUCED, log 120) -/
def keyChecks (p : KeyPolicy) (r : KeyReq) (group a : Nat) (revoked enrolled : Bool) : Option Nat :=
  if !(reqMeets r p.unrestricted a) || !((attrGroups a).testBit (group - 1)) || revoked
      || (attrUsage a = Us.B1 && r.usages.contains Us.B1 && !enrolled) then some St.KEY_USAGE
  else if attrSize a < p.floors.getD (attrAlg a - 1) 0 then some St.POLICY_ALGORITHM
  else if attrWorld a && !p.ceremony then some St.POLICY_WORLD
  else match p.lcBit with
    | none => some St.POLICY_LIFECYCLE
    | some b => if (attrLc a).testBit b then none else some St.POLICY_LIFECYCLE

/-! ## Templates and narrowing (R237, R238) -/

def subsetBits (new old : Nat) : Bool := new &&& old = new

/-- R237: MODE narrows from B to D or E, from C to G or V, from N to any mode of R222, or stays. -/
def modeNarrows (new old : Nat) : Bool :=
  new = old || (old = Md.B && (new = Md.D || new = Md.E)) || (old = Md.C && (new = Md.G || new = Md.V)) ||
  (old = Md.N && decide (1 ≤ new ∧ new ≤ 10))

/-- R237: EXPORT narrows from S to E or N, from E to N, or stays. -/
def exportNarrows (new old : Nat) : Bool :=
  new = old || (old = 2 && (new = 1 || new = 0)) || (old = 1 && new = 0)

/-- R237: every other field equal. -/
def attrNarrower (new old : Nat) : Bool :=
  subsetBits (attrGroups new) (attrGroups old) && subsetBits (attrLc new) (attrLc old) &&
  (attrTokenise new == attrTokenise old || !(attrTokenise new)) &&
  modeNarrows (attrMode new) (attrMode old) && exportNarrows (attrExport new) (attrExport old) &&
  attrUsage new = attrUsage old && attrAlg new = attrAlg old && attrSize new = attrSize old &&
  attrWorld new == attrWorld old && attrPrivate new == attrPrivate old && attrReserved new = attrReserved old &&
  attrVersion new = attrVersion old

/-- The refusals of R238 that hold in every case. -/
def templateCheck (p : KeyPolicy) (t : Nat) : Option Nat :=
  if attrGroups t = 0 || attrLc t = 0 || attrReserved t ≠ 0 || attrVersion t > 99 || attrExport t = 3 then some St.BAD_PARAMETER
  else if (attrWorld t && !p.ceremony) || (attrMode t = Md.N && !p.unrestricted)
      || !((usageAlgs (attrUsage t)).contains (attrAlg t)) then some St.KEY_USAGE
  else none

/-- The SIZE values R220 lists for a symmetric ALG. -/
def sizeOk (alg size : Nat) : Bool :=
  if alg = Alg.AES then [128, 192, 256].contains size
  else if alg = Alg.TDES then [128, 192].contains size
  else if alg = Alg.HMAC then decide (128 ≤ size ∧ size ≤ 1024 ∧ size % 8 = 0)
  else if alg = Alg.RSA then [2048, 3072, 4096].contains size
  else if alg = Alg.NIST then [256, 384, 521].contains size
  else if alg = Alg.EDW then [255, 448].contains size
  else if alg = Alg.MLKEM then [512, 768, 1024].contains size
  else if alg = Alg.MLDSA then [44, 65, 87].contains size
  else false

/-- The order of key strengths in R239: TDES 128, TDES 192, AES 128, AES 192, AES 256. -/
def strength (a : Nat) : Nat :=
  if attrAlg a = Alg.TDES then (if attrSize a ≤ 128 then 1 else 2)
  else if attrSize a ≤ 128 then 3 else if attrSize a ≤ 192 then 4 else 5

end Sys2Proof.Machine
end

