-- ==== Sys2Proof/Machine/KeyTypes.lean ====
section
/-! DEFINITION. The state of saggars, the key store, PAN routing and the key cache (chapters 08, 09 and the saggar
registers of chapters 04 and 10). -/

namespace Sys2Proof.Machine

/-- KST_SAG_s_STAT.STATE (R217). -/
inductive SagState where
  | none | active | erasing
  deriving DecidableEq, Repr

/-- A DUKPT originator enrolment (R187, R234). -/
structure Originator where
  handle : Nat
  serial : Nat
  /-- the highest counter allocated here or received from the active (R187, R188) -/
  allocated : Nat
  deriving DecidableEq, Repr

/-- A range of live blob epochs (R229). -/
structure BepochRange where
  current : BitVec 16 := 0
  oldest : BitVec 16 := 0
  deriving DecidableEq, Repr

/-- The parts of a saggar that a policy epoch fixes: a ware sees those of its own epoch (R116, R117). -/
structure PolicyView where
  /-- the saggar-wide part of the policy record, bytes 0 to 127 (R326) -/
  wide : Bytes := zeros 128
  /-- the variant parts, bytes 128 to 255, by policy set (R254, R326) -/
  variants : SMap Bytes := []
  bepochs : BepochRange := {}
  deriving DecidableEq, Repr

/-- The whole 256-byte record of one variant (R326). -/
def PolicyView.record (v : PolicyView) (variant : Nat) : Bytes := v.wide ++ mget (zeros 128) v.variants variant

/-- One tenant's partition (R216, R217). -/
structure Saggar where
  state : SagState := .none
  /-- loaded master slots (R218) -/
  slots : SMap (Option KeyVal) := []
  /-- CNONCE(s), in NOR flash (R216) -/
  cnonce : Bytes := []
  /-- slot images of the module in NOR flash, by slot (R219) -/
  images : SMap Bytes := []
  /-- BASE_K and SIZE_K (R225) -/
  baseK : Nat := 0
  sizeK : Nat := 0
  cacheQuota : Nat := 0
  extQuota : Nat := 0
  pol : PolicyView := {}
  /-- the policy of the epoch before, which wares stamped earlier keep (R116, R230) -/
  polOld : PolicyView := {}
  wraps : Word := 0
  /-- the revocation list: serial and the epoch it is tagged with (R233) -/
  revoked : List (Nat × Nat) := []
  origs : List Originator := []
  /-- TR-34 sending hosts: serial and the highest timestamp admitted (R241) -/
  hosts : List (Nat × Nat) := []
  /-- resident handles in order of insertion (R263) -/
  residence : List Nat := []
  /-- a blob epoch retired by the change in progress (R230) -/
  retired : Option (BitVec 16) := none
  /-- SET_SAG_s_EPOCH -/
  epoch : BitVec 16 := 0
  busy : Bool := false
  mixed : Bool := false
  /-- the glaze level of the epoch before, while a glaze level change runs (R117, R132) -/
  glazeFrom : Option (BitVec 16) := none
  /-- kilns that have not confirmed the epoch notice (R117) -/
  awaiting : List Nat := []
  /-- SET_SAG_s_DEMOTED (R103) -/
  demoted : Word := 0
  /-- the key store's quorum latch, set by the shard combiner (R219) -/
  latch : Bool := false
  /-- drained by command (R325) or by its erasure (R217) -/
  drained : Bool := false
  /-- attempts counted in the current 1 s window (R177) -/
  attempts : Nat := 0
  /-- PRT_SAG_s_KSET (R253) -/
  ksetBase : Nat := 0
  ksetCount : Nat := 0
  deriving DecidableEq, Repr

/-- A key cache entry (R261). -/
structure CacheEntry where
  owner : Nat
  bepoch : BitVec 16
  key : KeyVal
  /-- the inner store offset of its key extension (R226, R261) -/
  ext : Option Nat := none
  /-- pins held on the entry (R262) -/
  pins : Nat := 0
  /-- invalidated while pinned: it goes when the last pin is released (R262) -/
  doomed : Bool := false
  deriving DecidableEq, Repr

/-- What the key store's write port answered its last operation (R219). -/
inductive PortResult where
  | none | done | slotBusy | notAuthorised
  /-- the tag does not verify, or the header names another target -/
  | badImage
  deriving DecidableEq, Repr

/-- The key store and key cache (chapters 08 and 09). -/
structure KeyStore where
  /-- the write port's last result (R219) -/
  portResult : PortResult := .none
  /-- KST_STAT.HEARTH -/
  hearth : BitVec 2 := 0
  /-- the live hearth key and whether battery-backed RAM holds one that unwraps (R214) -/
  hk : Bytes := []
  stored : Option Bytes := none
  saggars : SMap Saggar := []
  cache : SMap (Option CacheEntry) := []
  hit : Word := 0
  miss : Word := 0
  relearn : Word := 0
  evict : Word := 0
  full : Word := 0
  retry : Word := 0
  /-- the eviction generator's 48 bytes; none after a refused replacement (R264) -/
  evictKey : Option Bytes := none
  /-- values drawn from the generator since (R264) -/
  evictPos : Nat := 0
  deriving DecidableEq, Repr

/-- A segment's state (R256). -/
inductive SegState where
  | free | idle | locked | committing
  deriving DecidableEq, Repr

def segCode : SegState → Nat
  | .free => 0 | .idle => 1 | .locked => 2 | .committing => 3

/-- A routing segment (R248, R256). Slots not listed are 32 zero bytes. -/
structure Segment where
  state : SegState := .free
  hash : Bool := false
  saggar : Nat := 0
  slots : SMap Bytes := []
  /-- the lock shadow (R256) -/
  shadow : SMap Bytes := []
  /-- DMA writes issued before COMMIT still on their way (R257) -/
  unsettled : Bool := false
  deriving DecidableEq, Repr

/-- A row of the associative memory: a committed entry and its saggar (R249). -/
structure CamRow where
  saggar : Nat
  segment : Nat
  slot : Nat
  entry : Bytes
  deriving DecidableEq, Repr

/-- A hash table of a granted saggar (R251). -/
structure HashTable where
  base : Nat
  log2n : Nat
  deriving DecidableEq, Repr

/-- A hash routing grant with its live and pending tables by prefix length (R250 to R252). -/
structure Grant where
  saggar : Option Nat := none
  filter : BitVec 7 := 0
  live : SMap (Option HashTable) := []
  waiting : SMap (Option HashTable) := []
  deriving DecidableEq, Repr

/-- PAN routing (chapter 09). -/
structure Routing where
  lockMaxMs : BitVec 16 := 0x03E8
  busy : Bool := false
  /-- the segment of the PRT_CMD that runs -/
  busySeg : Nat := 0
  result : BitVec 3 := 0
  failed : Nat := 0
  segSel : BitVec 18 := 0
  routed : Word := 0
  noRoute : Word := 0
  malformed : Word := 0
  segments : SMap Segment := []
  rows : List CamRow := []
  grants : SMap Grant := []
  /-- issuer key sets, 64 bytes each (R253) -/
  ksets : SMap Bytes := []
  deriving DecidableEq, Repr

end Sys2Proof.Machine
end

