-- ==== Sys2Proof/Machine/MirrorTypes.lean ====
section
/-! DEFINITION. The state of the mirror link, the replay window and the witness port (chapter 14). -/

namespace Sys2Proof.Machine

/-- MIR_STAT.LINK (R367). -/
inductive Link where
  | unpaired | down | training | securing | resync | mirrored
  deriving DecidableEq, Repr

def linkCode : Link → Nat
  | .unpaired => 0 | .down => 1 | .training => 2 | .securing => 3 | .resync => 4 | .mirrored => 5

/-- The pair record of NOR flash (R361); TERM and GEN stand in the registers. -/
structure PairRec where
  peer : Nat
  slot1 : Bool
  pk : Bytes
  boot : Nat := 0
  deriving DecidableEq, Repr

/-- One delta (R368). -/
inductive Delta where
  | replay (saggar rid code : Nat) (digest : Bytes) (status step : Nat) (inline unmirrored : Bool) (result : Bytes)
  | counter (saggar handle serial n : Nat)
  | timestamp (saggar serial ts : Nat)
  | control (code : Nat) (payload : Bytes)
  | keyxfer (saggar : Nat) (wrapped : Bytes)
  deriving DecidableEq, Repr

/-- A delta group: its SEQ, the ware that wrote it (none for a Kazkel action) and its deltas (R368). -/
structure Group where
  seq : Nat
  tag : Option Nat
  deltas : List Delta
  sent : Bool := false
  deriving DecidableEq, Repr

/-- What Kazkel does once a CONTROL group is acknowledged or given up (R328, R370): the command of a mailbox, an automatic blob
epoch advance, or the commit of a ceremony. -/
inductive Control where
  | mailbox (fn box : Nat)
  | advance (saggar : Nat)
  | ceremony
  deriving DecidableEq, Repr

/-- A replay entry (R374, R375). -/
structure ReplayEntry where
  code : Nat
  digest : Bytes
  status : Nat := 0
  step : Nat := 0
  inline : Bool := true
  unmirrored : Bool := false
  result : Bytes := []
  complete : Bool := false
  /-- the ware that reserved it, and the attached wares, first attached first (R376) -/
  owner : Nat := 0
  attached : List Nat := []
  deriving DecidableEq, Repr

/-- A pairing authorisation (R362). -/
structure PairAuth where
  peer : Nat
  standbyRole : Bool
  deriving DecidableEq, Repr

/-- The pairing steps of R363 completed so far, with what they gathered. -/
structure Pairing where
  step : Nat := 0
  transcript : Bytes := []
  peerKey : Bytes := []
  ephemeral : Bytes := []
  kemKey : Bytes := []
  deriving DecidableEq, Repr

/-- A switchback in progress (R385): the mailbox that waits and the step reached. -/
structure Switchback where
  mbx : Nat
  handedOver : Bool := false
  deriving DecidableEq, Repr

/-- The mirror engine and the witness port (chapter 14). -/
structure Mirror where
  link : Link := .unpaired
  active : Bool := false
  /-- 0 none, 1 one, 2 two, 3 four lanes -/
  lanes : BitVec 2 := 0
  term : Word := 0
  gen : Word := 0
  warmKilns : Nat := 8
  pair : Option PairRec := none
  auth : Option PairAuth := none
  pairing : Pairing := {}
  /-- session keys: slot 0 to slot 1, then the reverse; the nonces of the bring-up (R366) -/
  session : Bytes := []
  nonceOwn : Bytes := []
  noncePeer : Bytes := []
  fcountTx : Nat := 0
  fcountRx : Nat := 0
  /-- the last SEQ taken, the highest acknowledged and the highest applied (R368, R370, R371) -/
  seq : Nat := 0
  acked : Nat := 0
  applied : Nat := 0
  /-- the delta log of the active, oldest first (R372) -/
  dlog : List Group := []
  /-- changes that wait for the acknowledgement of their CONTROL group, by SEQ (R370) -/
  controls : List (Nat × Control) := []
  /-- resynchronisation (R373): a snapshot has begun to arrive, with the saggars it listed so far; this module is the source; it has
  asked as the receiver -/
  resyncFull : Bool := false
  resyncSource : Bool := false
  resyncAsked : Bool := false
  snapSeen : List Nat := []
  /-- the boot number of the last RESYNC_REQ, and the one with which the peer was last MIRRORED as receiver (R373) -/
  askBoot : Option Nat := none
  peerBoot : Option Nat := none
  replay : SMap (Option ReplayEntry) := []
  /-- the RTC at the reset that lost the replay window, on a paired module (R382) -/
  lostAt : Option Nat := none
  /-- the link left MIRRORED through loss of frames, and nothing of R386 has happened since (R382) -/
  lossOnly : Bool := false
  badTag : BitVec 8 := 0
  order : BitVec 8 := 0
  nack : BitVec 8 := 0
  peerErr : BitVec 8 := 0
  irq : BitVec 9 := 0
  /-- the peer's last HEARTBEAT: mode, TERM, GEN, READY, applied -/
  peerReady : Bool := false
  /-- GEN has risen since the link left MIRRORED (R378) -/
  genRaised : Bool := false
  /-- a GRANT has answered a REQUEST that carried the raised GEN (R378) -/
  genGranted : Bool := false
  /-- the witness port (R379, R380) -/
  lease : Bool := false
  remainMs : Nat := 0
  witSeq : Nat := 0
  witLast : Nat := 0
  /-- REQUESTs of the last 50 ms: low SEQ word and the GEN carried, newest first -/
  requests : List (Nat × Word) := []
  badMac : BitVec 8 := 0
  oldSeq : BitVec 8 := 0
  stray : BitVec 8 := 0
  refusedErr : BitVec 8 := 0
  grants : Word := 0
  switchback : Option Switchback := none
  /-- originator ceilings in NOR flash at saggar and serial (R382) -/
  ceilings : List ((Nat × Nat) × Nat) := []
  deriving DecidableEq, Repr

end Sys2Proof.Machine
end

