-- ==== Sys2Proof/Machine/PlantTypes.lean ====
section
/-! DEFINITION. The state of the event recorder, the cones, modes, power, clocks, lifecycle and DMA engine (chapters 17 to
21). -/

namespace Sys2Proof.Machine

/-- What a producer hands the recorder (R432, R434). -/
structure Event where
  stream : Nat
  source : Nat
  code : Nat
  fn : Nat := 0xFFFF
  data : Bytes := []
  reserved : Bool := false
  deriving DecidableEq, Repr

/-- A record (R432). CHECK is the CRC-32C of the bytes the fields spell. -/
structure Rec where
  seq : Nat
  rtc : Nat
  stream : Nat
  source : Nat
  code : Nat
  count : Nat
  flags : Nat
  mode : Nat
  fn : Nat
  data : Bytes
  gpos : Nat
  deriving DecidableEq, Repr

/-- A block of the log partition in a stream (R443, R444). -/
structure LogBlock where
  index : Nat
  serial : Nat
  erases : Nat
  budget : Int
  firstSeq : Nat
  /-- slots taken after the header, those left erased to close pages (R446) included, 0 to 2,047 -/
  used : Nat := 0
  /-- the records in its slots, oldest first -/
  recs : List Rec := []
  /-- a program or erase of it failed: it does not return to the pool (R445) -/
  bad : Bool := false
  deriving DecidableEq, Repr

/-- A stream (R435, R436, R444). -/
structure LogStream where
  next : Nat := 1
  keepFirst : Bool := false
  quota : Nat := 3
  first : Nat := 0
  /-- the serial of the last block opened -/
  opened : Nat := 0
  /-- blocks held, oldest first -/
  blocks : List LogBlock := []
  /-- the next record is the stream's first since a boot -/
  bootMark : Bool := true
  deriving DecidableEq, Repr

/-- An open coalescing window (R439). -/
structure Window where
  stream : Nat
  source : Nat
  code : Nat
  folded : Nat := 0
  fn : Nat := 0xFFFF
  data : Bytes := []
  deriving DecidableEq, Repr

/-- A unit's intake bucket and the drops of the present 10 ms (R440). -/
structure Bucket where
  level : Nat := 0x400
  dropped : Nat := 0
  firstCode : Nat := 0
  lastCode : Nat := 0
  deriving DecidableEq, Repr

/-- The flush under way (R446). -/
inductive Flush where
  | none
  /-- a fault flush up to a position -/
  | fault (upTo : Nat)
  /-- a power-fail flush: normal records not reached -/
  | power
  deriving DecidableEq, Repr

/-- The event recorder (chapter 17). -/
structure Recorder where
  gpos : Nat := 0
  /-- ring slots by GPOS mod 32,768 (R441) -/
  ring : SMap (Option Rec) := []
  /-- positions of unsettled records, oldest first -/
  unsettled : List Nat := []
  /-- reserved-lane records held by their producers, oldest first (R441) -/
  held : List Event := []
  windows : List Window := []
  buckets : SMap Bucket := []
  /-- streams 256 and 257 start with their fixed quotas and default policies (R444) -/
  streams : SMap LogStream := [(256, { quota := 96, keepFirst := true, first := 16 }), (257, { quota := 32 })]
  /-- erased blocks and their erase counts, the free pool (R444, R445) -/
  free : List (Nat × Nat) := (List.range 1024).map fun b => (b, 0)
  /-- blocks being erased, with their erase counts -/
  erasing : List (Nat × Nat) := []
  budget : Int := 1048576
  /-- the level in the newest block header, from which a boot restores it (R445) -/
  headerBudget : Int := 1048576
  /-- records skipped in the present second and the first of them (R445) -/
  skipCount : Nat := 0
  skipFirst : Nat := 0
  flush : Flush := .none
  /-- the writer has stopped for the loss of power (R446) -/
  stopped : Bool := false
  dropped : Word := 0
  skipped : Word := 0
  irq : BitVec 4 := 0
  periodMs : Nat := 0x3E8
  paceUs : Nat := 0x064
  rate : Nat := 0x40
  burst : Nat := 0x400
  /-- PF vectors 16 to 21 within their pacing interval, and whether a cause rose meanwhile: (vector, again) by port (R442) -/
  pacing : List (Nat × Bool) := []
  /-- LOG_GRANT: streams 256 and 257 by function (R437) -/
  grants : SMap (BitVec 2) := []
  deriving DecidableEq, Repr

/-- A kiln's cone figures (R453 to R464). -/
structure ConeKiln where
  fmax : BitVec 5 := 0
  vmin : BitVec 6 := 0
  rodeg : BitVec 16 := 0
  hours : BitVec 16 := 0
  count : BitVec 16 := 0
  years : BitVec 16 := 0xFFFF
  canary : Bool := false
  due : Bool := false
  overdue : Bool := false
  /-- the history points of NOR flash, newest first: RTC, FMAX, RODEG, stress hours (R462) -/
  history : List (Nat × BitVec 5 × BitVec 16 × Nat) := []
  deriving DecidableEq, Repr

/-- A block's cone figures outside the kilns (R464). -/
structure ConeBlock where
  rodeg : BitVec 16 := 0
  canary : Bool := false
  years : BitVec 16 := 0xFFFF
  deriving DecidableEq, Repr

/-- The cones and margin plans (chapter 18). -/
structure Cones where
  winStart : Nat := 120
  winLen : Nat := 240
  floor : Nat := 0
  reportH : Nat := 24
  round : Bool := false
  irq : BitVec 8 := 0
  sparesYrs : BitVec 16 := 0xFFFF
  cap75Yrs : BitVec 16 := 0xFFFF
  kilns : SMap ConeKiln := []
  blocks : SMap ConeBlock := []
  /-- the retirement list of NOR flash (R459) -/
  retired : List Nat := []
  /-- the last kiln not RETIRED failed its measurement or was fenced: the device stays in DRAIN (R460) -/
  lastLost : Bool := false
  /-- kilns to be measured next, out of window (R459 step 4, R461) -/
  queue : List Nat := []
  deriving DecidableEq, Repr

/-- The modes of R465. -/
inductive Mode where
  | dormant | boot | ceremony | service | standby | drain | safe | erased
  deriving DecidableEq, Repr

def modeCode : Mode → Nat
  | .dormant => 0 | .boot => 1 | .ceremony => 2 | .service => 3 | .standby => 4 | .drain => 5 | .safe => 6 | .erased => 7

/-- Modes, power, clocks and resets (chapter 19). -/
structure Modes where
  mode : Mode := .boot
  prev : Mode := .dormant
  cause : BitVec 2 := 0
  bootStep : Nat := 0
  /-- MOD_RESET -/
  lastReset : BitVec 2 := 0
  warmCause : BitVec 4 := 0
  boots : BitVec 16 := 0
  bootMs : BitVec 16 := 0
  /-- the functions became ready: boot step 9, or 900 ms after the release of reset (R469) -/
  fnsReady : Bool := false
  /-- what the boot under way finds outside the state: the stored hearth unwraps (R214), the pair record verifies (R470) -/
  unwraps : Bool := true
  pairOk : Bool := true
  /-- a hearth was generated at this boot (R470) -/
  hearthMade : Bool := false
  parkEnable : Bool := true
  minAwake : Nat := 0x10
  /-- PWRFAIL_N is low (R477) -/
  pwrfail : Bool := false
  /-- CLK_STAT -/
  pll : BitVec 7 := 0
  refclkOk : Bool := false
  mrclkOk : Bool := false
  xtalOk : Bool := false
  /-- the RTC in the format of R408 -/
  rtc : BitVec 64 := 0
  /-- CLK_RTC_HI, latched by a read of CLK_RTC_LO -/
  rtcHi : Word := 0
  /-- the backup domain lost its power and the loss is not yet recorded (R479, R523) -/
  rtcLost : Bool := false
  /-- the backup domain has power (R522, R523) -/
  backup : Bool := true
  /-- a DRAIN of scope 0 is in force (R325, R468) -/
  cmdDrain : Bool := false
  /-- consecutive busy windows above 70 %, and below 35 % (R476) -/
  highRun : Nat := 0
  lowRun : Nat := 0
  /-- windows of 1 ms until a kiln may be parked again (R476) -/
  parkedLately : Nat := 0
  deriving DecidableEq, Repr

/-- DMA_c_STAT.STATE (R510, R511). -/
inductive DmaState where
  | disabled | idle | running | preempted
  deriving DecidableEq, Repr

def dmaCode : DmaState → Nat
  | .disabled => 0 | .idle => 1 | .running => 2 | .preempted => 3

/-- A DMA channel (R502 to R511). -/
structure Channel where
  enable : Bool := false
  pollUs : BitVec 8 := 0x0A
  log2 : Nat := 4
  fn : Nat := 0
  lent : Bool := false
  prioMax : Nat := 0
  ring : Addr := 0
  index : Nat := 0
  state : DmaState := .disabled
  lastCause : BitVec 4 := 0
  done : Word := 0
  bad : Word := 0
  /-- the descriptor being executed, copied from its slot (R502) -/
  desc : Bytes := []
  /-- bytes of it that have left the engine, and the data moved -/
  moved : Nat := 0
  halfDone : Bool := false
  /-- the slot read asked for is under way -/
  reading : Bool := false
  deriving DecidableEq, Repr

/-- The states of the lifecycle (R481). -/
inductive LcState where
  | blank | testOpen | testSealed | personalised | field | fieldService | returned | scrapped | invalid
  deriving DecidableEq, Repr

def lcCode : LcState → Nat
  | .blank => 0 | .testOpen => 1 | .testSealed => 2 | .personalised => 3 | .field => 4 | .fieldService => 5
  | .returned => 6 | .scrapped => 7 | .invalid => 15

/-- The lifecycle controller (chapter 20). -/
structure Lifecycle where
  /-- the ledger: the codewords of the slots burned, in slot order (R483) -/
  ledger : List (BitVec 128) := []
  /-- the state in force, decoded at boot (R484, R489) -/
  state : LcState := .blank
  pending : Bool := false
  busy : Bool := false
  target : BitVec 4 := 0
  outcome : BitVec 4 := 0
  token : List Word := List.replicate 4 0
  /-- the armed purpose, 0 none, and the RTC at its arming (R497) -/
  purpose : BitVec 2 := 0
  armedAt : Nat := 0
  /-- the record of the outstanding challenge (R495) -/
  challenge : Bytes := []
  /-- an accepted transition has closed the guard lines, until the next reset (R488, R489) -/
  guarded : Bool := false
  /-- control pairs halted by JTAG_ and the breakpoints set in them (R493) -/
  halted : BitVec 2 := 0
  breakpoints : List (Nat × Nat) := []
  /-- what PRELOAD has left in the boundary scan cells, and whether EXTEST drives the balls from them (R493) -/
  boundary : Nat := 0
  extest : Bool := false
  /-- the factory memory test modes have been entered, and the words they have written, by array and address (R494) -/
  factory : Bool := false
  arrays : List ((Nat × Nat) × Word) := []
  deriving DecidableEq, Repr

end Sys2Proof.Machine
end

