-- ==== Sys2Proof/Machine/CmdTypes.lean ====
section
/-! DEFINITION. The records that commands carry from outside: boot facts, link frames, snapshots, DMA ends. -/

namespace Sys2Proof.Machine

/-- What a boot finds outside the state: the PE_SPLIT pin (R41), the signature verdicts of the two Kazkel slots (R337), whether
the stored hearth unwraps under the PUF key (R214) and whether the pair record verifies (R470). -/
structure BootFacts where
  split : Bool := false
  okA : Bool := true
  okB : Bool := true
  unwraps : Bool := true
  pairOk : Bool := true
  deriving DecidableEq, Repr

/-- What IDE_KM programs: the link stream (0) or a selective stream (1 to 4), and its key (R66). -/
structure StreamKey where
  stream : Nat
  key : Bytes
  deriving DecidableEq, Repr

/-- A certificate slot, and the nonce or public key that a request for it carries (R67). -/
structure SlotData where
  slot : Nat
  data : Bytes
  deriving DecidableEq, Repr

/-- A portion of a certificate chain (R67). -/
structure Portion where
  offset : Nat
  length : Nat
  deriving DecidableEq, Repr

/-- Consecutive samples of a noise source (R292). -/
structure SourceRun where
  source : Nat
  samples : List Bool
  deriving DecidableEq, Repr

/-- What the conditioner meets for a block: the verdict of its known-answer test and the samples of each source (R296, R301). -/
structure BlockRun where
  selfTest : Bool
  samples : List (List Bool)
  deriving DecidableEq, Repr

/-- The role and the glaze level that a HELLO states (R362, R366). -/
structure HelloOffer where
  standbyRole : Bool
  glaze : BitVec 16
  deriving DecidableEq, Repr

/-- The header of a received link frame (R366): its counter, whether its tag verifies, and whether it is the eighth in 1 ms
whose tag fails (R386). -/
structure FrameHdr where
  fcount : Nat
  tagOk : Bool := true
  eighth : Bool := false
  deriving DecidableEq, Repr

/-- A snapshot entry of a full resynchronisation (R373). -/
inductive Snap where
  | replay (saggar rid : Nat) (e : ReplayEntry)
  | saggar (s : Nat) (r : Saggar)
  | roster (s : Nat) (r : Roster)
  deriving DecidableEq, Repr

/-- How the data movement of a DMA descriptor ended (R506), with the bytes that had reached the destination; for a complete
one, the bytes read from host memory. -/
inductive DmaEnd where
  | done (data : Bytes)
  | srcRead (written : Bytes)
  | dstWrite (written : Bytes)
  | access (bank : Nat) (written : Bytes)
  deriving DecidableEq, Repr

/-- What a measurement of a kiln found (R454): FMAX as a FREQ code, none when the replicas fail at code 0; VMIN(F) as a VOLT
code; the ring oscillator loss; whether the canaries pass at (F, V). -/
structure Measured where
  fmax : Option Nat
  vmin : Nat
  rodeg : Nat
  canaryOk : Bool
  deriving DecidableEq, Repr

/-- A VOLT code is 0 to 40 and a probed FREQ code 0 to 24 (R453, R454). -/
def Measured.ok (m : Measured) : Bool := decide (m.vmin ≤ 40) && m.fmax.all fun f => decide (f ≤ 24)

/-- What a lifecycle transition finds outside the state (R486, R488): the identity certificate is programmed, the second
evaluations agree (step 2), a tamper response of GUARD or stronger or a device GRAVE comes before the burn (R490), the erase is
confirmed (step 5), and the bits the burned slot reads back (steps 6 and 7). -/
structure LcFacts where
  certificate : Bool := true
  secondOk : Bool := true
  stopped : Bool := false
  confirmed : Bool := true
  readBack : BitVec 128
  deriving DecidableEq, Repr

end Sys2Proof.Machine
end

