-- ==== Sys2Proof/Syntax.lean ====
section
/-! DEFINITION. The commands: one constructor per row of spec/opcode_table.json, with what the outside supplies (a function,
a ring, a tag, a kiln, the bytes read, a verdict). -/

namespace Sys2Proof

open Machine in
/-- A command of the block. Operands are the facts of the event that the spec leaves to the outside. -/
inductive Instr where
  /-- POWER_ON (R469). -/
  | powerOn (facts : BootFacts)
  /-- PIN_RESET (R471). -/
  | pinReset (facts : BootFacts)
  /-- WARM_RESET (R471). -/
  | warmReset (cause : Nat) (facts : BootFacts)
  /-- BOOT_END (R470). -/
  | bootEnd (ms : Nat)
  /-- BOOT_READY_TIMEOUT (R469). -/
  | bootReadyTimeout
  /-- PWRFAIL_FALL (R477). -/
  | pwrfailFall
  /-- PWRFAIL_RISE (R477). -/
  | pwrfailRise
  /-- MAIN_RAIL_LOSS (R466). -/
  | mainRailLoss
  /-- HOST_PORT_RESET (R44). -/
  | hostPortReset (portB : Bool)
  /-- HOST_PORT_READY (R45). -/
  | hostPortReady (portB : Bool)
  /-- D3HOT_ENTER (R46). -/
  | d3hotEnter (portB : Bool)
  /-- D0_ENTER (R46). -/
  | d0Enter (portB : Bool)
  /-- FLR (R59). -/
  | flr (fn : Nat)
  /-- FLR_COMPLETE (R59). -/
  | flrComplete (fn : Nat)
  /-- VF_REMOVE (R49). -/
  | vfRemove (portB : Bool) (numVfs : Nat)
  /-- BAR_ALIGN_VIOLATION (R69). -/
  | barAlignViolation (fn : Nat) (read : Bool) (offset : Nat)
  /-- BAR_UNMAPPED_ACCESS (R69). -/
  | barUnmappedAccess (fn : Nat) (read : Bool) (offset : Nat)
  /-- POISONED_BAR_WRITE (R69). -/
  | poisonedBarWrite (fn : Nat)
  /-- VIOL_WINDOW_EXPIRE (R70). -/
  | violWindowExpire
  /-- VIOL_LIMIT_WRITE (R70). -/
  | violLimitWrite (fn : Nat) (value : Word)
  /-- QUARANTINE_LIFT (R70). -/
  | quarantineLift (portB : Bool)
  /-- IDE_UNSECURED_REQUEST (R66). -/
  | ideUnsecuredRequest (fn : Nat)
  /-- IDE_KM (R66). -/
  | ideKm (portB : Bool) (km : StreamKey)
  /-- DOE_DISCOVERY (R46). -/
  | doeDiscovery (portB : Bool) (index : Nat)
  /-- GET_VERSION (R67). -/
  | getVersion (portB : Bool)
  /-- GET_CAPABILITIES (R67). -/
  | getCapabilities (portB : Bool)
  /-- NEGOTIATE_ALGORITHMS (R67). -/
  | negotiateAlgorithms (portB offers : Bool)
  /-- GET_DIGESTS (R67). -/
  | getDigests (portB : Bool)
  /-- GET_CERTIFICATE (R67). -/
  | getCertificate (portB : Bool) (slot : Nat) (part : Portion)
  /-- CHALLENGE (R67). -/
  | challenge (portB : Bool) (ask : SlotData)
  /-- GET_MEASUREMENTS (R68). -/
  | getMeasurements (portB : Bool) (index : Nat) (nonce : Bytes)
  /-- KEY_EXCHANGE (R67). -/
  | keyExchange (portB : Bool) (ask : SlotData)
  /-- FINISH (R67). -/
  | finish (portB verifies : Bool)
  /-- SPDM_HEARTBEAT (R67). -/
  | spdmHeartbeat (portB : Bool)
  /-- KEY_UPDATE (R67). -/
  | keyUpdate (portB : Bool)
  /-- END_SESSION (R67). -/
  | endSession (portB : Bool)
  /-- MSIX_VECTOR_UNMASK (R95). -/
  | msixVectorUnmask (fn vector : Nat)
  /-- DPL_SELECT_CHANGE (R64). -/
  | dplSelectChange (fn : Nat) (select : Bool)
  /-- DPL_SWITCHED (R64). -/
  | dplSwitched (fn : Nat)
  /-- DPL_READ_FAIL (R65). -/
  | dplReadFail (fn : Nat)
  /-- SQ_DOORBELL (R99). -/
  | sqDoorbell (fn ring : Nat) (value : Word)
  /-- CQ_DOORBELL (R96). -/
  | cqDoorbell (fn ring : Nat) (value : Word)
  /-- DESCRIPTOR_FETCH_ISSUE (R77). -/
  | descriptorFetchIssue (fn ring : Nat)
  /-- DESCRIPTOR_ARRIVE (R76). -/
  | descriptorArrive (fn ring tag : Nat) (desc : Bytes)
  /-- DESC_FETCH_FAIL (R99). -/
  | descFetchFail (fn ring : Nat)
  /-- RING_ERROR_SETTLE (R543). -/
  | ringErrorSettle (fn ring : Nat)
  /-- RING_ENABLE (R97). -/
  | ringEnable (fn ring : Nat) (value : Word)
  /-- RING_DISABLE (R98). -/
  | ringDisable (fn ring : Nat)
  /-- RING_DISABLED (R98). -/
  | ringDisabled (fn ring : Nat)
  /-- RING_RESET (R100). -/
  | ringReset (fn ring : Nat)
  /-- RING_RESET_COMPLETE (R100). -/
  | ringResetComplete (fn ring : Nat)
  /-- RING_IDLE_MOVE (R80). -/
  | ringIdleMove (fn ring : Nat)
  /-- PAN_EXT_READ_DONE (R246). -/
  | panExtReadDone (tag : Nat) (data : Option Bytes)
  /-- WARE_CLASSIFY (R102). -/
  | wareClassify (tag : Nat)
  /-- DISPATCH (R106). -/
  | dispatch
  /-- EXTENSION_FETCH_DONE (R144). -/
  | extensionFetchDone (tag : Nat) (data : Option Bytes)
  /-- DATA_FETCH_DONE (R144). -/
  | dataFetchDone (tag : Nat) (data : Option Bytes)
  /-- ENGINE_TAKE_WARE (R111). -/
  | engineTakeWare (kiln engine : Nat)
  /-- KEY_CACHE_FETCH_DONE (R22). -/
  | keyCacheFetchDone (tag : Nat)
  /-- BLOB_HEADER_READ_DONE (R228). -/
  | blobHeaderReadDone (tag : Nat) (data : Option Bytes)
  /-- BLOB_BODY_READ_DONE (R228). -/
  | blobBodyReadDone (tag : Nat) (data : Option Bytes)
  /-- RETURN_BACKOFF_EXPIRE (R542). -/
  | returnBackoffExpire (tag : Nat)
  /-- FIRING_END (R135). -/
  | firingEnd (tag : Nat)
  /-- GRAPH_STEP_END (R208). -/
  | graphStepEnd (tag : Nat)
  /-- WARE_RELEASE (R20). -/
  | wareRelease (tag : Nat) (merge : Bool)
  /-- MERGE_DELAY_EXPIRE (R94). -/
  | mergeDelayExpire (fn ring : Nat)
  /-- COAL_TIMER_EXPIRE (R95). -/
  | coalTimerExpire (fn ring : Nat)
  /-- EPOCH_CHANGE (R117). -/
  | epochChange (saggar : Option Nat)
  /-- EPOCH_NOTICE (R117). -/
  | epochNotice (saggar kiln : Nat)
  /-- EPOCH_CONFIRM_TIMEOUT (R119). -/
  | epochConfirmTimeout (saggar kiln : Nat)
  /-- EPOCH_KILN_LOST (R119). -/
  | epochKilnLost (saggar kiln : Nat)
  /-- BUSY_WINDOW_END (R124). -/
  | busyWindowEnd (engines wheels : List (BitVec 16)) (limitReached : Bool)
  /-- SNAPSHOT_TAKE (R125). -/
  | snapshotTake (fn : Nat)
  /-- SNAPSHOT_DONE (R125). -/
  | snapshotDone
  /-- ATTEMPT_WINDOW_RESET (R177). -/
  | attemptWindowReset
  /-- KILN_RESET_RUN (R152). -/
  | kilnResetRun (kiln cause : Nat) (hashA hashB : Bool)
  /-- GLAZE_BANK_LOAD (R133). -/
  | glazeBankLoad (kiln : Nat) (digest : Option Bool)
  /-- KILN_WAKE (R148). -/
  | kilnWake (kiln : Nat)
  /-- KILN_WAKE_DONE (R148). -/
  | kilnWakeDone (kiln : Nat)
  /-- KILN_DRAIN (R149). -/
  | kilnDrain (kiln why : Nat)
  /-- DRAIN_COMPLETE (R149). -/
  | drainComplete (kiln : Nat)
  /-- DRAIN_ABANDON (R149). -/
  | drainAbandon (kiln : Nat)
  /-- DRAIN_RETRY_TIMER (R457). -/
  | drainRetryTimer (kiln : Nat)
  /-- KILN_PARK (R148). -/
  | kilnPark (kiln : Nat)
  /-- KILN_RETURN_SERVICE (R148). -/
  | kilnReturnService (kiln : Nat)
  /-- KILN_RETIRE (R459). -/
  | kilnRetire (kiln : Nat)
  /-- KEY_INVALIDATE (R140). -/
  | keyInvalidate (saggar : Nat) (handle serial : Option Nat)
  /-- BEPOCH_RETIRE_CLEANUP (R230). -/
  | bepochRetireCleanup (saggar : Nat)
  /-- KEYSTORE_LOAD (R219). -/
  | keystoreLoad (saggar slot : Nat)
  /-- KEYSTORE_CEREMONY_WRITE (R219). -/
  | keystoreCeremonyWrite (saggar slot : Nat) (image : Bytes)
  /-- KEYSTORE_ERASE (R219). -/
  | keystoreErase (saggar slot : Nat)
  /-- PRT_LOCK (R256). -/
  | prtLock (fn segment : Nat)
  /-- PRT_COMMIT (R257). -/
  | prtCommit (fn segment : Nat)
  /-- PRT_ABANDON (R256). -/
  | prtAbandon (fn segment : Nat)
  /-- SEGMENT_WRITES_SETTLED (R257). -/
  | segmentWritesSettled (segment : Nat)
  /-- LOCK_EXPIRE (R256). -/
  | lockExpire (segment : Nat)
  /-- EVICT_KEY_RESEED (R264). -/
  | evictKeyReseed
  /-- PAGE_WIPE (R269). -/
  | pageWipe (saggar : Nat)
  /-- PAGE_WIPE_DONE (R269). -/
  | pageWipeDone (saggar : Nat)
  /-- SOURCE_TEST_FAIL (R294). -/
  | sourceTestFail (run : SourceRun)
  /-- STARTUP_TEST_DONE (R293). -/
  | startupTestDone (run : SourceRun)
  /-- COOLING_EXPIRE (R293). -/
  | coolingExpire (source : Nat)
  /-- CONDITION_BLOCK_DONE (R296). -/
  | conditionBlockDone (run : BlockRun)
  /-- ENTROPY_LATE_TIMEOUT (R300). -/
  | entropyLateTimeout
  /-- SEED_DELIVER (R298). -/
  | seedDeliver (selfTest : Bool)
  /-- ENT_RESEED_ONE (R306). -/
  | entReseedOne (fn drbg : Nat)
  /-- ENT_RESEED_ALL (R306). -/
  | entReseedAll (fn : Nat)
  /-- ENTROPY_WAIT_TIMEOUT (R308). -/
  | entropyWaitTimeout (tag : Nat)
  /-- GO (R312). -/
  | go (fn mailbox : Nat)
  /-- ACK (R312). -/
  | ack (fn mailbox : Nat)
  /-- ABORT (R319). -/
  | abort (fn mailbox : Nat)
  /-- MBX_TAKE (R316). -/
  | mbxTake
  /-- MBX_COMMAND_TIMEOUT (R316). -/
  | mbxCommandTimeout (fn mailbox : Nat)
  /-- HELLO (R322). -/
  | hello (fn mailbox : Nat)
  /-- FN_STATUS (R324). -/
  | fnStatus (fn mailbox : Nat)
  /-- DEVICE_INFO (R324). -/
  | deviceInfo (fn mailbox : Nat)
  /-- FN_BIND (R50). -/
  | fnBind (fn mailbox : Nat)
  /-- FN_UNBIND (R52). -/
  | fnUnbind (fn mailbox : Nat)
  /-- GLOBAL_OWNER (R54). -/
  | globalOwner (fn mailbox : Nat)
  /-- DMA_ACQUIRE (R324). -/
  | dmaAcquire (fn mailbox : Nat)
  /-- DMA_RELEASE (R324). -/
  | dmaRelease (fn mailbox : Nat)
  /-- DMA_RECLAIM (R324). -/
  | dmaReclaim (fn mailbox : Nat)
  /-- STAGE_PAGES (R324). -/
  | stagePages (fn mailbox : Nat)
  /-- SAGGAR_STATUS (R325). -/
  | saggarStatus (fn mailbox : Nat)
  /-- POLICY_READ (R325). -/
  | policyRead (fn mailbox : Nat)
  /-- POLICY_WRITE (R327). -/
  | policyWrite (fn mailbox : Nat)
  /-- QUOTA_SET (R325). -/
  | quotaSet (fn mailbox : Nat)
  /-- DRAIN (R325). -/
  | drain (fn mailbox : Nat)
  /-- UNDRAIN (R325). -/
  | undrain (fn mailbox : Nat)
  /-- SAGGAR_RESET (R325). -/
  | saggarReset (fn mailbox : Nat)
  /-- KEY_DESTROY (R233). -/
  | keyDestroy (fn mailbox : Nat)
  /-- ORIG_ENROL (R234). -/
  | origEnrol (fn mailbox : Nat)
  /-- ORIG_WITHDRAW (R234). -/
  | origWithdraw (fn mailbox : Nat)
  /-- BEPOCH_ADVANCE (R229). -/
  | bepochAdvance (fn mailbox : Nat)
  /-- BEPOCH_RETIRE (R229). -/
  | bepochRetire (fn mailbox : Nat)
  /-- KSET_WRITE (R253). -/
  | ksetWrite (fn mailbox : Nat)
  /-- SEG_LOCK (R329). -/
  | segLock (fn mailbox : Nat)
  /-- SEG_COMMIT (R329). -/
  | segCommit (fn mailbox : Nat)
  /-- SEG_ABANDON (R329). -/
  | segAbandon (fn mailbox : Nat)
  /-- SEG_ASSIGN (R329). -/
  | segAssign (fn mailbox : Nat)
  /-- SEG_RELEASE (R329). -/
  | segRelease (fn mailbox : Nat)
  /-- TABLE_CREATE (R329). -/
  | tableCreate (fn mailbox : Nat)
  /-- TABLE_SWITCH (R251). -/
  | tableSwitch (fn mailbox : Nat)
  /-- TABLE_DELETE (R329). -/
  | tableDelete (fn mailbox : Nat)
  /-- KILN_RESET (R330). -/
  | kilnReset (fn mailbox : Nat) (hashA hashB : Bool)
  /-- ENT_REINSTATE (R330). -/
  | entReinstate (fn mailbox : Nat)
  /-- MARGIN_CONFIG (R458). -/
  | marginConfig (fn mailbox : Nat)
  /-- IMAGE_STAGE (R335). -/
  | imageStage (fn mailbox : Nat) (image : Option Bytes)
  /-- IMAGE_STATUS (R335). -/
  | imageStatus (fn mailbox : Nat)
  /-- IMAGE_ACTIVATE (R336). -/
  | imageActivate (fn mailbox : Nat)
  /-- IMAGE_COMMIT (R338). -/
  | imageCommit (fn mailbox : Nat)
  /-- CER_BEGIN (R355). -/
  | cerBegin (fn mailbox : Nat) (record : Option Bytes)
  /-- CER_STATUS (R358). -/
  | cerStatus (fn mailbox secondsLeft : Nat)
  /-- CER_ABORT (R357). -/
  | cerAbort (fn mailbox : Nat)
  /-- CER_JOURNAL (R358). -/
  | cerJournal (fn mailbox : Nat) (bufferOk : Bool)
  /-- ROSTER_READ (R358). -/
  | rosterRead (fn mailbox : Nat)
  /-- CEREMONY_DRAINED (R355). -/
  | ceremonyDrained
  /-- CEREMONY_TIME_LIMIT (R357). -/
  | ceremonyTimeLimit
  /-- CARD_INSERT (R343). -/
  | cardInsert (port : Nat)
  /-- CARD_DEBOUNCE_EXPIRE (R343). -/
  | cardDebounceExpire (port : Nat)
  /-- CARD_REMOVE (R343). -/
  | cardRemove (port : Nat)
  /-- ATR_RECEIVE (R342). -/
  | atrReceive (port : Nat) (offersT1 : Bool) (atr : Atr)
  /-- ATR_TIMEOUT (R342). -/
  | atrTimeout (port : Nat)
  /-- APDU_TIMEOUT (R342). -/
  | apduTimeout (port : Nat)
  /-- GET_IDENTITY (R345). -/
  | getIdentity (port sw : Nat) (data : Bytes)
  /-- PUT_DEVICE_CERT (R345). -/
  | putDeviceCert (port sw : Nat)
  /-- AUTHENTICATE (R346). -/
  | authenticate (port sw : Nat) (data : Bytes)
  /-- RELEASE_SHARD (R350). -/
  | releaseShard (port sw : Nat) (data : Bytes)
  /-- STORE_SHARD (R355). -/
  | storeShard (port sw : Nat) (data : Bytes)
  /-- PAIR_AUTH_LAPSE (R362). -/
  | pairAuthLapse
  /-- LINK_TRAIN_RETRY (R367). -/
  | linkTrainRetry
  /-- LINK_LANES_LOCK (R367). -/
  | linkLanesLock (lanes : Nat)
  /-- MIRROR_HELLO (R366). -/
  | mirrorHello (uid slot : Nat) (offer : HelloOffer) (nonce : Bytes)
  /-- PAIRING_FRAME (R363). -/
  | pairingFrame (kind : Nat) (data : Bytes)
  /-- DELTA (R371). -/
  | delta (hdr : FrameHdr) (groups : List Group)
  /-- MIRROR_ACK (R370). -/
  | mirrorAck (hdr : FrameHdr) (seq : Nat)
  /-- HEARTBEAT (R367). -/
  | heartbeat (hdr : FrameHdr) (mode : Nat) (term gen : Word) (ready active : Bool) (applied : Nat)
  /-- RESYNC_REQ (R373). -/
  | resyncReq (hdr : FrameHdr) (applied boot : Nat) (keptState : Bool)
  /-- RESYNC_DATA (R373). -/
  | resyncData (hdr : FrameHdr) (items : List Snap)
  /-- RESYNC_DONE (R373). -/
  | resyncDone (hdr : FrameHdr) (term gen : Word) (seq : Nat)
  /-- NACK (R386). -/
  | nack (hdr : FrameHdr)
  /-- KEYXFER (R213). -/
  | keyxfer (hdr : FrameHdr) (saggar : Nat) (keys : List (Nat × KeyVal)) (roster : Roster)
  /-- DELTA_SEND (R370). -/
  | deltaSend
  /-- HEARTBEAT_SEND_TIMER (R367). -/
  | heartbeatSendTimer
  /-- LINK_FRAME_TIMEOUT (R367). -/
  | linkFrameTimeout
  /-- MIRROR_RESET (R367). -/
  | mirrorReset
  /-- CONTROL_ACK_TIMEOUT (R370). -/
  | controlAckTimeout (seq : Nat)
  /-- REPLAY_ENTRY_EXPIRE (R375). -/
  | replayEntryExpire (saggar rid : Nat)
  /-- WITNESS_REQUEST_TIMER (R380). -/
  | witnessRequestTimer
  /-- GRANT (R380). -/
  | grant (frame : Bytes)
  /-- PROMOTE (R383). -/
  | promote (frame : Bytes)
  /-- DEMOTE (R384). -/
  | demote (frame : Bytes)
  /-- NOTICE (R379). -/
  | notice (frame : Bytes)
  /-- LEASE_EXPIRE (R380). -/
  | leaseExpire
  /-- MIR_STATUS (R387). -/
  | mirStatus (fn mailbox : Nat)
  /-- MIR_SWITCHBACK (R385). -/
  | mirSwitchback (fn mailbox : Nat)
  /-- SWITCHBACK_HANDOVER (R385). -/
  | switchbackHandover
  /-- SWITCHBACK_TIMEOUT (R385). -/
  | switchbackTimeout
  /-- MIR_RETRAIN (R387). -/
  | mirRetrain (fn mailbox : Nat)
  /-- TAMPER_SOURCE_ASSERT (R390). -/
  | tamperSourceAssert (source : Nat) (detB : Bool) (cause : Nat) (value : Word)
  /-- TAMPER_SOURCE_DEASSERT (R396). -/
  | tamperSourceDeassert (source : Nat)
  /-- BACKUP_SOURCE_ASSERT (R398). -/
  | backupSourceAssert (source : Nat) (detB : Bool) (cause : Nat) (value : Word)
  /-- DETECTOR_DISAGREE_TIMEOUT (R392). -/
  | detectorDisagreeTimeout (source : Nat)
  /-- DETECTOR_SELF_TEST (R392). -/
  | detectorSelfTest (failed : Option Nat)
  /-- DECISION_SECOND_EVAL (R407). -/
  | decisionSecondEval (decision : Nat) (first second : Word)
  /-- BEAT_INTEGRITY_FAIL (R404). -/
  | beatIntegrityFail (bank : Nat)
  /-- FABRIC_QUIET_TIMEOUT (R405). -/
  | fabricQuietTimeout
  /-- EVIDENCE_COPY (R409). -/
  | evidenceCopy
  /-- ALARM_STAT_CLEAR (R396). -/
  | alarmStatClear (fn : Nat) (value : Word)
  /-- TAMPER_CONFIG_WRITE (R395). -/
  | tamperConfigWrite (fn offset : Nat) (value : Word)
  /-- TAMPER_RECOVER (R412). -/
  | tamperRecover (fn : Nat) (facts : BootFacts)
  /-- FAULT_SOURCE_OCCUR (R416). -/
  | faultSourceOccur (bank source : Nat) (subject : Option Nat)
  /-- BANK_PARITY_FAULT (R427). -/
  | bankParityFault (bank : Nat)
  /-- FAULT_RECOVER (R428). -/
  | faultRecover (fn : Nat) (facts : BootFacts)
  /-- FAULT_STICKY_CLEAR (R429). -/
  | faultStickyClear (fn bank : Nat) (value : Word)
  /-- ERR_PIN_HOLD_EXPIRE (R429). -/
  | errPinHoldExpire
  /-- RECORD_ACCEPT (R441). -/
  | recordAccept (event : Event)
  /-- COALESCE_WINDOW_END (R439). -/
  | coalesceWindowEnd (stream source code : Nat)
  /-- DROP_SUMMARY_TIMER (R440). -/
  | dropSummaryTimer
  /-- NOR_RECORD_WRITE (R446). -/
  | norRecordWrite
  /-- SKIP_SUMMARY_TIMER (R445). -/
  | skipSummaryTimer
  /-- PERIOD_FLUSH (R446). -/
  | periodFlush
  /-- FLUSH_END (R446). -/
  | flushEnd (facts : BootFacts)
  /-- NOR_BLOCK_ERASE_DONE (R445). -/
  | norBlockEraseDone (block : Nat) (ok : Bool)
  /-- NOR_PROGRAM_FAIL (R445). -/
  | norProgramFail
  /-- VECTOR_PACE_EXPIRE (R442). -/
  | vectorPaceExpire (vector : Nat)
  /-- LOG_STATUS (R450). -/
  | logStatus (fn mailbox : Nat)
  /-- LOG_READ (R450). -/
  | logRead (fn mailbox : Nat)
  /-- LOG_FETCH (R450). -/
  | logFetch (fn mailbox : Nat) (bufferOk : Bool)
  /-- LOG_CONFIG (R444). -/
  | logConfig (fn mailbox : Nat)
  /-- LOG_GRANT (R437). -/
  | logGrant (fn mailbox : Nat)
  /-- CANARY_TRIP (R461). -/
  | canaryTrip (unit : Nat)
  /-- MEASURE_WINDOW_START (R456). -/
  | measureWindowStart
  /-- MEASURE_WINDOW_END (R456). -/
  | measureWindowEnd
  /-- KILN_DUE (R456). -/
  | kilnDue (kiln : Nat)
  /-- KILN_OVERDUE (R456). -/
  | kilnOverdue (kiln : Nat)
  /-- KILN_MEASURE (R454). -/
  | kilnMeasure (kiln : Nat) (found : Option Measured)
  /-- RO_COUNT_TIMER (R452). -/
  | roCountTimer (losses : List (BitVec 16))
  /-- MARGIN_REPORT_TIMER (R463). -/
  | marginReportTimer
  /-- LIFECYCLE_TRANSITION (R488). -/
  | lifecycleTransition (fn target : Nat) (jtag : Bool) (facts : LcFacts)
  /-- ANSWER_LAPSE (R497). -/
  | answerLapse
  /-- LC_CHALLENGE (R495). -/
  | lcChallenge (fn mailbox : Nat)
  /-- LC_ANSWER (R497). -/
  | lcAnswer (fn mailbox : Nat) (answer : Option Bytes)
  /-- LC_STATUS (R498). -/
  | lcStatus (fn mailbox : Nat)
  /-- DMA_KICK (R502). -/
  | dmaKick (fn channel : Nat)
  /-- DMA_ENABLE (R510). -/
  | dmaEnable (fn channel : Nat) (value : Word)
  /-- DMA_DISABLE (R510). -/
  | dmaDisable (fn channel : Nat)
  /-- DMA_POLL_TIMER (R502). -/
  | dmaPollTimer (channel : Nat)
  /-- DMA_SLOT_READ_DONE (R502). -/
  | dmaSlotReadDone (channel : Nat) (slot : Bytes)
  /-- DMA_SLOT_READ_FAIL (R507). -/
  | dmaSlotReadFail (channel : Nat) (interrupt : Bool)
  /-- DMA_HALF_POINT (R507). -/
  | dmaHalfPoint (channel : Nat)
  /-- DMA_DESCRIPTOR_COMPLETE (R506). -/
  | dmaDescriptorComplete (channel : Nat) (outcome : DmaEnd)
  /-- DMA_CHANNEL_RESET (R510). -/
  | dmaChannelReset (channel : Nat)
  /-- SMB_MOD_GLOBAL (R532). -/
  | smbModGlobal
  /-- SMB_TMP_STAT (R532). -/
  | smbTmpStat
  /-- SMB_TMP_ALARM_STAT (R532). -/
  | smbTmpAlarmStat
  /-- SMB_FLT_SUM_STAT (R532). -/
  | smbFltSumStat
  /-- SMB_HOTTEST_TJ (R532). -/
  | smbHottestTj (celsius : Word)
  /-- SMB_PWR_STAT (R532). -/
  | smbPwrStat
  /-- SMB_CONE_CAPACITY (R532). -/
  | smbConeCapacity
  /-- SMB_LCC_STAT (R532). -/
  | smbLccStat
  /-- SMB_UNLISTED_COMMAND (R532). -/
  | smbUnlistedCommand (write : Bool) (command : Nat)
  /-- SMB_ALERT_RESPONSE (R532). -/
  | smbAlertResponse
  /-- JTAG_IDCODE (R493). -/
  | jtagIdcode
  /-- JTAG_BYPASS (R493). -/
  | jtagBypass (tdi : Bool)
  /-- JTAG_SAMPLE (R493). -/
  | jtagSample (balls : Nat)
  /-- JTAG_PRELOAD (R493). -/
  | jtagPreload (cells : Nat)
  /-- JTAG_EXTEST (R493). -/
  | jtagExtest (balls : Nat)
  /-- JTAG_CORE_HALT (R493). -/
  | jtagCoreHalt (core : Nat)
  /-- JTAG_CORE_STEP (R493). -/
  | jtagCoreStep (core : Nat)
  /-- JTAG_BREAKPOINT (R493). -/
  | jtagBreakpoint (core address : Nat)
  /-- JTAG_MEMORY_ACCESS (R493). -/
  | jtagMemoryAccess (address : Nat) (write : Option Word)
  /-- FACTORY_BIST (R494). -/
  | factoryBist (array : Nat) (passes : Bool)
  /-- FACTORY_DIRECT_ACCESS (R494). -/
  | factoryDirectAccess (array address : Nat) (write : Option Word)
  /-- RTC_LO_READ (R480). -/
  | rtcLoRead (fn : Nat)
  /-- RC_REGISTER_READ (R10). -/
  | rcRegisterRead (fn offset : Nat)
  /-- REGISTER_WRITE (R10). -/
  | registerWrite (fn offset : Nat) (value : Word)
  /-- VF_ENABLE (R49). -/
  | vfEnable (portB : Bool) (numVfs : Nat)
  /-- PERST_RELEASE (R45). -/
  | perstRelease (portB : Bool)
  /-- HOST_LINK_UP (R71). -/
  | hostLinkUp (portB : Bool) (speed width : Nat)
  /-- HOST_LINK_DOWN (R54). -/
  | hostLinkDown (portB : Bool)
  /-- DPL_BITMAP_READ_DONE (R62). -/
  | dplBitmapReadDone (fn : Nat) (word : BitVec 64)
  /-- SELECT_BY_NAME (R344). -/
  | selectByName (port sw : Nat)
  /-- BLOCK_WAITING_TIME_EXPIRE (R342). -/
  | blockWaitingTimeExpire (port : Nat)
  /-- WAITING_TIME_EXTENSION (R342). -/
  | waitingTimeExtension (port : Nat) (within : Bool)
  /-- CARD_BLOCK_ERROR (R342). -/
  | cardBlockError (port : Nat)
  /-- WITNESS_STRAY_FRAME (R386). -/
  | witnessStrayFrame (frame : Bytes)
  /-- BACKUP_DOMAIN_POWER_LOSS (R523). -/
  | backupDomainPowerLoss
  /-- BACKUP_CELL_CONNECT (R522). -/
  | backupCellConnect
  /-- SOURCE_FAILURE_24H_EXPIRE (R294). -/
  | sourceFailure24hExpire (source : Nat)
  /-- WITHDRAWAL_24H_EXPIRE (R150). -/
  | withdrawal24hExpire (kiln : Nat)
  /-- CONTROL_DRBG_WAIT_EXPIRE (R316). -/
  | controlDrbgWaitExpire (ceremony : Bool) (fn mailbox : Nat)
  deriving DecidableEq, Repr

end Sys2Proof
end

