-- ==== Sys2Proof/Config.lean ====
section
/-! DEFINITION. What an implementation fixes and the spec leaves open: the free values, the functions that a standard
named by the spec computes (their bytes are not in the spec), and the fused facts of the part (R1, R71). -/

namespace Sys2Proof.Config

/-! ## Fuses of the part modelled: ZV-6400 (R1, R71) -/

/-- HIF_ID.PART of the ZV-6400 (R71). -/
def part : Nat := 0x64

/-- HIF_ID.STEPPING: 0x01 for the first stepping (R71). -/
def stepping : Nat := 0x01

/-- HIF_FUSED.KILNS (R1, R71). -/
def kilnsOffered : Nat := 64

/-- HIF_FUSED.SPARES (R1, R71). -/
def sparesOffered : Nat := 4

/-- HIF_FUSED.X16: lanes 8 to 15 exist (R71). -/
def x16 : Bool := true

/-- The PCI class code: encryption controller, other (R47). -/
def classCode : Nat := 0x108000

/-- The device identifier of the PF, and of its VFs, the same for all three parts (R47). -/
def pfDeviceId : Nat := 0x6400
def vfDeviceId : Nat := 0x6401

/-- Springil's PCI-SIG vendor identifier, at configuration offset 0x00 (R47): the spec gives no value. -/
opaque vendorId : BitVec 16

/-- Max Payload Size and the largest Max Read Request Size, in bytes (R46). -/
def maxPayload : Nat := 512
def maxReadRequest : Nat := 4096

/-- The FLR time of Readiness Time Reporting, in ms (R46). -/
def flrReadyMs : Nat := 2

/-- The physical kilns of every die (R17). -/
def kilnCount : Nat := 68

/-- HIF_FUSED.STORE_GIB (R1, R71). -/
def storeGib : Nat := 16

/-- Wheel operand pages of 64 KiB (R32). -/
def operandPages : Nat := 163840

/-- DMA staging pages of 64 KiB that Kazkel keeps in its region of the inner store (R32, R324): the spec gives no number. (DESIGN CHOICE, log 114) -/
opaque stagePages : Nat

/-- The unique identifier (R46, R324, R499): fused at manufacture, any value. -/
opaque uid : BitVec 64

/-! ## The inner store's lines (R34) -/

/-- The ciphertext of a line: tweak key, line address, 64 bytes; the spec names AES-256 and no mode. -/
opaque lineCipher : Bytes → Nat → Bytes → Bytes
/-- The 56-bit integrity tag of a line: tweak key, line address, owner tag, 64 bytes; the spec names no function. -/
opaque lineTag : Bytes → Nat → Nat → Bytes → BitVec 56

/-! ## Free values -/

/-- A value nothing constrains: DRBG output (R302) and every value the spec leaves undefined. `n` counts the draws. -/
opaque freeByte : Nat → BitVec 8

/-- A free choice among `k` alternatives at draw `n` (`k` positive). -/
opaque freeChoice : Nat → Nat → Nat

/-- The SHA-256 digest of test token `k`, programmed by Springil (R487). -/
opaque testTokenDigest : Nat → Bytes

/-- IDCODE of the JTAG_ port from part and stepping (R493): the spec places no field. -/
opaque idcode : Nat → Nat → BitVec 32

/-- The test hearth of Dramel's mask ROM, 32 bytes (R492): the spec gives no value. -/
opaque testHearth : Bytes

/-- The code of the record in a saggar's stream that the peer has confirmed its erasure (R217): the spec gives none. -/
opaque eraseConfirmCode : Nat

/-- Keys and a roster wrapped under the pair key, of key and content (R213, R347): the spec names no algorithm. -/
opaque pairWrap : Bytes → Bytes → Bytes

/-- A ceremony journal entry as CER_JOURNAL writes it, from the facts R359 names: the spec gives no layout. -/
opaque journalEntry : Bytes → Bytes

/-- The code of the record that says the RTC was lost (R479): the spec gives none. -/
opaque rtcLossCode : Nat

/-- The conditioner's AES-256 key, set at manufacture (R296): the spec gives no value. -/
opaque conditionKey : Bytes

/-! ## Block ciphers, modes, hashes and MACs (named standards: R165, R178, R189, R190, R193, R212, R227) -/

/-- DESIGN CHOICE, log 5. -/
opaque aesEncrypt : Bytes → Bytes → Bytes
opaque aesDecrypt : Bytes → Bytes → Bytes
opaque desEncrypt : Bytes → Bytes → Bytes
opaque desDecrypt : Bytes → Bytes → Bytes
opaque tdesEncrypt : Bytes → Bytes → Bytes
opaque tdesDecrypt : Bytes → Bytes → Bytes
/-- mode (1 CBC, 2 CTR, 4 ECB), TDES, key, IV, data (R190) -/
opaque modeEncrypt : Nat → Bool → Bytes → Bytes → Bytes → Bytes
opaque modeDecrypt : Nat → Bool → Bytes → Bytes → Bytes → Bytes
/-- key, IV, additional data, plaintext to ciphertext and 16-byte tag -/
opaque gcmSeal : Bytes → Bytes → Bytes → Bytes → Bytes × Bytes
/-- key, IV, additional data, ciphertext, tag -/
opaque gcmOpen : Bytes → Bytes → Bytes → Bytes → Bytes → Option Bytes
/-- DESIGN CHOICE, log 5. -/
opaque sha256 : Bytes → Bytes
opaque sha384 : Bytes → Bytes
opaque sha512 : Bytes → Bytes
opaque sha3_256 : Bytes → Bytes
opaque sha3_512 : Bytes → Bytes
/-- hash size (256, 384, 512), key, message -/
opaque hmac : Nat → Bytes → Bytes → Bytes
/-- TDES, key, message -/
opaque cmac : Bool → Bytes → Bytes → Bytes
/-- ISO 9797-1 MAC algorithm 1: TDES, key, padding method, message -/
opaque isoMac1 : Bool → Bytes → Nat → Bytes → Bytes
/-- ISO 9797-1 MAC algorithm 3: key, padding method, message -/
opaque isoMac3 : Bytes → Nat → Bytes → Bytes
/-- FF1 of SP 800-38G Rev. 1: encrypt, key, radix, tweak, numerals -/
opaque ff1 : Bool → Bytes → Nat → Bytes → List Nat → List Nat

/-! ## Payment derivations (named standards: R179, R181, R183, R184) -/

/-- EMV Book 2 Annex A1 card master key by option A: issuer key, the 8-byte input -/
opaque emvOptionA : Bytes → Bytes → Bytes
/-- EMV Book 2 Annex A1 card master key by option C: issuer key, PAN digits, PSN -/
opaque emvOptionC : Bytes → List Nat → Nat → Bytes
/-- EMV common session key: AES, card master key, ATC -/
opaque emvSessionKey : Bool → Bytes → Bytes → Bytes
/-- ARPC method 1: AES, session key, ARQC, ARC -/
opaque emvArpc1 : Bool → Bytes → Bytes → Bytes → Bytes
/-- ARPC method 2: AES, session key, ARQC, CSU, proprietary data -/
opaque emvArpc2 : Bool → Bytes → Bytes → Bytes → Bytes → Bytes
/-- The secure-messaging confidentiality session key of 0x0305: AES, key, PAN, PARAMS, ATC. Its SEL_A names the PIN block
format, and the spec names no other selector for the derivation (R179, R182). (DESIGN CHOICE, log 23) -/
opaque emvConfidentialityKey : Bool → Bytes → List Nat → Bytes → Bytes → Bytes
/-- ANSI X9.24-3: BDK or initial key, is an initial key, initial key ID, counter, working key type, usage -/
opaque aesDukpt : Bytes → Bool → Bytes → Nat → Nat → Nat → Bytes
/-- The initial key ID in the KSN of an enrolled initial key, from its handle and serial: the spec states none (R183, R186). (DESIGN CHOICE, log 14) -/
opaque initialKeyId : Nat → Nat → Bytes
/-- ANSI X9.24-1: BDK, KSN, variant -/
opaque tdesDukpt : Bytes → Bytes → Nat → Bytes

/-! ## Key blocks and TR-34 (named standards: R239, R241, R242) -/

/-- What the public header of an ANSI X9.143 key block says. -/
structure KeyBlockHeader where
  /-- version: 0 for D, 1 for B -/
  version : Nat
  /-- the ATTR fields the block fixes: USAGE, ALG, SIZE, MODE, EXPORT, VERSION, as R220 places them -/
  attr : Nat
  /-- every optional block is one of KC, KP, KS, PB, TS -/
  optionalOk : Bool
  deriving DecidableEq, Repr, Inhabited

/-- The header of a key block; none where it is malformed, its usage is unlisted or its lengths disagree (R239). -/
opaque keyBlockHeader : Bytes → Option KeyBlockHeader
/-- Unwraps a key block: version, protection key, block; none where the MAC, length, padding, KC or KP fails (R239). -/
opaque keyBlockOpen : Nat → Bytes → Bytes → Option Bytes
/-- Wraps a key: version, protection key, ATTR, material, random bytes; the block carries KC (R239). -/
opaque keyBlockSeal : Nat → Bytes → Nat → Bytes → Bytes → Bytes
/-- The timestamp of a one-pass TR-34 token, in seconds; none for a two-pass or malformed token (R241). -/
opaque tr34Timestamp : Bytes → Option Nat
/-- Opens a TR-34 token: receiver's private key, sender's public key, token; the signature's result, then the block's. -/
opaque tr34SignatureOk : Bytes → Bytes → Bool
opaque tr34Open : Bytes → Bytes → Option (Nat × Bytes)
/-- Builds a one-pass token: signing key, receiver's public key, RTC seconds, ATTR, material, random bytes (R242). (DESIGN CHOICE, log 5) -/
opaque tr34Build : Bytes → Bytes → Nat → Nat → Bytes → Bytes → Bytes
/-- An 8-byte part of a TDES key is a weak or semi-weak DES key (R236, R239). -/
opaque desWeak : Bytes → Bool

/-! ## Public-key and lattice arithmetic (named standards; chapter 10) -/

/-- The public key encoding that belongs to key material: ATTR, material (R274, R227). -/
opaque publicOf : Nat → Bytes → Bytes
/-- A signature's encoding: scheme (1 PKCS #1 v1.5, 2 PSS), hash, prehashed, representative (R277). -/
opaque rsaSignEncode : Nat → Nat → Bool → Nat → Bytes → Bytes → Bytes
opaque rsaVerifyEncode : Nat → Nat → Bool → Nat → Bytes → Bytes → Bool
/-- OAEP: hash, label, modulus bytes, message, random bytes; and back (R277). -/
opaque oaepEncode : Nat → Bytes → Nat → Bytes → Bytes → Bytes
opaque oaepDecode : Nat → Bytes → Nat → Bytes → Option Bytes
/-- A scalar times a point of a NIST curve, empty for the base point: the uncompressed result; none at infinity (R270). -/
opaque curvePoint : Nat → Nat → Bytes → Option Bytes
/-- u1·G + u2·Q on a NIST curve: the uncompressed result; none at infinity (R270, R287). -/
opaque curveSum : Nat → Nat → Nat → Bytes → Option Bytes
opaque eddsaSign : Nat → Bytes → Bytes → Bytes → Bytes
/-- An Edwards encoding decodes to a point; the point is of small order (R287). -/
opaque edwardsDecodes : Nat → Bytes → Bool
opaque edwardsSmallOrder : Nat → Bytes → Bool
/-- The cofactored equation of R287: size, public key, context, message, signature. -/
opaque eddsaHolds : Nat → Bytes → Bytes → Bytes → Bytes → Bool
/-- A point (x, y), or a compressed x, lies on the NIST curve (R287); its uncompressed encoding (R278). -/
opaque onCurve : Nat → Bytes → Bool
opaque decompress : Nat → Bytes → Bytes
/-- The shared secret of X25519 or X448: SIZE, private material, peer key (RFC 7748). -/
opaque sharedSecret : Nat → Bytes → Bytes → Bytes
/-- One RSA candidate round: bits of the candidate, random bytes; the candidate where the sieve and the Miller–Rabin tests of FIPS
186-5 pass it (R281). -/
opaque primeRound : Nat → Bytes → Option Nat
/-- One-step key derivation of SP 800-56C Rev. 2: hash, secret, FixedInfo, length. -/
opaque oneStepKdf : Nat → Bytes → Bytes → Nat → Bytes
/-- ML-KEM and ML-DSA: parameter set, keys, data, random bytes (FIPS 203, FIPS 204). -/
opaque mlkemEncaps : Nat → Bytes → Bytes → Bytes × Bytes
opaque mlkemDecaps : Nat → Bytes → Bytes → Bytes
opaque mlkemKeyOk : Nat → Bytes → Bool
/-- One attempt; none where the rejection conditions of FIPS 204 discard it (R281). -/
opaque mldsaSign : Nat → Bytes → Bytes → Bytes → Bytes → Option Bytes
opaque mldsaHintOk : Nat → Bytes → Bool
opaque mldsaHolds : Nat → Bytes → Bytes → Bytes → Bytes → Bool
/-- Key pair material from random bytes: ATTR, random bytes; private material, public encoding. -/
opaque keyPair : Nat → Bytes → Bytes × Bytes
/-- Signs and verifies with the device's and other fixed keys: ECDSA P-384 over SHA-384, Ed25519, ML-DSA-87. -/
opaque deviceSign : Bytes → Bytes
opaque verifyP384 : Bytes → Bytes → Bytes → Bool
opaque verifyMlDsa87 : Nat → Bytes → Bytes → Bool
/-- The two signatures of an image verify under Springil's public keys in the boot ROM: header and body, signature (R332). -/
opaque imageMlDsa : Bytes → Bytes → Bool
opaque imageEcdsa : Bytes → Bytes → Bool
/-- ECDH on P-384: private bytes, peer's point; none for a point that is not on the curve. -/
opaque ecdhP384 : Bytes → Bytes → Option Bytes
opaque publicP384 : Bytes → Bytes
/-- A certificate chain verifies under Springil's root: the chain; the public key and the identifier it certifies. -/
opaque verifyChain : Bytes → Option (Bytes × Bytes)
/-- An SPDM 1.2 response: its code and what R67 and R68 give it to say; the framing is the standard's. (DESIGN CHOICE, log 51) -/
opaque spdmMessage : Nat → Bytes → Bytes
/-- The bytes that measurement block `index` digests, from the facts R68 names: the spec gives no encoding. (DESIGN CHOICE, log 51) -/
opaque measured : Nat → Bytes → Bytes
/-- The device's own certificate chain of slot 0 for a running Kazkel measurement (R67). -/
opaque ownChain : Bytes → Bytes

end Sys2Proof.Config
end

