-- ==== Sys2Proof/Machine/EntropyTypes.lean ====
section
/-! DEFINITION. The state of the entropy pool and the DRBGs (chapter 11). -/

namespace Sys2Proof.Machine

/-- ENT_SRC_i_STAT.STATE (R293). -/
inductive SrcState where
  | startup | pool | cooling | retired
  deriving DecidableEq, Repr

def srcCode : SrcState → Nat
  | .startup => 0 | .pool => 1 | .cooling => 2 | .retired => 3

/-- A noise source (R290 to R295). -/
structure Source where
  state : SrcState := .startup
  recent : Nat := 0
  total : BitVec 16 := 0
  /-- it has left STARTUP at least once since the reset (R299) -/
  left : Bool := false
  deriving DecidableEq, Repr

/-- ENT_DRBG_d_STAT.STATE (R305). -/
inductive DrbgState where
  | off | unseeded | ready | stretched | exhausted | failed
  deriving DecidableEq, Repr

def drbgCode : DrbgState → Nat
  | .off => 0 | .unseeded => 1 | .ready => 2 | .stretched => 3 | .exhausted => 4 | .failed => 5

/-- A DRBG (R302 to R306). -/
structure Drbg where
  state : DrbgState := .off
  /-- the spare seed held beside it (R298) -/
  spare : Option Bytes := none
  /-- Key and V of its CTR_DRBG (R302) -/
  key : Bytes := []
  v : Bytes := []
  /-- generate calls since the last instantiation or reseed, 0 to 2^32 (R305) -/
  calls : Nat := 0
  /-- instantiations since POWER_ON, part of the personalisation string (R302) -/
  insts : Nat := 0
  /-- a demanded reseed waits (R306) -/
  demand : Bool := false
  deriving DecidableEq, Repr

/-- What waits for the control DRBG to serve (R307). -/
inductive ControlWait where
  /-- an SPDM request of a host port: port B, the requester's nonce or point, and the index of GET_MEASUREMENTS -/
  | challenge (portB : Bool) (nonce : Bytes)
  | measurements (portB : Bool) (index : Nat) (nonce : Bytes)
  | keyExchange (portB : Bool) (peerKey : Bytes)
  /-- a nonce or keys of the mirror link (R363, R386) -/
  | hello
  | kems
  | answerKems (data : Bytes)
  /-- CNONCE of a saggar that the peer creates or sends (R216) -/
  | create (record : Bytes)
  | nonce (saggar : Nat)
  /-- the nonces of the slot images of master keys from the peer, by slot (R213, R219) -/
  | images (saggar : Nat) (keys : List (Nat × KeyVal))
  /-- the tweak key of an owner tag (R216, R217) -/
  | tweak (owner : Nat)
  /-- the seeds of the mesh LFSRs (R394) -/
  | mesh
  deriving DecidableEq, Repr

/-- The entropy block (chapter 11). -/
structure Entropy where
  ready : Bool := false
  waitMs : Nat := 5
  irq : BitVec 7 := 0
  /-- the shared queue of seeds, oldest first, at most 256 (R298) -/
  seeds : List Bytes := []
  /-- ENT_TEST: the cutoffs of the two continuous tests (R291, R292) -/
  rctC : BitVec 8 := 0x51
  aptC : BitVec 11 := 0x348
  waits : Word := 0
  refused : Word := 0
  /-- conditioned blocks towards the next seed, at most 2 (R296) -/
  blocks : List Bytes := []
  /-- conditioned blocks since the reset, up to 4 (R299) -/
  startBlocks : Nat := 0
  /-- the conditioner's known-answer test is due before the next block (R301) -/
  katDue : Bool := true
  /-- the conditioner's known-answer test has not failed (R301) -/
  conditionerOk : Bool := true
  /-- LOW: the conditioner has stopped (R297) -/
  stopped : Bool := false
  sources : SMap Source := []
  drbgs : SMap Drbg := []
  /-- the outstanding requests, rank and DRBG, in the order they arrived (R298) -/
  arrivals : List (Nat × Nat) := []
  /-- operations that wait for the control DRBG, oldest first (R307) -/
  waiting : List ControlWait := []
  /-- the retirement list in NOR flash (R294, R295) -/
  retiredList : List Nat := []
  deriving DecidableEq, Repr

/-- The control DRBG (R302). -/
def controlDrbg : Nat := 68

end Sys2Proof.Machine
end

