-- ==== Sys2Proof/Machine/GuardTypes.lean ====
section
/-! DEFINITION. The state of the tamper monitors, the evidence log and the fault banks (chapters 15 and 16). -/

namespace Sys2Proof.Machine

/-- A monitored source (R391 to R396). -/
structure TamperSource where
  /-- TMP_RESP_s.RESP and FITTED -/
  resp : Nat
  fitted : Bool := true
  detA : Bool := false
  detB : Bool := false
  /-- the source asserts of itself: DISAGREE, FABRIC and DOUBLE, which no detector pair watches -/
  own : Bool := false
  measA : BitVec 16 := 0
  measB : BitVec 16 := 0
  /-- cause and value of its last assertion (R408) -/
  cause : Nat := 0
  value : BitVec 32 := 0
  /-- the RTC at its last deassertion (R396) -/
  offAt : Option Nat := none
  repeats : Nat := 0
  deriving DecidableEq, Repr

/-- An evidence entry (R408). -/
structure Evidence where
  number : Nat
  rtc : Nat
  source : Nat
  cause : Nat
  response : Nat
  flags : Nat
  value : BitVec 32
  mode : Nat
  govern : Nat
  repeats : Nat
  overflow : Nat
  deriving DecidableEq, Repr

/-- The responses in force until configured (R391, Default column). -/
def defaultResp : Nat → Nat
  | 17 => 1 | 19 => 2 | 20 => 2 | 21 => 2 | 22 => 2 | 25 => 2 | 26 => 2 | 27 => 4 | _ => 3

/-- The floors of R391. -/
def floorResp (s : Nat) : Nat :=
  if s = 0 ∨ s = 23 then 3
  else if 1 ≤ s ∧ s ≤ 10 then 1
  else if s = 17 ∨ s = 20 ∨ s = 22 ∨ s = 26 then 1
  else if s = 27 then 4 else 2

/-- A window of an enclosure loop: NOMINAL and TOL (R394). -/
structure LoopCfg where
  nominal : BitVec 16 := 0
  tol : Nat := 5
  deriving DecidableEq, Repr

/-- The tamper block with its backup-domain part (chapter 15). -/
structure Tamper where
  sources : List TamperSource := (List.range 28).map fun s => { resp := defaultResp s }
  loops : List LoopCfg := List.replicate 8 {}
  govern : Nat := 0
  sealed : Bool := false
  alarm : BitVec 28 := 0
  /-- TMP_LATCHED: response, source and count -/
  latchResp : Nat := 0
  latchSource : Nat := 0
  latchCount : BitVec 16 := 0
  /-- the response latch of the backup domain, not yet read at a boot (R398, R399) -/
  cellResp : Nat := 0
  cellSource : Nat := 0
  cellCount : BitVec 16 := 0
  /-- evidence entries held in the ring, by slot (R409) -/
  ring : SMap (Option Evidence) := []
  last : Nat := 0
  copied : Nat := 0
  /-- entries lost since the last entry written -/
  lostNow : Nat := 0
  overflow : BitVec 16 := 0
  norFull : Bool := false
  /-- records in the NOR evidence region and the last CHAIN (R409) -/
  norCount : Nat := 0
  /-- the evidence region of NOR flash: its records of 64 bytes, newest first (R409) -/
  norRecords : List Bytes := []
  chain : Bytes := zeros 32
  fabric : BitVec 16 := 0
  decision : BitVec 16 := 0
  /-- the RTC at each beat failure of the last 1 ms, newest first (R405) -/
  beats : List Nat := []
  /-- the RTC at the last deassertion of a source of response GUARD or stronger (R412) -/
  strongOff : Option Nat := none
  /-- ERASE_HALT holds the device in reset (R390) -/
  halted : Bool := false
  /-- the configuration copies: the backup domain's is present; NOR flash's verifies (R395) -/
  cellCopy : Bool := true
  norCopy : Bool := false
  /-- the mesh LFSRs run from the manufacture seed (R394) -/
  factorySeed : Bool := true
  /-- what seeded the 31-bit LFSRs of the 32 lid pairs and the 8 loops at the last boot, 4 bytes a line (R394) -/
  meshSeeds : Bytes := []
  deriving DecidableEq, Repr

/-- A fault bank (R415 to R421). -/
structure FaultBank where
  sticky : BitVec 32 := 0
  fenced : Bool := false
  parity : Bool := false
  /-- its parity failed since the last reset: its bits and reactions are not used (R427) -/
  distrusted : Bool := false
  /-- the reaction bits IRQ, TRAP, BLOCK, CHIP, ERR written for each source (R420, R421) -/
  react : SMap (BitVec 5) := []
  deriving DecidableEq, Repr

/-- The fault banks and their summary (chapter 16). -/
structure Faults where
  banks : SMap FaultBank := []
  grave : Bool := false
  parity : Bool := false
  /-- a bank's parity has failed since the reset that started this boot: the device enters SAFE (R427) -/
  paritySafe : Bool := false
  /-- ERR_OUT_N is asserted (R429) -/
  errOut : Bool := false
  /-- the 1 ms hold of ERR_OUT_N runs (R429) -/
  errHold : Bool := false
  /-- a CHIP reaction waits for the fault flush (R422) -/
  chipDue : Bool := false
  /-- sources that a firing has met in the command that runs: bank, source, ware; empty between commands (R271, R286, R419) -/
  due : List (Nat × Nat × Nat) := []
  deriving DecidableEq, Repr

end Sys2Proof.Machine
end

