-- ==== Sys2Proof/Machine/HostTypes.lean ====
section
/-! DEFINITION. The state of the host port: functions, ports, MSI-X, SPDM, IDE and rings (chapters 02 and 03), and what
the device puts out. -/

namespace Sys2Proof.Machine

/-- What the device does that an observer outside the package sees, newest first in `State.out` (the model's own record). -/
inductive Out where
  /-- A host-memory write in a function's requester identity (R93). -/
  | hostWrite (fn addr : Nat) (data : Bytes)
  /-- A host-memory read the device issues: descriptor, extension, data, blob, bitmap word, ring slot. -/
  | hostRead (fn addr len : Nat)
  /-- An MSI-X message of a function's vector (R56). -/
  | msix (fn vector : Nat)
  /-- The answer to a BAR read. -/
  | barRead (fn offset : Nat) (value : Word)
  /-- An answer on the PF's DOE mailbox (R46, R67). -/
  | doe (pf : Nat) (data : Bytes)
  /-- Unsupported Request to a memory request (R66). -/
  | unsupportedRequest (fn : Nat)
  /-- An AER report (R69: Poisoned TLP Received, non-fatal). -/
  | aerPoisoned (fn : Nat)
  /-- A frame on the mirror link. -/
  | mirrorFrame (kind : Nat) (data : Bytes)
  /-- A frame on WIT_TX (R379). -/
  | witnessFrame (data : Bytes)
  /-- A command APDU to the card in a custodian port (R342). -/
  | apdu (port : Nat) (data : Bytes)
  /-- An SMBus block read's four bytes; `none` is a NAK (R532). -/
  | smbus (value : Option Word)
  /-- The answer to the SMBus Alert Response Address (R532). -/
  | smbusAlert (address : Nat)
  /-- What a JTAG_ operation shifts out (R493, R494). -/
  | jtag (data : Option Nat)
  /-- The I/O balls that EXTEST drives from the boundary scan cells (R493). -/
  | balls (cells : Nat)
  deriving DecidableEq, Repr

/-- An entry of an MSI-X table (R46: per-vector mask). -/
structure MsixEntry where
  addr : Addr := 0
  data : Word := 0
  masked : Bool := true
  deriving DecidableEq, Repr

/-- One thing the host port still has to issue for a function, in order (R63, R93). -/
inductive HpItem where
  /-- a host-memory write of a channel or of Kazkel -/
  | write (addr : Nat) (data : Bytes)
  /-- a host-memory write that belongs to a completion record: the ware's result, or the ring shadow (R79, R93) -/
  | ware (addr : Nat) (data : Bytes)
  /-- completion records in one write (R94) -/
  | record (addr : Nat) (data : Bytes)
  /-- the bitmap bits of one page range of a write, in the bitmap chosen when the write was made -/
  | log (bitmap : Bool) (page : Nat)
  /-- an MSI-X message -/
  | vector (v : Nat)
  deriving DecidableEq, Repr

/-- A function's dirty-page logging registers and cache (R61 to R65, R71). -/
structure Dpl where
  enable : Bool := false
  select : Bool := false
  switched : Bool := true
  outside : Bool := false
  readErr : Bool := false
  bmp0 : Addr := 0
  bmp1 : Addr := 0
  win : Addr := 0
  pages : BitVec 28 := 0
  /-- the write-combining cache, newest first: (bitmap, word index) and the word's bits (R62) -/
  cache : List ((Bool × Nat) × BitVec 64) := []
  deriving DecidableEq, Repr

/-- A function's registers and host-port state (R48 to R72). -/
structure Fn where
  /-- FN_BIND: the bound saggar, `none` when BOUND is 0 (R50) -/
  bound : Option Nat := none
  /-- FN_GEN.GEN (R57) -/
  gen : BitVec 8 := 0
  /-- FN_STALE_CNT.COUNT -/
  staleCnt : Word := 0
  /-- FN_VIOL: ALIGN, UNMAPPED, POISON, DOORBELL, DESC_FETCH, EXT_FETCH, DPL_READ -/
  viol : BitVec 7 := 0
  violWindow : BitVec 16 := 0
  violTotal : BitVec 16 := 0
  /-- FN_QUAR.QUARANTINED (R70) -/
  quarantined : Bool := false
  /-- FN_IRQ_CAUSE: MAILBOX, DMA_HALF, DMA_FULL, DMA_ERROR, QUARANTINE -/
  irqCause : BitVec 5 := 0
  dpl : Dpl := {}
  /-- an FLR is running: steps 1 to 4 of R59 -/
  flr : Bool := false
  msix : SMap MsixEntry := []
  /-- the pending bit array (R95) -/
  pba : BitVec 256 := 0
  /-- host-port items not yet issued, oldest first (R93) -/
  queue : List HpItem := []
  /-- the read of the bitmap word that the item in front needs is under way (R62) -/
  reading : Bool := false
  deriving DecidableEq, Repr

/-- Ring states, RING_q_STAT.STATE (R101). -/
inductive RingState where
  | disabled | running | error | resetting
  deriving DecidableEq, Repr

/-- RING_q_STAT.CAUSE (R101). -/
inductive RingCause where
  | none | sqRange | cqRange | descFetch | config
  deriving DecidableEq, Repr

/-- A ring pair of a function (R73 to R101). -/
structure Ring where
  enable : Bool := false
  sqLog2 : Nat := 0
  cqLog2 : Nat := 0
  prio : Nat := 0
  shadowEn : Bool := false
  sqBase : Addr := 0
  cqBase : Addr := 0
  shadow : Addr := 0
  coalCount : Nat := 1
  coalTime : Nat := 0
  sqHead : Nat := 0
  /-- published by the submission doorbell (R75) -/
  sqTail : Nat := 0
  /-- published by the completion doorbell (R75) -/
  cqHead : Nat := 0
  cqTail : Nat := 0
  phase : Bool := true
  state : RingState := .disabled
  cause : RingCause := .none
  errIndex : Nat := 0
  dropped : Word := 0
  /-- descriptor fetches issued and not yet arrived, oldest first: their slots (R77, R90) -/
  fetches : List Nat := []
  /-- the next slot to fetch -/
  sqFetch : Nat := 0
  /-- an error met while fetches are still in flight (R543) -/
  settling : Option RingCause := none
  /-- records written since the vector was last raised (R95) -/
  unsignalled : Nat := 0
  /-- records held for merging: slot and bytes, oldest first (R94) -/
  held : List (Nat × Bytes) := []
  /-- the ring's state lies in the inactive-ring region (R80) -/
  moved : Bool := false
  deriving DecidableEq, Repr

/-- A PCIe port (R40 to R49). -/
structure Port where
  /-- the port is held in reset by its PERST pin (R44) -/
  perst : Bool := true
  /-- its functions answer (R45); otherwise Request Retry Status -/
  ready : Bool := false
  /-- in L0 (HIF_LINK_STAT.UP) -/
  up : Bool := false
  speed : BitVec 3 := 0
  width : BitVec 5 := 0
  /-- link training has begun (R45) -/
  training : Bool := false
  /-- the PF is in D3hot (R46) -/
  d3hot : Bool := false
  /-- NumVFs while VF Enable is set, else 0 (R49) -/
  numVfs : Nat := 0
  /-- HIF_FN_SEL of this port's PF -/
  fnSel : BitVec 10 := 0
  /-- the RTC when the link last left L0 (R54) -/
  downAt : Nat := 0
  /-- the severity register of Advanced Error Reporting: every uncorrectable error non-fatal by default (R46) -/
  aerSeverity : Word := 0
  deriving DecidableEq, Repr

/-- An SPDM responder's state on one PF's DOE mailbox (R67). -/
structure Spdm where
  versioned : Bool := false
  capable : Bool := false
  negotiated : Bool := false
  /-- the session handshake is under way -/
  handshake : Bool := false
  /-- a secured session is established -/
  session : Bool := false
  /-- the number of key updates of the session -/
  keyGen : Nat := 0
  /-- the keys of the IDE streams programmed: 0 the link stream, 1 to 4 selective (R66) -/
  ideKeys : SMap Bytes := []
  deriving DecidableEq, Repr

/-- The host port (chapter 02). -/
structure HostPort where
  portA : Port := {}
  portB : Port := { fnSel := 512 }
  /-- HIF_LINK_STAT.SPLIT (R41) -/
  split : Bool := false
  /-- the PE_SPLIT latch, sampled at POWER_ON and PIN (R41, R472) -/
  splitLatch : Bool := false
  /-- HIF_CTL.GLOBAL_OWNER: false port A, true port B (R54) -/
  ownerB : Bool := false
  ideRequired : Bool := false
  /-- IDE_REQUIRED in the device policy of NOR flash (R66, R334) -/
  idePolicy : Bool := false
  /-- HIF_VIOL_LIMIT (R70) -/
  violLimit : BitVec 16 := 0x0040
  violWindowMs : BitVec 16 := 0x03E8
  spdmA : Spdm := {}
  spdmB : Spdm := {}
  /-- reads that wait for a port to leave D3hot: function, address and length, oldest first (R46) -/
  heldReads : List (Nat × Nat × Nat) := []
  /-- the measurements that the alias certificate carries: those of the last boot (R67, R68) -/
  aliasBound : Bytes := []
  /-- the binding table of NOR flash: function index to saggar (R50) -/
  bindings : SMap Nat := []
  fns : SMap Fn := []
  /-- ring q of function i at 8 i + q (R73) -/
  rings : SMap Ring := []
  deriving DecidableEq, Repr

end Sys2Proof.Machine
end

