-- ==== Sys2Proof/Machine/KilnTypes.lean ====
section
/-! DEFINITION. The state of wares in flight, the setter and the kilns (chapters 03, 04, 05, 07 and 10). -/

namespace Sys2Proof.Machine

/-- Where a ware stands between its stamp and its release (R19, R102, R111, R144, R542). -/
inductive WarePhase where
  /-- stamped, not yet classified -/
  | stamped
  /-- classified, in its class and group queue -/
  | queued
  /-- returned from a kiln, to be placed before any new dispatch of its class (R110) -/
  | returned
  /-- placed; its input is arriving (R144) -/
  | arriving
  /-- placed and startable -/
  | ready
  /-- returned to the head of its class in the kiln, startable after 1 µs (R542) -/
  | backoff
  /-- held by an engine: key lookups before the shape (R137) -/
  | preparing
  /-- its fixed shape runs -/
  | firing
  /-- a background graph suspended at a step boundary (R112) -/
  | suspended
  /-- its firing has ended; it waits for release (R20) -/
  | ended
  /-- refused by the setter; it waits for its place in its flow (R91) -/
  | refused
  /-- attached to a pending replay entry (R376) -/
  | attached
  deriving DecidableEq, Repr

/-- What a ware held by an engine waits for during its key lookup (R22, R228). -/
inductive Waits where
  | none
  /-- a key cache fetch -/
  | cacheFetch
  | blobHeader
  | blobBody
  deriving DecidableEq, Repr

/-- What a graph cell holds (R200). -/
inductive Cell where
  | key (k : KeyVal)
  | value (b : Bytes)
  deriving DecidableEq, Repr

/-- One entry of the in-flight table (R57, R86, R102, R114, R187, R208). -/
structure Ware where
  fn : Nat := 0
  ring : Nat := 0
  gen : BitVec 8 := 0
  /-- the stale mark of R58 -/
  stale : Bool := false
  /-- its record is discarded at release by a ring reset (R100) -/
  discard : Bool := false
  /-- its ring went back to reset values while it was in flight: RING_q_INFLIGHT no longer counts it (R59, R100) -/
  ringless : Bool := false
  desc : Bytes := []
  /-- a ceremony firing, from the ring that only Kazkel reaches (R223) -/
  ceremony : Bool := false
  /-- stamp order, the order of flows (R91) -/
  seq : Nat := 0
  phase : WarePhase := .stamped
  status : Nat := 0
  step : Nat := 0
  result : Bytes := []
  /-- a result longer than 16 bytes lies in result staging (R145) -/
  staged : Bool := false
  replayed : Bool := false
  unmirrored : Bool := false
  relearned : Bool := false
  /-- the setter could not know the result's place, or the firing code returns at most 16 bytes (R540) -/
  inline : Bool := true
  saggar : Nat := 0
  group : Nat := 0
  cls : Nat := 0
  flow : Option Nat := none
  handle : Nat := 0
  cost : Nat := 0
  /-- the owner tag of its lines in its kiln's shelf, of queue, input and result staging; none while it has none there (R143) -/
  lineTag : Option Nat := none
  /-- the PAN of a routed ware that lies in the extension: its read is awaited, done or failed (R246) -/
  panRead : Option (Option Bytes) := none
  routedPan : Option (List Nat) := none
  /-- the whole issuer key set of a routed ware, as its one line read found it (R255) -/
  keySet : Bytes := []
  pset : Nat := 0
  /-- the saggar's epoch stamped at placement (R116) -/
  epoch : BitVec 16 := 0
  /-- order of first placement (R110); none before it -/
  placed : Option Nat := none
  kiln : Nat := 0
  engine : Nat := 0
  ext : Bytes := []
  data : List Bytes := []
  /-- data regions still to arrive -/
  dataLeft : Nat := 0
  /-- keys found so far in the order of R161 step 3: field j (KEY_REF, KEY2, then KEY3 or AUX_KEY) of step u at 3 u + j -/
  keys : SMap (Option KeyVal) := []
  /-- steps whose preparation (R161 steps 3 to 7) is complete (R206) -/
  prepared : Nat := 0
  waits : Waits := .none
  /-- the hot key slots of its kiln that it pins (R139) -/
  pins : List Nat := []
  /-- handles whose key cache entries it pins (R262) -/
  cpins : List Nat := []
  /-- the header of the blob being opened (R228) -/
  blobHeader : Bytes := []
  rand : Bytes := []
  /-- its first refusal by the DRBG lies ENT_CFG.WAIT_MS or more back; and it has been refused before (R308) -/
  entLate : Bool := false
  entWaits : Bool := false
  /-- shapes run so far by a firing that may need several, and the primes they found (R281) -/
  rounds : Nat := 0
  primes : List Nat := []
  /-- the glaze bank its shape uses: A false, B true (R132); none before the shape -/
  bank : Option Bool := none
  /-- the originator counter allocated at placement (R187); 0 when none remained -/
  counter : Nat := 0
  /-- the serial of the initial key whose counter it is (R187, R234) -/
  counterOf : Nat := 0
  wheel : Option Nat := none
  /-- the operand page it claims (R267) -/
  page : Option Nat := none
  /-- the sending host whose timestamp claim it holds (R241) -/
  claim : Option Nat := none
  /-- classified wares whose first firing has started no longer count in DEPTH (R123) -/
  started : Bool := false
  graphStep : Nat := 0
  cells : SMap (Option Cell) := []
  emitted : Bytes := []
  /-- the status and step a graph failed with: later steps run blank (R209) -/
  graphFail : Option (Nat × Nat) := none
  /-- the delta group its firing wrote (R371); none when it wrote none -/
  delta : Option Nat := none
  /-- the standby has acknowledged its delta, or the policy releases it without (R20) -/
  acked : Bool := false
  /-- attached to a firing of the same replay identifier (R376): the tag whose outcome it copies -/
  attachedTo : Option Nat := none
  deriving DecidableEq, Repr

/-- KLN_n_STAT.STATE (R147). -/
inductive KilnState where
  | spare | parked | waking | inService | draining | drained | measuring | withdrawn | retired | absent
  deriving DecidableEq, Repr

/-- The code of a kiln state (R147). -/
def kilnCode : KilnState → Nat
  | .spare => 1 | .parked => 2 | .waking => 3 | .inService => 4 | .draining => 5
  | .drained => 6 | .measuring => 7 | .withdrawn => 8 | .retired => 9 | .absent => 15

/-- One hot key slot (R138, R228): least recently used first in the kiln's list. -/
structure HotSlot where
  /-- the slot's number, 0 to 511 -/
  idx : Nat
  saggar : Nat
  key : KeyVal
  pins : Nat := 0
  /-- emptied when its pin is released (R140) -/
  doomed : Bool := false
  deriving DecidableEq, Repr

/-- A firing engine's two contexts (R128): the ware in each. -/
structure Engine where
  fg : Option Nat := none
  bg : Option Nat := none
  /-- consecutive foreground firings since the suspension of its background graph (R113) -/
  fgRun : Nat := 0
  deriving DecidableEq, Repr

/-- Why Kazkel drains a kiln (R148). -/
inductive DrainFor where
  | park | measure | load | retire
  deriving DecidableEq, Repr

/-- A bank of the glaze program store (R131). -/
structure Bank where
  valid : Bool := false
  level : BitVec 16 := 0
  deriving DecidableEq, Repr

/-- A kiln (R127 to R154). -/
structure Kiln where
  state : KilnState := .parked
  bankA : Bank := {}
  bankB : Bank := {}
  /-- KLN_n_CLK.FREQ and VOLT -/
  freq : BitVec 5 := 0x10
  volt : BitVec 6 := 0x14
  slots : List HotSlot := []
  sagMax : Nat := 0x40
  firings : Word := 0
  aborts : Word := 0
  resets : BitVec 16 := 0
  lastCause : BitVec 2 := 0
  /-- withdrawals of the last 24 h (R150) -/
  withdrawnRecent : Nat := 0
  withdrawnTotal : BitVec 16 := 0
  /-- wares queued, in the order placed (R111) -/
  queue : List Nat := []
  engines : SMap Engine := []
  /-- the tags that hold wheels 2n and 2n + 1 (R267) -/
  wheelA : Option Nat := none
  wheelB : Option Nat := none
  /-- SET_KLN_n_LOAD.HOLD (R119) -/
  hold : Bool := false
  /-- a BLOCK reaction stopped it: it starts no firing until its KILN reset (R423) -/
  blocked : Bool := false
  drainFor : Option DrainFor := none
  /-- the bank into which kiln DMA copies a glaze set: A false, B true (R133) -/
  loading : Option Bool := none
  /-- failed digests of the present glaze load (R133) -/
  loadFails : Nat := 0
  /-- kiln DMA's host reads, in the order requested: ware, address, length (R127, R146) -/
  fetches : List (Nat × Nat × Nat) := []
  /-- its stored plan is no longer the enrolment's: raised at a promotion or measured (R459) -/
  ownPlan : Bool := false
  /-- the measurement waits: an abandoned drain is tried again in 1 s (R457) -/
  retryMeasure : Bool := false
  deriving DecidableEq, Repr

/-- A wheel's registers (R270, R286, R287). -/
structure WheelReg where
  /-- what the operand load and the key fetch left in its scratch; zeroed with the operation's end or abort (R271, R288) -/
  scratch : Bytes := []
  lastWop : BitVec 8 := 0
  ops : Word := 0
  aborts : Word := 0
  degenerate : BitVec 16 := 0
  faultChk : BitVec 16 := 0
  deriving DecidableEq, Repr

/-- A group's figures (R123): dispatches and the waiting-time histogram; DEPTH by class in a snapshot. -/
structure GroupFig where
  depth : List Nat := [0, 0, 0, 0]
  disp : Word := 0
  hist : List Word := List.replicate 16 0
  deriving DecidableEq, Repr

/-- A class's round-robin visit (R106, R107). -/
structure Visit where
  group : Nat := 63
  /-- a visit is open at `group`: suspended or between dispatches -/
  active : Bool := false
  deriving DecidableEq, Repr

/-- The setter (chapter 04). -/
structure Setter where
  quantum : BitVec 12 := 0x040
  slack : BitVec 5 := 4
  kqLimit : Nat := 0x30
  preemptMax : Nat := 8
  snapDone : Bool := true
  snapSeq : BitVec 16 := 0
  snapshot : SMap GroupFig := []
  live : SMap GroupFig := []
  busySeq : Word := 0
  /-- SET_ENG_n_e_BUSY at 16 n + e -/
  engBusy : SMap (BitVec 16) := []
  /-- SET_KLN_n_BUSY: ENG, WHL -/
  kilnBusy : SMap (BitVec 16 × BitVec 16) := []
  /-- SET_COST_z, written by Kazkel at each glaze level (R135) -/
  costs : List Nat := List.replicate 16 0
  /-- SET_GRP_g_CFG.WEIGHT -/
  weights : SMap Nat := []
  /-- deficit counters at class × 64 + group -/
  deficits : SMap Nat := []
  visits : List Visit := List.replicate 4 {}
  placePtr : Nat := 0
  /-- the in-flight table, by ware tag -/
  wares : SMap (Option Ware) := []
  /-- dispatch queues at class × 64 + group, head first -/
  queues : SMap (List Nat) := []
  nextSeq : Nat := 0
  nextPlaced : Nat := 0
  deriving DecidableEq, Repr

end Sys2Proof.Machine
end

