-- ==== Sys2Proof/Machine/StoreTypes.lean ====
section
/-! DEFINITION. The state of the inner store: tweak keys, the seals of its lines (R33 to R35), and the pages of the wheel operand
buffer region (R268, R269). -/

namespace Sys2Proof.Machine

/-- Under what a line was last written: the owner tag, and which of the owner's tweak keys so far (R34, R35). -/
structure Seal where
  owner : Nat
  draw : Nat
  deriving DecidableEq, Repr

/-- A 64 KiB page of the operand buffer region that a saggar has, or that is on its way to it (R268, R269). -/
structure Page where
  saggar : Nat
  /-- it carries key extensions instead of operands (R226) -/
  ext : Bool := false
  /-- its wipe runs: it is not assigned yet (R269) -/
  wiping : Bool := false
  /-- the ware that claims it (R267) -/
  tag : Option Nat := none
  deriving DecidableEq, Repr

/-- The inner store beside its contents (R32 to R35, R268). -/
structure Store where
  /-- the tweak key of each owner tag; none before boot step 7 draws it and once it is discarded (R34, R401) -/
  keys : SMap (Option Bytes) := []
  /-- how many tweak keys each owner tag has had -/
  draws : SMap Nat := []
  /-- by line number, address ÷ 64; none for a line that nothing has written -/
  seals : SMap (Option Seal) := []
  /-- WHL_POOL.TOTAL (R289) -/
  total : Nat := 0
  /-- the pages that saggars have, by page number -/
  pages : SMap (Option Page) := []
  deriving DecidableEq, Repr

end Sys2Proof.Machine
end

