-- ==== Sys2Proof/Machine/State.lean ====
section
/-! DEFINITION. The state of the device as plain data, why a step can stop, and the state right after POWER_ON. -/

namespace Sys2Proof.Machine

/-- Why the block stops on a command: for no reason. Every command has an effect the spec gives it, or meets a state or names a unit
for which it has none and then changes nothing (logs 7 and 8). Nothing raises a fault, so none is unsafe. -/
inductive Fault where
  deriving DecidableEq, Repr

/-- Why the model refuses a command. -/
inductive Refusal where
  /-- Raised by `exec` for a command without a meaning. Safe: nothing can be proved of such a command. -/
  | notModelled (mnemonic : String)
  deriving DecidableEq, Repr

/-- The whole device. Every field but the last three belongs to a chapter of the spec; `freeCtr`, `out` and `pending` are the
model's own. -/
structure State where
  /-- host port, functions and rings (chapters 02, 03) -/
  host : HostPort := {}
  /-- the setter and the wares in flight (chapters 03, 04) -/
  setter : Setter := {}
  /-- kilns by index (chapter 05) -/
  kilns : SMap Kiln := []
  /-- wheels by number (chapter 10) -/
  wheels : SMap WheelReg := []
  /-- key store, saggars and key cache (chapters 08, 09) -/
  keys : KeyStore := {}
  /-- PAN routing (chapter 09) -/
  routing : Routing := {}
  /-- entropy (chapter 11) -/
  ent : Entropy := {}
  /-- mailboxes (chapter 12) -/
  mbx : Mailboxes := {}
  /-- images (chapter 12) -/
  fw : Firmware := {}
  /-- custodian ports and ceremonies (chapter 13) -/
  cus : Custodians := {}
  /-- mirror link and witness (chapter 14) -/
  mir : Mirror := {}
  /-- tamper monitors (chapter 15) -/
  tmp : Tamper := {}
  /-- fault banks (chapter 16) -/
  flt : Faults := {}
  /-- event recorder (chapter 17) -/
  log : Recorder := {}
  /-- cones (chapter 18) -/
  cone : Cones := {}
  /-- modes, power, clocks (chapter 19) -/
  sys : Modes := {}
  /-- lifecycle (chapter 20) -/
  lcc : Lifecycle := {}
  /-- DMA channels (chapter 21) -/
  dma : SMap Channel := []
  /-- the inner store: tweak keys, line seals, operand pages (chapters 01, 10) -/
  store : Store := {}
  /-- the contents of the plain memories, by internal address (R31, R32): DMA staging pages, wheel operand pages, and what the debug
  port writes; an unlisted byte is zero -/
  mem : List Host.Cell := []
  /-- how many free values have been drawn (the model's own) -/
  freeCtr : Nat := 0
  /-- what the device has put out, newest first (the model's own) -/
  out : List Out := []
  /-- the commands that wait, first in, first out (the model's own) -/
  pending : List Instr := []
  deriving DecidableEq, Repr

/-- The device right after POWER_ON, before boot step 1: every register at its reset value (R10, the register tables), NOR flash
and OTP as a new part holds them. (DESIGN CHOICE, log 4) (DESIGN CHOICE, log 9) (DESIGN CHOICE, log 11) -/
def State.reset : State := { kilns := [64, 65, 66, 67].map fun k => (k, { state := .spare }) }

end Sys2Proof.Machine
end

