-- ==== Sys2Proof/Machine/Ops.lean ====
section
/-! DEFINITION. The named operations over the state: reading and changing one unit of each kind, what the device puts out, free
values, and the outcomes of a command. -/

namespace Sys2Proof.Machine

/-- What a command answers. -/
abbrev Res := Host.Outcome State Fault Refusal

/-- Acts when the operand names a unit the device has. No unit is addressed otherwise, so nothing changes. (DESIGN CHOICE, log 8) -/
def onUnit (s : State) (exists_ : Bool) (t : State) : Res := .next (if exists_ then t else s)

/-- Changes the state only where a condition of the spec holds. (DESIGN CHOICE, log 7) -/
def when_ (c : Bool) (f : State → State) (s : State) : State := if c then f s else s

namespace State

/-! ## One unit of each kind -/

def fn (s : State) (i : Nat) : Fn := mget {} s.host.fns i
def setFn (s : State) (i : Nat) (f : Fn) : State := { s with host := { s.host with fns := mset {} s.host.fns i f } }
def modFn (s : State) (i : Nat) (g : Fn → Fn) : State := s.setFn i (g (s.fn i))

def port (s : State) (b : Bool) : Port := if b then s.host.portB else s.host.portA
def setPort (s : State) (b : Bool) (p : Port) : State :=
  if b then { s with host := { s.host with portB := p } } else { s with host := { s.host with portA := p } }
def modPort (s : State) (b : Bool) (g : Port → Port) : State := s.setPort b (g (s.port b))

def spdm (s : State) (b : Bool) : Spdm := if b then s.host.spdmB else s.host.spdmA
def modSpdm (s : State) (b : Bool) (g : Spdm → Spdm) : State :=
  if b then { s with host := { s.host with spdmB := g s.host.spdmB } }
  else { s with host := { s.host with spdmA := g s.host.spdmA } }

def ring (s : State) (i q : Nat) : Ring := mget {} s.host.rings (8 * i + q)
def setRing (s : State) (i q : Nat) (r : Ring) : State :=
  { s with host := { s.host with rings := mset {} s.host.rings (8 * i + q) r } }
def modRing (s : State) (i q : Nat) (g : Ring → Ring) : State := s.setRing i q (g (s.ring i q))

def kiln (s : State) (k : Nat) : Kiln := mget {} s.kilns k
def modKiln (s : State) (k : Nat) (g : Kiln → Kiln) : State := { s with kilns := mset {} s.kilns k (g (s.kiln k)) }

def wheel (s : State) (m : Nat) : WheelReg := mget {} s.wheels m
def modWheel (s : State) (m : Nat) (g : WheelReg → WheelReg) : State :=
  { s with wheels := mset {} s.wheels m (g (s.wheel m)) }

def saggar (s : State) (i : Nat) : Saggar := mget {} s.keys.saggars i
def modSaggar (s : State) (i : Nat) (g : Saggar → Saggar) : State :=
  { s with keys := { s.keys with saggars := mset {} s.keys.saggars i (g (s.saggar i)) } }

def cache (s : State) (h : Nat) : Option CacheEntry := mget none s.keys.cache h
def setCache (s : State) (h : Nat) (e : Option CacheEntry) : State :=
  { s with keys := { s.keys with cache := mset none s.keys.cache h e } }

def ware (s : State) (tag : Nat) : Option Ware := mget none s.setter.wares tag
def setWare (s : State) (tag : Nat) (w : Option Ware) : State :=
  { s with setter := { s.setter with wares := mset none s.setter.wares tag w } }
def modWare (s : State) (tag : Nat) (g : Ware → Ware) : State :=
  match s.ware tag with
  | none => s
  | some w => s.setWare tag (some (g w))

def segment (s : State) (g : Nat) : Segment := mget {} s.routing.segments g
def modSegment (s : State) (g : Nat) (f : Segment → Segment) : State :=
  { s with routing := { s.routing with segments := mset {} s.routing.segments g (f (s.segment g)) } }

def grant (s : State) (k : Nat) : Grant := mget {} s.routing.grants k
def modGrant (s : State) (k : Nat) (f : Grant → Grant) : State :=
  { s with routing := { s.routing with grants := mset {} s.routing.grants k (f (s.grant k)) } }

def source (s : State) (i : Nat) : Source := mget {} s.ent.sources i
def modSource (s : State) (i : Nat) (f : Source → Source) : State :=
  { s with ent := { s.ent with sources := mset {} s.ent.sources i (f (s.source i)) } }

def drbg (s : State) (d : Nat) : Drbg := mget {} s.ent.drbgs d
def modDrbg (s : State) (d : Nat) (f : Drbg → Drbg) : State :=
  { s with ent := { s.ent with drbgs := mset {} s.ent.drbgs d (f (s.drbg d)) } }

/-- Mailbox k of function i stands at 8 i + k (R311). -/
def box (s : State) (i k : Nat) : Mbx := mget {} s.mbx.boxes (8 * i + k)
def modBox (s : State) (i k : Nat) (f : Mbx → Mbx) : State :=
  { s with mbx := { s.mbx with boxes := mset {} s.mbx.boxes (8 * i + k) (f (s.box i k)) } }

def cusPort (s : State) (p : Nat) : CusPort := if p = 0 then s.cus.port0 else s.cus.port1
def modCusPort (s : State) (p : Nat) (f : CusPort → CusPort) : State :=
  if p = 0 then { s with cus := { s.cus with port0 := f s.cus.port0 } }
  else { s with cus := { s.cus with port1 := f s.cus.port1 } }
def modCer (s : State) (f : Ceremony → Ceremony) : State := { s with cus := { s.cus with cer := f s.cus.cer } }
def roster (s : State) (i : Nat) : Roster := mget {} s.cus.rosters i

def bank (s : State) (b : Nat) : FaultBank := mget {} s.flt.banks b
def modBank (s : State) (b : Nat) (f : FaultBank → FaultBank) : State :=
  { s with flt := { s.flt with banks := mset {} s.flt.banks b (f (s.bank b)) } }

def stream (s : State) (i : Nat) : LogStream := mget {} s.log.streams i
def modStream (s : State) (i : Nat) (f : LogStream → LogStream) : State :=
  { s with log := { s.log with streams := mset {} s.log.streams i (f (s.stream i)) } }

def coneKiln (s : State) (k : Nat) : ConeKiln := mget {} s.cone.kilns k
def modConeKiln (s : State) (k : Nat) (f : ConeKiln → ConeKiln) : State :=
  { s with cone := { s.cone with kilns := mset {} s.cone.kilns k (f (s.coneKiln k)) } }
def coneBlock (s : State) (j : Nat) : ConeBlock := mget {} s.cone.blocks j
def modConeBlock (s : State) (j : Nat) (f : ConeBlock → ConeBlock) : State :=
  { s with cone := { s.cone with blocks := mset {} s.cone.blocks j (f (s.coneBlock j)) } }

def chan (s : State) (c : Nat) : Channel := mget {} s.dma c
def modChan (s : State) (c : Nat) (f : Channel → Channel) : State := { s with dma := mset {} s.dma c (f (s.chan c)) }

def modMir (s : State) (f : Mirror → Mirror) : State := { s with mir := f s.mir }
def modTmp (s : State) (f : Tamper → Tamper) : State := { s with tmp := f s.tmp }
def modFlt (s : State) (f : Faults → Faults) : State := { s with flt := f s.flt }
def modLog (s : State) (f : Recorder → Recorder) : State := { s with log := f s.log }
def modSys (s : State) (f : Modes → Modes) : State := { s with sys := f s.sys }
def modSetter (s : State) (f : Setter → Setter) : State := { s with setter := f s.setter }
def modEnt (s : State) (f : Entropy → Entropy) : State := { s with ent := f s.ent }
def modKeys (s : State) (f : KeyStore → KeyStore) : State := { s with keys := f s.keys }
def modRouting (s : State) (f : Routing → Routing) : State := { s with routing := f s.routing }
def modFw (s : State) (f : Firmware → Firmware) : State := { s with fw := f s.fw }
def modCone (s : State) (f : Cones → Cones) : State := { s with cone := f s.cone }
def modLcc (s : State) (f : Lifecycle → Lifecycle) : State := { s with lcc := f s.lcc }
def modHost (s : State) (f : HostPort → HostPort) : State := { s with host := f s.host }
def modCus (s : State) (f : Custodians → Custodians) : State := { s with cus := f s.cus }
def modMbx (s : State) (f : Mailboxes → Mailboxes) : State := { s with mbx := f s.mbx }

/-- The device puts `o` out. (DESIGN CHOICE, log 12) -/
def emit (s : State) (o : Out) : State := { s with out := o :: s.out }

/-- The host port issues a read of host memory for a function, unless its port is in D3hot: then the read waits for D0 (R46). (DESIGN CHOICE, log 73) -/
def issueRead (s : State) (i a n : Nat) : State :=
  if (s.port (s.host.split && decide (512 ≤ i))).d3hot then
    { s with host := { s.host with heldReads := s.host.heldReads ++ [(i, a, n)] } }
  else s.emit (.hostRead i a n)

/-- A read of a function at an address still waits for D0. -/
def readHeld (s : State) (i a : Nat) : Bool := s.host.heldReads.any fun e => e.1 = i && e.2.1 = a

/-! ## Free values -/

/-- `n` bytes that nothing constrains, from draw `ctr` on (R302: DRBG output; every undefined value). (DESIGN CHOICE, log 3) -/
def freeBytes (ctr n : Nat) : Bytes := (List.range n).map fun i => Config.freeByte (ctr + i)

/-- Moves past `n` draws. (DESIGN CHOICE, log 3) -/
def drew (s : State) (n : Nat) : State := { s with freeCtr := s.freeCtr + n }

/-- The next `n` free bytes; pair it with `drew n`. (DESIGN CHOICE, log 3) -/
def fresh (s : State) (n : Nat) : Bytes := freeBytes s.freeCtr n

/-! ## Functions and ports (R48, R49, R54) -/

/-- A physical function: index 0, and index 512 when the port is split (R48). -/
def isPf (s : State) (i : Nat) : Bool := i = 0 || (s.host.split && i = 512)

/-- The function's port: port B when split and the index is 512 or more (R48). -/
def portOf (s : State) (i : Nat) : Bool := s.host.split && decide (512 ≤ i)

/-- The PF of a port. -/
def pfOf (b : Bool) : Nat := if b then 512 else 0

/-- The function exists: a PF of a port that exists, or a VF within NumVFs (R49). -/
def present (s : State) (i : Nat) : Bool :=
  if s.isPf i then true
  else if s.portOf i then decide (i - 512 ≤ s.host.portB.numVfs) else decide (i ≤ s.host.portA.numVfs)

/-- The function accepts BAR accesses: it exists, its port is out of reset, no FLR of it runs and no ERASE_HALT holds the device
in reset (R44, R45, R59, R390). -/
def answers (s : State) (i : Nat) : Bool :=
  !s.tmp.halted && s.present i && !(s.fn i).flr && !(s.port (s.portOf i)).perst && (s.port (s.portOf i)).ready

/-- The PF of the port that HIF_CTL.GLOBAL_OWNER names (R54, R56). -/
def ownerPf (s : State) : Nat := pfOf (s.host.split && s.host.ownerB)

/-- The index that stands for Kazkel's own ring, beyond every function (R223). (DESIGN CHOICE, log 135) -/
def kazkelFn : Nat := 1024

/-- The functions of a port. -/
def fnsOf (s : State) (b : Bool) : List Nat := (List.range 1024).filter fun i => s.portOf i == b

/-! ## Wares, tags and saggars -/

/-- Ware tags in use, SET_INFLIGHT.COUNT (R102). -/
def inflight (s : State) : Nat := s.setter.wares.length

/-- The tags whose ware `p` admits, ascending. -/
def tagsWhere (s : State) (p : Ware → Bool) : List Nat :=
  s.setter.wares.filterMap fun e => match e.2 with
    | some w => if p w then some e.1 else none
    | none => none

/-- The saggar a function is bound to. -/
def saggarOf (s : State) (i : Nat) : Option Nat := (s.fn i).bound

end State

/-- The state of a command that acts on one function's registers: no effect unless the function answers. -/
def atFn (i : Nat) (f : State → State) (s : State) : State := when_ (s.answers i) f s

end Sys2Proof.Machine
end

