-- ==== Sys2Proof/Machine/Port.lean ====
section
/-! DEFINITION. What the host port issues for a function, in order, with dirty-page logging and MSI-X (R56, R61 to R65, R93,
R95), and the paced device vectors (R442). -/

namespace Sys2Proof.Machine

/-! ## Dirty-page logging (R61, R62) -/

/-- The 4 KiB pages that `len` bytes at `addr` touch. -/
def pagesOf (addr len : Nat) : List Nat :=
  if len = 0 then [] else (List.range ((addr + len - 1) / 4096 - addr / 4096 + 1)).map fun k => addr / 4096 + k

/-- A page of host memory lies in the logging window. -/
def Dpl.inside (d : Dpl) (page : Nat) : Bool :=
  decide (d.win.toNat / 4096 ≤ page) && decide (page < d.win.toNat / 4096 + d.pages.toNat)

/-- R61: the bitmap bits that a write logs, in the bitmap active when it is issued. -/
def Dpl.marks (d : Dpl) (addr len : Nat) : List HpItem :=
  if d.enable then ((pagesOf addr len).filter d.inside).map fun p => .log d.select (p - d.win.toNat / 4096) else []

/-- R61: a write outside the window sets OUTSIDE. One that lies partly inside logs its inside pages and sets OUTSIDE for the rest. (DESIGN CHOICE, log 123) -/
def Dpl.misses (d : Dpl) (addr len : Nat) : Bool := d.enable && (pagesOf addr len).any fun p => !(d.inside p)

/-- The host address of bitmap word `w`. -/
def Dpl.wordAddr (d : Dpl) (b : Bool) (w : Nat) : Nat := (if b then d.bmp1 else d.bmp0).toNat + 8 * w

/-- A word held in the write-combining cache (R62). -/
def Dpl.word (d : Dpl) (b : Bool) (w : Nat) : Option (BitVec 64) := (d.cache.find? fun e => e.1 == (b, w)).map (·.2)

/-- Puts a word in the cache of 256 words, as its newest (R62). -/
def Dpl.put (d : Dpl) (b : Bool) (w : Nat) (v : BitVec 64) : Dpl :=
  { d with cache := (((b, w), v) :: d.cache.filter fun e => e.1 != (b, w)).take 256 }

/-! ## Issuing items in order (R63, R93) -/

/-- MSI-X entry of a vector (R46). -/
def Fn.entry (f : Fn) (v : Nat) : MsixEntry := mget {} f.msix v

/-- The effect of the item in front; `none` when nothing can be issued now. -/
def issueOne (i : Nat) (f : Fn) : Option (Fn × List Out) :=
  match f.queue with
  | [] => none
  | .write a d :: rest =>
    some ({ f with queue := f.dpl.marks a d.length ++ rest,
                   dpl := { f.dpl with outside := f.dpl.outside || f.dpl.misses a d.length } }, [.hostWrite i a d])
  | .ware a d :: rest =>
    some ({ f with queue := f.dpl.marks a d.length ++ rest,
                   dpl := { f.dpl with outside := f.dpl.outside || f.dpl.misses a d.length } }, [.hostWrite i a d])
  | .record a d :: rest =>
    some ({ f with queue := f.dpl.marks a d.length ++ rest,
                   dpl := { f.dpl with outside := f.dpl.outside || f.dpl.misses a d.length } }, [.hostWrite i a d])
  | .log b p :: rest =>
    match f.dpl.word b (p / 64) with
      | some w =>
        if w.getLsbD (p % 64) then some ({ f with queue := rest }, [])
        else
          let w' := setBit w (p % 64)
          some ({ f with queue := rest, dpl := f.dpl.put b (p / 64) w' },
            [.hostWrite i (f.dpl.wordAddr b (p / 64)) (leBytes w'.toNat 8)])
      | none =>
        if f.reading then none
        else some ({ f with reading := true }, [.hostRead i (f.dpl.wordAddr b (p / 64)) 8])
  | .vector v :: rest =>
    if (f.entry v).masked then some ({ f with queue := rest, pba := setBit f.pba v }, [])
    else some ({ f with queue := rest }, [.msix i v])

/-- Issues items until none can go; `fuel` bounds their number. (DESIGN CHOICE, log 6) -/
def pump (i : Nat) : Nat → Fn → List Out → Fn × List Out
  | 0, f, o => (f, o)
  | n + 1, f, o =>
    match issueOne i f with
    | none => (f, o)
    | some (f', o') => pump i n f' (o' ++ o)

/-- How many issues an item can take: a write makes one item per page, a logged page a read and a write. -/
def itemCost : HpItem → Nat
  | .write a d => 2 + 2 * (pagesOf a d.length).length
  | .ware a d => 2 + 2 * (pagesOf a d.length).length
  | .record a d => 2 + 2 * (pagesOf a d.length).length
  | .log _ _ => 2
  | .vector _ => 1

namespace State

/-- Lets the host port issue what it can for function `i`. -/
def service (s : State) (i : Nat) : State :=
  let r := pump i (((s.fn i).queue.map itemCost).sum + 1) (s.fn i) []
  { s.setFn i r.1 with out := r.2 ++ s.out }

/-- Queues items for function `i` and issues what can go. -/
def issue (s : State) (i : Nat) (items : List HpItem) : State :=
  (s.modFn i fun f => { f with queue := f.queue ++ items }).service i

/-- Raises an MSI-X vector of a function (R56, R95). -/
def raiseVector (s : State) (i v : Nat) : State := s.issue i [.vector v]

/-- Sets a cause bit of a function, and raises vector 8 of a VF, or the PF's own vector for it (R56, R71). -/
def raiseCause (s : State) (i bit pfVector : Nat) : State :=
  (s.modFn i fun f => { f with irqCause := setBit f.irqCause bit }).raiseVector i (if s.isPf i then pfVector else 8)

/-- Raises one of PF vectors 16 to 21 on the global owner's PF, at most once per pacing interval (R56, R442). -/
def raiseDevice (s : State) (v : Nat) : State :=
  if s.log.pacing.any fun e => e.1 = v then
    s.modLog fun l => { l with pacing := l.pacing.map fun e => if e.1 = v then (v, true) else e }
  else (s.modLog fun l => { l with pacing := (v, false) :: l.pacing }).raiseVector s.ownerPf v

/-- A write by the device into host memory for function `i`, logged under R61. (DESIGN CHOICE, log 12) -/
def hostWrite (s : State) (i addr : Nat) (data : Bytes) : State := s.issue i [.write addr data]

/-- A write of a ware's result for function `i` (R93): it goes with the ware's record. (DESIGN CHOICE, log 12) -/
def wareWrite (s : State) (i addr : Nat) (data : Bytes) : State := s.issue i [.ware addr data]

/-- Answers a BAR read. -/
def barAnswer (s : State) (i offset : Nat) (v : Word) : State := s.emit (.barRead i offset v)

end State

end Sys2Proof.Machine
end

