-- ==== Sys2Proof/Machine/Records.lean ====
section
/-! DEFINITION. The one way a record enters the event recorder (R432 to R442), and the layout of a record. -/

namespace Sys2Proof.Machine

/-- The unit of a source (R433). (DESIGN CHOICE, log 54) -/
def unitOf (source : Nat) : Nat := source / 256

/-- SOURCE of a unit and an index (R433). (DESIGN CHOICE, log 54) -/
def srcOf (unit index : Nat) : Nat := 256 * unit + index

namespace Unit
def kazkel : Nat := 0x80
def tamper : Nat := 0x81
def dramel : Nat := 0x82
def recorder : Nat := 0x83
def host : Nat := 0x84
end Unit

/-- Stream 256 and stream 257 (R432). -/
def devStream : Nat := 256
def mbxStream : Nat := 257

/-- Bytes 0 to 59 of a record; CHECK follows (R432). -/
def recBody (r : Rec) : Bytes :=
  leBytes r.seq 8 ++ leBytes r.rtc 8 ++ leBytes r.stream 2 ++ leBytes r.source 2 ++ leBytes r.code 2 ++ leBytes r.count 2 ++
  leBytes r.flags 1 ++ leBytes r.mode 1 ++ leBytes r.fn 2 ++ padTo 28 r.data ++ leBytes r.gpos 4

/-- The 64 bytes of a record (R432). -/
def recBytes (r : Rec) : Bytes := recBody r ++ leBytes (crc32c (recBody r)).toNat 4

/-- A summary record: DROP_SUMMARY or SKIP_SUMMARY (R434). -/
def summaryCode (code : Nat) : Bool := code = 0x0F01 || code = 0x0F02

/-- FLAGS of a record (R432). -/
def recFlags (e : Event) (coalesced boot : Bool) : Nat :=
  b2n e.reserved + 2 * b2n coalesced + 4 * b2n (summaryCode e.code) + 8 * b2n boot

namespace State

/-- Sets a LOG_IRQ bit; a rise raises vector 18 (R442, R451). -/
def logIrq (s : State) (bit : Nat) : State :=
  if s.log.irq.getLsbD bit then s else (s.modLog fun l => { l with irq := setBit l.irq bit }).raiseDevice 18

/-- A normal-lane record is dropped at intake, counted against a unit (R440). -/
def dropRecord (s : State) (unit code : Nat) : State :=
  s.modLog fun l =>
    { l with
      dropped := satInc l.dropped,
      buckets := mmod { level := l.burst } l.buckets unit fun b =>
        { b with dropped := b.dropped + 1, firstCode := if b.dropped = 0 then code else b.firstCode, lastCode := code } }

/-- The record of event `e` as it enters its stream now. -/
def recOf (s : State) (e : Event) (count : Nat) (coalesced : Bool) : Rec :=
  { seq := (s.stream e.stream).next, rtc := s.sys.rtc.toNat, stream := e.stream, source := e.source, code := e.code,
    count := count, flags := recFlags e coalesced (s.stream e.stream).bootMark, mode := modeCode s.sys.mode, fn := e.fn,
    data := padTo 28 e.data, gpos := s.log.gpos }

/-- Takes the next global position and SEQ (R436, R441). -/
def enterRecord (s : State) (e : Event) (count : Nat) (coalesced : Bool) : State :=
  let r := s.recOf e count coalesced
  let s := s.modLog fun l =>
    { l with gpos := l.gpos + 1, ring := minsert l.ring (l.gpos % 32768) (some r), unsettled := l.unsettled ++ [l.gpos] }
  let s := s.modStream e.stream fun t => { t with next := t.next + 1, bootMark := false }
  let s := if e.stream = devStream then s.logIrq 0 else s
  if summaryCode e.code then s.logIrq 1 else s

/-- R441: room for the record, by lane. (DESIGN CHOICE, log 96) -/
def acceptRecord (s : State) (e : Event) (count : Nat) (coalesced : Bool) : State :=
  if e.reserved = true then
    if s.log.unsettled.length < 32768 then s.enterRecord e count coalesced
    else s.modLog fun l => { l with held := l.held ++ [e] }
  else if s.log.unsettled.length < 28672 then s.enterRecord e count coalesced
  else s.dropRecord Unit.recorder e.code

/-- A unit's intake budget (R440). -/
def budgetOf (s : State) (unit : Nat) : Bucket := mget { level := s.log.burst } s.log.buckets unit

/-- A normal-lane record that no open window folds: the intake budget, the position, and a window of its own (R439, R440). (DESIGN CHOICE, log 95) -/
def budgetRecord (s : State) (e : Event) (count : Nat) (coalesced : Bool) : State :=
  if (s.budgetOf (unitOf e.source)).level = 0 || s.log.flush == .power then s.dropRecord (unitOf e.source) e.code
  else
    (s.modLog fun l =>
      { l with
        buckets := mmod { level := l.burst } l.buckets (unitOf e.source) fun b => { b with level := b.level - 1 }
      }).acceptRecord e count coalesced

def sameTriple (e : Event) (w : Window) : Bool := w.stream = e.stream && w.source = e.source && w.code = e.code

/-- Hands the recorder one record (R438 to R441). A fenced recorder buffers nothing (R425). -/
def record (s : State) (e : Event) : State :=
  if (s.bank 13).fenced then s
  else if e.reserved then s.acceptRecord e 1 false
  else if s.log.windows.any (sameTriple e) then
    s.modLog fun l =>
      { l with
        windows := l.windows.map fun w =>
          if sameTriple e w then { w with folded := w.folded + 1, fn := e.fn, data := e.data } else w }
  else
    let s' := s.budgetRecord e 1 false
    if s.log.windows.length < 512 then
      s'.modLog fun l => { l with windows := { stream := e.stream, source := e.source, code := e.code } :: l.windows }
    else s'

/-- One record to the device stream and, where a saggar is known, one to its stream (R434). -/
def recordBoth (s : State) (e : Event) (sag : Option Nat) : State :=
  let s := s.record { e with stream := devStream }
  match sag with
  | none => s
  | some g => s.record { e with stream := g }

/-- A record of Kazkel in the device stream. -/
def kazkelRecord (s : State) (code : Nat) (data : Bytes) (reserved : Bool := false) : State :=
  s.record { stream := devStream, source := srcOf Unit.kazkel 0, code := code, data := data, reserved := reserved }

/-- A record of Kazkel in a saggar's stream. -/
def saggarRecord (s : State) (sag code : Nat) (data : Bytes) (reserved : Bool := false) : State :=
  s.record { stream := sag, source := srcOf Unit.kazkel 0, code := code, data := data, reserved := reserved }

end State

end Sys2Proof.Machine
end

