-- ==== Sys2Proof/Machine/LogOps.lean ====
section
/-! DEFINITION. The NOR writer of the event recorder (R438, R441, R443 to R446): settling and skipping records, blocks, quotas, and
the start of a flush. -/

namespace Sys2Proof.Machine

/-- A record of the reserved lane (R432). -/
def Rec.isReserved (r : Rec) : Bool := bitAt r.flags 0

/-- Records of a block (R443). -/
abbrev slotsPerBlock : Nat := 2047

/-- Slots left erased to close the open page of 8 slots (R446); slot 0 of the first page is the header. -/
def pagePad (used : Nat) : Nat := min (slotsPerBlock - used) ((8 - (used + 1) % 8) % 8)

/-- The header of a block of stream `n`, in its slot 0 (R443). (DESIGN CHOICE, log 146) -/
def blockHeader (n : Nat) (b : LogBlock) : Bytes :=
  let h := [0x5A, 0x4C] ++ leBytes n 2 ++ leBytes b.serial 4 ++ leBytes b.erases 4 ++ leBytes (BitVec.ofInt 32 b.budget).toNat 4 ++
    leBytes b.firstSeq 8 ++ zeros 36
  h ++ leBytes (crc32c h).toNat 4

namespace State

/-- The record at a global position. -/
def recAt (s : State) (g : Nat) : Option Rec := mget none s.log.ring (g % 32768)

/-- The lane of the unsettled record at `g`. -/
def reservedAt (s : State) (g : Nat) : Bool := (s.recAt g).any (·.isReserved)

/-- A record settles; a producer that holds one delivers it (R441). -/
def settle (s : State) (g : Nat) : State :=
  let s := s.modLog fun l => { l with unsettled := l.unsettled.filter (· ≠ g) }
  match s.log.held with
  | [] => s
  | e :: rest => if s.log.unsettled.length < 32768 then (s.modLog fun l => { l with held := rest }).enterRecord e 1 false else s

/-- The writer skips a normal-lane record (R445). -/
def skipRecord (s : State) (g : Nat) : State :=
  (s.modLog fun l =>
    { l with skipped := satInc l.skipped, skipCount := l.skipCount + 1, skipFirst := if l.skipCount = 0 then g else l.skipFirst
    }).settle g

/-- A fault flush starts (R446): normal-lane records older than the newest 384 are skipped. A running flush absorbs it (R447). (DESIGN CHOICE, log 65) -/
def startFaultFlush (s : State) : State :=
  if s.log.flush != .none || s.log.stopped then s
  else
    let normal := s.log.unsettled.filter fun g => !(s.reservedAt g)
    let s := forEach (normal.take (normal.length - 384)) (fun g s => s.skipRecord g) s
    s.modLog fun l => { l with flush := .fault l.gpos }

/-- NOR_LOW, while fewer than 4 erased blocks are in the pool (R447). -/
def poolCheck (s : State) : State := if s.log.free.length < 4 then s.logIrq 2 else s

/-- A block leaves its stream and is erased (R444). -/
def releaseBlock (s : State) (i : Nat) (b : LogBlock) : State :=
  let s := s.modStream i fun t => { t with blocks := t.blocks.filter fun x => x.index ≠ b.index }
  if b.bad then s else s.modLog fun l => { l with erasing := l.erasing ++ [(b.index, b.erases)] }

/-- The block that a stream's policy releases: its oldest, or its oldest after the first FIRST (R444). -/
def releasable (t : LogStream) : Option LogBlock :=
  t.blocks.find? fun b => !t.keepFirst || decide (t.first < b.serial)

/-- Releases blocks until a stream holds at most `n`. -/
def fitStream (i n : Nat) : Nat → State → State
  | 0, s => s
  | k + 1, s =>
    if (s.stream i).blocks.length ≤ n then s
    else match releasable (s.stream i) with
      | some b => (s.releaseBlock i b).fitStream i n k
      | none => s

/-- The erased block with the lowest erase count (R445). -/
def nextFree (free : List (Nat × Nat)) : Option (Nat × Nat) :=
  free.foldl (fun b a => match b with
    | none => some a
    | some x => if a.2 < x.2 then some a else some x) none

/-- A new block for a stream, its header written; none in the pool leaves the record unwritten. -/
def openBlock (s : State) (i firstSeq : Nat) : Option State :=
  let s := s.fitStream i ((s.stream i).quota - 1) 1024
  match nextFree s.log.free with
  | none => none
  | some (b, n) =>
    let t := s.stream i
    let serial := (t.blocks.map (·.serial)).foldl max t.opened + 1
    let blk : LogBlock := { index := b, serial := serial, erases := n, budget := s.log.budget, firstSeq := firstSeq }
    let s := s.modStream i fun t => { t with blocks := t.blocks ++ [blk], opened := serial }
    some ((s.modLog fun l =>
      { l with free := l.free.filter fun x => x.1 ≠ b, headerBudget := l.budget, budget := max (-1048576) (l.budget - 1) }).poolCheck)

/-- The stream's open block has a slot left. -/
def blockRoom (s : State) (i : Nat) : Bool :=
  (s.stream i).blocks.getLast?.any fun b => decide (b.used < slotsPerBlock)

/-- Changes a stream's open block. -/
def modOpen (s : State) (i : Nat) (f : LogBlock → LogBlock) : State :=
  s.modStream i fun t => { t with blocks := t.blocks.modify (t.blocks.length - 1) f }

/-- A slot of the record's stream is programmed with it, in a block opened for it where needed. `ok`: the program succeeds; a
failed one leaves the record to the next slot (R445). (DESIGN CHOICE, log 95) -/
def programRecord (s : State) (r : Rec) (ok : Bool) : Option State :=
  let opened := if s.blockRoom r.stream then some s else s.openBlock r.stream r.seq
  opened.map fun s =>
    let s := s.modLog fun l => { l with budget := max (-1048576) (l.budget - 1) }
    s.modOpen r.stream fun b =>
      { b with used := b.used + 1, recs := if ok then b.recs ++ [r] else b.recs, bad := b.bad || !ok }

/-- The record the writer takes next: reserved-lane first, each lane in position order (R446). -/
def nextRecord (s : State) : Option Nat :=
  match s.log.unsettled.find? s.reservedAt with
  | some g => some g
  | none => s.log.unsettled.head?

/-- The writer writes the record at `g` whatever the budget level: reserved, or under a flush (R445). -/
def freeOfBudget (s : State) (g : Nat) : Bool :=
  s.reservedAt g || (match s.log.flush with
    | .none => false
    | .fault upTo => decide (g < upTo)
    | .power => true)

end State

end Sys2Proof.Machine
end

