-- ==== Sys2Proof/Machine/Flags.lean ====
section
/-! DEFINITION. Flags and reactions of the fault banks (R415 to R421): which banks and sources exist, their severity, what a
reaction word takes of a write, and which reactions act. -/

namespace Sys2Proof.Machine

/-! ## Banks and sources (R415, R418, R419) -/

/-- A fault bank that exists. -/
def isBank (b : Nat) : Bool := decide (b ≤ 19) || decide (32 ≤ b ∧ b ≤ 99)

/-- A kiln's bank (R415). -/
def kilnBank (k : Nat) : Nat := 32 + k
def isKilnBank (b : Nat) : Bool := decide (32 ≤ b ∧ b ≤ 99)

/-- Blocks with cones: host port, setter, stores, kilns (R418, R463). -/
def hasCones (b : Nat) : Bool := decide (b ≤ 3) || isKilnBank b

abbrev sevMinor : Nat := 1
abbrev sevMajor : Nat := 2
abbrev sevGrave : Nat := 3

/-- The severities of the sources from 4 on. -/
def ownSeverities (b : Nat) : List Nat :=
  match b with
  | 0 => [2, 3, 2, 3, 1, 1]
  | 1 => [3, 3, 3, 3, 1]
  | 2 | 3 => [1, 1, 2, 3, 3, 1]
  | 4 | 5 | 6 | 7 => [3, 1, 3]
  | 8 => [2, 2, 3]
  | 9 => [2, 2]
  | 10 => [3, 2, 3, 2]
  | 11 => [3, 2, 3, 2, 2]
  | 12 => [2, 2]
  | 13 => [2, 1, 1]
  | 14 => [1]
  | 15 => [1, 2, 2]
  | 16 => [1, 2]
  | 17 | 18 => [3, 3]
  | 19 => [3, 3, 3, 1]
  | _ => if isKilnBank b then [2, 2, 2, 2, 2, 2, 2, 2, 2, 3, 2, 2, 3] else []

/-- The severity of source `i` of bank `b`; 0 for an absent source. -/
def faultSev (b i : Nat) : Nat :=
  if !(isBank b) then 0
  else if i = 0 ∨ i = 3 then sevMinor
  else if i = 1 then sevMajor
  else if i = 2 then (if hasCones b then sevMinor else 0)
  else (ownSeverities b).getD (i - 4) 0

/-- FLT_b_STAT.SOURCES of a bank whose domain is on. -/
def sourceCount (b : Nat) : Nat := 4 + (ownSeverities b).length

/-- GRAVE scope is the whole device (R415); a second fenced control pair is decided elsewhere. -/
def deviceScope (b : Nat) : Bool := decide (b ≤ 7) || b = 17 || b = 18 || b = 19

/-! ## Reactions (R420, R421) -/

abbrev reactIrq : Nat := 0
abbrev reactTrap : Nat := 1
abbrev reactBlock : Nat := 2
abbrev reactChip : Nat := 3
abbrev reactErr : Nat := 4

/-- R415 names a block reset. -/
def blockResets (b : Nat) : Bool := b = 9 || b = 12 || b = 14 || b = 15 || isKilnBank b

/-- FORCED: the reactions a severity forces. -/
def forcedOf (b i : Nat) : BitVec 5 :=
  if faultSev b i = sevMajor then 0b00010 else if faultSev b i = sevGrave then 0b10011 else 0

/-- AVAIL: the reactions available in the bank, the forced ones among them. -/
def availOf (b i : Nat) : BitVec 5 :=
  if faultSev b i = sevMinor then 0b10001
  else if faultSev b i = sevMajor then 0b11011 ||| (if blockResets b then 0b00100 else 0)
  else if faultSev b i = sevGrave then 0b10011 else 0

/-- The default Kazkel writes at boot. -/
def defaultOf (b i : Nat) : BitVec 5 :=
  if faultSev b i = sevMinor then 0b00001
  else if faultSev b i = sevMajor then (if blockResets b && i ≠ 1 then 0b00111 else 0b00011)
  else if faultSev b i = sevGrave then 0b10011 else 0

/-- The effective reactions: the bits written, restricted to the available, with the forced ones. -/
def effective (b i : Nat) (written : BitVec 5) : BitVec 5 := (written &&& availOf b i) ||| forcedOf b i

/-- The reactions in force of a source: written ones where the word was written since boot, else its default. -/
def reactionsOf (x : FaultBank) (b i : Nat) : BitVec 5 := effective b i (mget (defaultOf b i) x.react i)

/-- FLT_b_STAT.LEVEL: the highest severity among set sticky bits. -/
def levelOf (x : FaultBank) (b : Nat) : Nat :=
  ((List.range 32).map fun i => if x.sticky.getLsbD i then faultSev b i else 0).foldl max 0

/-- A sticky bit with ERR effective is set (R429). -/
def errHeld (x : FaultBank) (b : Nat) : Bool :=
  (List.range 32).any fun i => x.sticky.getLsbD i && (reactionsOf x b i).getLsbD reactErr

end Sys2Proof.Machine
end

