-- ==== Sys2Proof/Machine/FnOps.lean ====
section
/-! DEFINITION. Host protocol violations and quarantine (R69, R70), global ownership (R54), the advance of a generation (R58),
and what a reset of a function or port returns to reset values (R44, R59, R473). -/

namespace Sys2Proof.Machine

/-- The bits of FN_VIOL (R71). -/
abbrev violAlign : Nat := 0
abbrev violUnmapped : Nat := 1
abbrev violPoison : Nat := 2
abbrev violDoorbell : Nat := 3
abbrev violDescFetch : Nat := 4
abbrev violExtFetch : Nat := 5
abbrev violDplRead : Nat := 6

namespace State

/-! ## Violations (R69, R70) -/

/-- R70: a VF whose own WINDOW reaches LIMIT is quarantined; a PF never is, and LIMIT 0 disables it. -/
def quarantineCheck (s : State) (i : Nat) : State :=
  if !s.isPf i && !(s.fn i).quarantined && decide (s.host.violLimit ≠ 0)
      && decide (s.host.violLimit.toNat ≤ (s.fn i).violWindow.toNat) then
    (((s.modFn i fun f => { f with quarantined := true }).raiseCause i 4 8).recordBoth
      { stream := devStream, source := srcOf Unit.host 0, code := 0x0202, fn := i } (s.fn i).bound)
  else s

/-- One violation in FN_VIOL_CNT, with its effect on quarantine (R70, R318). WINDOW wraps at 16 bits. (DESIGN CHOICE, log 124) -/
def countViolation (s : State) (i : Nat) : State :=
  (s.modFn i fun f =>
    { f with violWindow := f.violWindow + 1, violTotal := satInc f.violTotal }).quarantineCheck i

/-- R69: the cause bit, the counts, and one record in the device stream and in the saggar's. -/
def violation (s : State) (i bit : Nat) : State :=
  let s := s.modFn i fun f => { f with viol := setBit f.viol bit }
  (s.recordBoth { stream := devStream, source := srcOf Unit.host 0, code := 0x0201, fn := i, data := [byte bit] }
    (s.fn i).bound).countViolation i

/-- R54: a PF's write to a device-global field acts only from the owning port; another PF's is dropped and counted. A VF maps no
global field, so its access is to an unmapped offset (R55, R69). (DESIGN CHOICE, log 110) -/
def globalWrite (s : State) (i : Nat) (f : State → State) : State :=
  if !s.answers i then s
  else if s.isPf i && (!s.host.split || (s.host.ownerB == decide (i = 512))) then f s
  else s.violation i violUnmapped

/-! ## Generations (R57, R58) -/

/-- Records among the items still to be issued. -/
def queuedRecords (q : List HpItem) : Nat :=
  (q.map fun | .record _ d => d.length / 32 | _ => 0).sum

/-- The items that a generation advance leaves: all but the records not yet issued and the writes that belong to them, since no
stale ware can have its record written (R57, R58). -/
def keepFresh (q : List HpItem) : List HpItem := q.filter fun
  | .record _ _ => false
  | .ware _ _ => false
  | _ => true

/-- R58, in one cycle: every ware of the function that holds a tag is marked stale, and the generation moves on. Records not yet
issued are stale too: no stale ware can have its record written. -/
def advanceGen (s : State) (i : Nat) : State :=
  let heldRecords := ((List.range 8).map fun q => (s.ring i q).held.length).sum
  let s := s.modSetter fun t =>
    { t with wares := t.wares.map fun e => (e.1, e.2.map fun w => if w.fn = i then { w with stale := true } else w) }
  s.modFn i fun f =>
    { f with gen := f.gen + 1, queue := keepFresh f.queue, staleCnt := satAdd f.staleCnt (queuedRecords f.queue + heldRecords) }

/-- FN_GEN.WAITING (R58). -/
def genWaiting (s : State) (i : Nat) : Bool := !(s.tagsWhere fun w => w.fn = i && w.stale).isEmpty

/-! ## What a reset of a function or a port takes with it (R44, R59, R473 rows 7 to 9 and 16) -/

/-- The wares in flight that `p` admits no longer count in their ring's INFLIGHT. -/
def unring (s : State) (p : Ware → Bool) : State :=
  s.modSetter fun t =>
    { t with wares := t.wares.map fun e => (e.1, e.2.map fun w => if p w then { w with ringless := true } else w) }

/-- Every ring of the function returns to its reset values. -/
def clearRings (s : State) (i : Nat) : State :=
  forEach (List.range 8) (fun q s => s.setRing i q {}) (s.unring fun w => w.fn = i)

/-- The items that are no MSI-X message. -/
def dropVectors (q : List HpItem) : List HpItem := q.filter fun
  | .vector _ => false
  | _ => true

/-- R59 step 3: rings, MSI-X table, PBA and FN_IRQ_CAUSE; pending vectors are discarded. -/
def clearFn (s : State) (i : Nat) : State :=
  (s.clearRings i).modFn i fun f => { f with msix := [], pba := 0, irqCause := 0, queue := dropVectors f.queue }

/-- Reads of a function that still wait are never issued (R59 step 1). -/
def dropHeld (s : State) (i : Nat) : State := s.modHost fun h => { h with heldReads := h.heldReads.filter fun e => e.1 ≠ i }

/-- R59 steps 1 to 3. The log grants of the index go too (R437). (DESIGN CHOICE, log 30) -/
def flrStart (s : State) (i : Nat) : State :=
  let s := ((s.advanceGen i).clearFn i).dropHeld i
  let s := s.modLog fun l => { l with grants := merase l.grants i }
  s.modFn i fun f => { f with flr := true }

/-- The mailboxes of a function return to IDLE: a posted command is dropped, the response of a running one is discarded (R59 step
4, R320); the negotiated level is 0 (R322). -/
def clearBoxes (s : State) (i : Nat) : State :=
  let s := forEach (List.range 8) (fun k s => s.modBox i k fun b => { running := b.running, acting := b.acting, count := b.count }) s
  s.modMbx fun m => { m with levels := merase m.levels i }

end State

end Sys2Proof.Machine
end

