-- ==== Sys2Proof/Machine/Policy.lean ====
section
/-! DEFINITION. The 256-byte policy record of a saggar for one variant (R326) and its readers. -/

namespace Sys2Proof.Machine

/-- FLAGS bit `i` of the saggar-wide part (R326). -/
def polFlag (p : Bytes) (i : Nat) : Bool := bitAt (leAt p 0 4) i
def polInflight (p : Bytes) : Nat := leAt p 4 4
def polCeiling (p : Bytes) : Nat := field (byteAt p 8) 0 2
def polHomeBase (p : Bytes) : Nat := byteAt p 9
def polHomeSize (p : Bytes) : Nat := byteAt p 10
def polMaxFunctions (p : Bytes) : Nat := leAt p 12 2
def polTr34Skew (p : Bytes) : Nat := leAt p 14 2
def polGroups (p : Bytes) : Nat := leAt p 16 8
def polSegQuota (p : Bytes) : Nat := leAt p 24 4
def polPageQuota (p : Bytes) : Nat := byteAt p 28
def polBudget (p : Bytes) : Nat := leAt p 32 4

/-- The floors in the order of ALG codes: AES, TDES, HMAC, RSA, NIST curves, Edwards (FLOOR_X), ML-KEM, ML-DSA (R326). -/
def polFloors (p : Bytes) : List Nat :=
  [leAt p 36 2, leAt p 38 2, leAt p 40 2, leAt p 42 2, leAt p 44 2, leAt p 50 2, leAt p 46 2, leAt p 48 2]

/-- The key administrators named: places other than 0xFFFF (R326). -/
def polAdmins (p : Bytes) : List Nat :=
  ((List.range 16).map fun i => leAt p (64 + 2 * i) 2).filter (· ≠ 0xFFFF)

/-- VFLAGS bit `i` of the variant part (R326). -/
def polVflag (p : Bytes) (i : Nat) : Bool := bitAt (leAt p 128 4) i
def polMinPin (p : Bytes) : Nat := byteAt p 132
def polMinMac (p : Bytes) : Nat := byteAt p 133
def polDecTable (p : Bytes) : Bytes := slice p 136 8
def polAdmit (p : Bytes) : Nat := leAt p 144 2
def polDeny (p : Bytes) : List Nat :=
  ((List.range 16).map fun i => leAt p (148 + 2 * i) 2).filter (· ≠ 0)

/-- Unrestricted keys, TDES key blocks, legacy import, the unmirrored policy "continue", EVICT (R326). -/
def polUnrestricted (p : Bytes) : Bool := polFlag p 0
def polTdesBlocks (p : Bytes) : Bool := polFlag p 1
def polLegacyImport (p : Bytes) : Bool := polFlag p 2
def polContinue (p : Bytes) : Bool := polFlag p 3
def polEvictRandom (p : Bytes) : Bool := polFlag p 4

/-- Check 11 of R84 as R326 states it. -/
def polAdmits (p : Bytes) (code : Nat) (privileged : Bool) : Bool :=
  (polAdmit p).testBit (code / 256) && !((polDeny p).contains code) && (code / 256 ≠ 7 || privileged)

/-- The form that R326 gives a record: zero bytes zero, fields in range. (DESIGN CHOICE, log 75) -/
def polForm (p : Bytes) : Bool :=
  p.length = 256 && leAt p 0 4 < 32 && polInflight p ≤ 65536 && byteAt p 8 < 4 && polHomeBase p ≤ 67 &&
  polHomeSize p ≤ 68 && byteAt p 11 = 0 && polMaxFunctions p ≤ 1024 && polTr34Skew p ≤ 3600 &&
  leAt p 29 3 = 0 && polBudget p ≤ 1000000 && leAt p 52 12 = 0 && leAt p 96 32 = 0 &&
  (leAt p 50 2 = 255 || leAt p 50 2 = 448) &&
  leAt p 128 4 < 256 && (4 ≤ polMinPin p && polMinPin p ≤ 12) &&
  (polMinMac p = 0 || (4 ≤ polMinMac p && polMinMac p ≤ 16)) && leAt p 134 2 = 0 &&
  (nibbles (polDecTable p)).all (· ≤ 9) && (polAdmins p).all (· < 1024) &&
  polAdmit p &&& 0x7801 = 0 && leAt p 146 2 = 0 && leAt p 180 76 = 0

/-- The policy facts that key checks use (R223, R224). -/
def keyPolicy (p : Bytes) (lcBit : Option Nat) (ceremony : Bool) : KeyPolicy :=
  { unrestricted := polUnrestricted p, floors := polFloors p, lcBit := lcBit, ceremony := ceremony }

end Sys2Proof.Machine
end

