-- ==== Sys2Proof/Machine/Store.lean ====
section
/-! DEFINITION. The inner store: reads and writes under an owner tag, its tweak keys, wipes (R33 to R35, R269), and the pages of the
wheel operand buffer region with the key extensions carved from them (R226, R268, R269). -/

namespace Sys2Proof.Machine

/-- The owner tag of the device itself: Kazkel's data, glaze images and ring state (R33). -/
abbrev deviceOwner : Nat := 256

/-- The address lies in the inner store's window (R31). -/
def inStore (a : Nat) : Bool := decide (a < 0x400000000)

/-- The contents of `n` bytes from `lo` go. -/
def clearRange (m : List Host.Cell) (lo n : Nat) : List Host.Cell := m.filter fun e => !decide (lo ≤ e.1 ∧ e.1 < lo + n)

/-- `n` lines from `lo` take one seal. -/
def sealRange (m : SMap (Option Seal)) (lo n : Nat) (x : Seal) : SMap (Option Seal) :=
  (m.filter fun e => decide (e.1 < lo)) ++ ((List.range n).map fun i => (lo + i, some x)) ++ (m.filter fun e => decide (lo + n ≤ e.1))

namespace State

/-! ## Lines and their seals (R33 to R35) -/

def modStore (s : State) (f : Store → Store) : State := { s with store := f s.store }

def tweakKey (s : State) (owner : Nat) : Option Bytes := mget none s.store.keys owner

/-- The seal that a write under an owner tag leaves. -/
def sealFor (s : State) (owner : Nat) : Seal := { owner := owner, draw := mget 0 s.store.draws owner }

def sealOf (s : State) (line : Nat) : Option Seal := mget none s.store.seals line

/-- A read of the line under the owner tag passes the integrity check: the tag was written under this owner's present tweak key
(R34, R35). -/
def verifies (s : State) (owner line : Nat) : Bool := (s.tweakKey owner).isSome && s.sealOf line == some (s.sealFor owner)

/-- What the stacks hold of a line that verifies: its ciphertext, and the 56-bit tag over data, address and owner (R34). -/
def storedLine (s : State) (line : Nat) : Option (Bytes × BitVec 56) :=
  match s.sealOf line with
  | none => none
  | some x =>
    let data := (List.range 64).map fun i => mget 0 s.mem (64 * line + i)
    if s.verifies x.owner line then
      (s.tweakKey x.owner).map fun k => (Config.lineCipher k (64 * line) data, Config.lineTag k (64 * line) x.owner data)
    else none

/-- One byte read under an owner tag; none where the line's tag fails: no data then (R35). Only the inner store has tags. -/
def memRead (s : State) (owner a : Nat) : Option Byte :=
  if !(inStore a) || s.verifies owner (a / 64) then some (mget 0 s.mem a) else none

/-- One byte written under an owner tag. A line that another seal closed keeps nothing of what it held. (DESIGN CHOICE, log 138) -/
def memWrite (s : State) (owner a : Nat) (v : Byte) : State :=
  let x := s.sealFor owner
  if s.sealOf (a / 64) == some x then { s with mem := mset 0 s.mem a v }
  else { s with mem := mset 0 (clearRange s.mem (64 * (a / 64)) 64) a v,
                store := { s.store with seals := mset none s.store.seals (a / 64) (some x) } }

/-- Bytes written at consecutive addresses under an owner tag. -/
def memWriteAll (s : State) (owner a : Nat) : Bytes → State
  | [] => s
  | b :: bs => (s.memWrite owner a b).memWriteAll owner (a + 1) bs

/-- Every line of `n` lines from `line` is written with zero data under an owner tag (R269). -/
def wipeLines (s : State) (owner line n : Nat) : State :=
  { s with mem := clearRange s.mem (64 * line) (64 * n),
           store := { s.store with seals := sealRange s.store.seals line n (s.sealFor owner) } }

/-- An owner tag has a new tweak key: no line written before verifies (R35, R217). -/
def setTweak (s : State) (owner : Nat) (key : Option Bytes) : State :=
  s.modStore fun t => { t with keys := mset none t.keys owner key, draws := mset 0 t.draws owner (mget 0 t.draws owner + 1) }

/-- The tweak keys of all 257 owner tags, 32 bytes each, are drawn (R34). -/
def setTweaks (s : State) (r : Bytes) : State :=
  s.modStore fun t =>
    { t with keys := (List.range 257).map fun i => (i, some (slice r (32 * i) 32)),
             draws := (List.range 257).map fun i => (i, mget 0 t.draws i + 1) }

/-! ## Pages (R268, R269) -/

/-- The inner store offset of an operand page (R32). -/
def pageAddr (p : Nat) : Nat := 0x180000000 + 65536 * p

/-- The first number from `n` on that a rising list leaves out. -/
def firstGap : List Nat → Nat → Nat
  | [], n => n
  | k :: ks, n => if k = n then firstGap ks (n + 1) else n

def pagesWhere (s : State) (f : Page → Bool) : List Nat :=
  s.store.pages.filterMap fun e => if e.2.any f then some e.1 else none

/-- The operand pages assigned to a saggar, those that firings claim, and those under a wipe on their way to it. -/
def operandPages (s : State) (g : Nat) : List Nat := s.pagesWhere fun x => x.saggar = g && !x.ext && !x.wiping
def busyPages (s : State) (g : Nat) : List Nat := s.pagesWhere fun x => x.saggar = g && !x.ext && x.tag.isSome
def wipingPages (s : State) (g : Nat) : List Nat := s.pagesWhere fun x => x.saggar = g && x.wiping
def extPages (s : State) (g : Nat) : List Nat := s.pagesWhere fun x => x.saggar = g && x.ext

/-- WHL_POOL_FREE (R289). -/
def freePages (s : State) : Nat := s.store.total - s.store.pages.length

/-- The page that Kazkel takes from the pool: the lowest free one. (DESIGN CHOICE, log 138) -/
def nextPage (s : State) : Option Nat :=
  let p := firstGap (s.store.pages.map (·.1)) 0
  if p < s.store.total then some p else none

def setPage (s : State) (p : Nat) (x : Option Page) : State := s.modStore fun t => { t with pages := mset none t.pages p x }

/-- Every line of the page is written with zeros under its owner's tag (R269). -/
def wipePage (s : State) (g p : Nat) : State := s.wipeLines g (pageAddr p / 64) 1024

/-- The operand page that a firing claims: the saggar's lowest idle one (R267). (DESIGN CHOICE, log 138) -/
def idlePage (s : State) (g : Nat) : Option Nat := (s.pagesWhere fun x => x.saggar = g && !x.ext && !x.wiping && x.tag.isNone).head?

/-- The saggar's operand page quota in force. -/
def pageQuota (s : State) (sag : Nat) : Nat := polPageQuota ((s.saggar sag).pol.record 0)

/-- A firing gives its page back: to its saggar, or to the pool where the quota has been lowered (R268). -/
def releasePage (s : State) (g p : Nat) : State :=
  s.setPage p (if s.pageQuota g < (s.operandPages g).length then none else some { saggar := g })

/-- A lower quota returns idle pages at once, the highest first (R268). (DESIGN CHOICE, log 138) -/
def trimPages (s : State) (g : Nat) : State :=
  let excess := (s.operandPages g).length - s.pageQuota g
  let idle := (s.operandPages g).filter fun p => !((s.busyPages g).contains p)
  forEach (idle.reverse.take excess) (fun p s => s.setPage p none) s

/-- Every page of a saggar returns to the pool (R217, R268). -/
def dropPages (s : State) (g : Nat) : State :=
  s.modStore fun t => { t with pages := t.pages.filter fun e => !(e.2.any fun x => x.saggar = g) }

/-! ## Key extensions (R226) -/

/-- The extensions that entries of a saggar hold, by inner store offset. -/
def extsUsed (s : State) (g : Nat) : List Nat := (s.saggar g).residence.filterMap fun h => (s.cache h).bind (·.ext)

/-- The eight extensions of 8 KiB of a page. -/
def extsOf (p : Nat) : List Nat := (List.range 8).map fun j => pageAddr p + 8192 * j

/-- A free extension in the pages the saggar has for them. -/
def freeExt (s : State) (g : Nat) : Option Nat := ((s.extPages g).flatMap extsOf).find? fun o => !((s.extsUsed g).contains o)

/-- An extension for one more key: a free one, or the first of a page that Kazkel assigns and wipes (R226, R269). (DESIGN CHOICE, log 138) -/
def takeExt (s : State) (g : Nat) : State × Option Nat :=
  match s.freeExt g with
  | some o => (s, some o)
  | none => match s.nextPage with
    | some p => ((s.setPage p (some { saggar := g, ext := true })).wipePage g p, some (pageAddr p))
    | none => (s, none)

/-- Pages none of whose extensions an entry holds go back to the pool. (DESIGN CHOICE, log 138) -/
def trimExts (s : State) (g : Nat) : State :=
  let used := s.extsUsed g
  s.modStore fun t => { t with pages := t.pages.filter fun e =>
    !(e.2.any fun x => x.saggar = g && x.ext) || (extsOf e.1).any fun o => used.contains o }

end State

end Sys2Proof.Machine
end

