-- ==== Sys2Proof/Machine/Fabric.lean ====
section
/-! DEFINITION. The fabric (R31 to R36): what lies at an internal address, who reaches it, the owner tag of a beat, and the fault bank of
a target. -/

namespace Sys2Proof.Machine

/-- What lies at an internal address (R31, R32), the rows of R36 and the regions no row grants. -/
inductive Target where
  | keyCache
  | segment (g : Nat)
  | ringQueue
  | glazeImages
  | reserved
  | mirrorStaging
  | working
  | stagingPage (p : Nat)
  | operandPage (p : Nat)
  | shelf (k : Nat)
  | glazeStore (k : Nat)
  | recorderRing
  | registers
  | kazkelRegisters
  | nor
  | bootMemory
  | nothing
  deriving DecidableEq, Repr

/-- Who puts a beat on the fabric (R33): the columns of R36 that reach internal addresses, with the identity a row asks for. -/
inductive Initiator where
  /-- a DMA channel lent to a function -/
  | channel (fn : Nat)
  | kazkel
  /-- a firing engine or the kiln DMA of a kiln, for a firing of a saggar -/
  | kiln (k saggar : Nat)
  | wheel (k saggar : Nat)
  | mirror
  deriving DecidableEq, Repr

/-- Routing segment at an internal address (R248): the table region holds 250,000 of 4 KiB. -/
def segmentOf (a : Nat) : Option Nat :=
  if 0x40000000 ≤ a ∧ a < 0x40000000 + 250000 * 4096 then some ((a - 0x40000000) / 4096) else none

/-- The staging page an internal address lies in: page n at 0x1_0000_0000 + n × 64 KiB (DESIGN CHOICE, log 2). -/
def stagePageOf (a : Nat) : Option Nat :=
  if 0x100000000 ≤ a ∧ a < 0x180000000 ∧ (a - 0x100000000) / 65536 < Config.stagePages then some ((a - 0x100000000) / 65536)
  else none

/-- DESIGN CHOICE, log 2. -/
def stageAddr (p : Nat) : Nat := 0x100000000 + 65536 * p

/-- R31, R32. -/
def targetAt (a : Nat) : Target :=
  if a < 0x40000000 then .keyCache
  else if a < 0x80000000 then (match segmentOf a with
    | some g => .segment g
    | none => .reserved)
  else if a < 0xA0000000 then .ringQueue
  else if a < 0xB0000000 then .glazeImages
  else if a < 0xC0000000 then .reserved
  else if a < 0x100000000 then .mirrorStaging
  else if a < 0x180000000 then (match stagePageOf a with
    | some p => .stagingPage p
    | none => .working)
  else if a < 0x400000000 then .operandPage ((a - 0x180000000) / 65536)
  else if 0x40000000000 ≤ a ∧ a < 0x40000000000 + 68 * 0x400000 then .shelf ((a - 0x40000000000) / 0x400000)
  else if 0x40100000000 ≤ a ∧ a < 0x40100000000 + 68 * 0x40000 then .glazeStore ((a - 0x40100000000) / 0x40000)
  else if 0x40200000000 ≤ a ∧ a < 0x40200200000 then .recorderRing
  else if 0x80000000000 ≤ a ∧ a < 0x80000100000 then .registers
  else if 0x80000100000 ≤ a ∧ a < 0x80000200000 then .kazkelRegisters
  else if 0xA0000000000 ≤ a ∧ a < 0xA0100000000 then .nor
  else if 0xE0000000000 ≤ a ∧ a < 0xE0000400000 then .bootMemory
  else .nothing

namespace State

/-- The saggar whose operand page it is. -/
def pageOwner (s : State) (p : Nat) : Option Nat := (mget none s.store.pages p).map (·.saggar)

/-- R36: whether the table grants the access. Key cache data reach an engine through the cache controller, and the routing tables through
the lookup path, not by address. -/
def reaches (s : State) (i : Initiator) (a : Nat) (write : Bool) : Bool :=
  match i, targetAt a with
  | .channel fn, .segment g => (s.segment g).state == .locked && (s.fn fn).bound == some (s.segment g).saggar
  | .channel fn, .stagingPage p => mget none s.mbx.pageOwner p == some fn
  | .kazkel, .segment _ => true
  | .kazkel, .reserved => decide (a < 0x80000000)
  | .kazkel, .ringQueue => !write
  | .kazkel, .glazeImages => true
  | .kazkel, .mirrorStaging => true
  | .kazkel, .working => true
  | .kazkel, .stagingPage _ => true
  | .kazkel, .operandPage _ => write
  | .kazkel, .glazeStore _ => write
  | .kazkel, .recorderRing => !write
  | .kazkel, .registers => true
  | .kazkel, .kazkelRegisters => true
  | .kazkel, .nor => true
  | .kazkel, .bootMemory => true
  | .kiln _ _, .glazeImages => !write
  | .kiln _ _, .mirrorStaging => write
  | .kiln _ g, .operandPage p => s.pageOwner p == some g
  | .kiln k _, .shelf j => j = k
  | .kiln k _, .glazeStore j => j = k && !write
  | .wheel _ g, .operandPage p => s.pageOwner p == some g
  | .wheel k _, .shelf j => j = k
  | .mirror, .mirrorStaging => true
  | _, _ => false

/-- The fault bank of the target of an internal address (R31, R36, R415): the store's stacks, the kiln whose shelf or glaze store it
is, the recorder, the NOR interface, and the fabric's own bank for registers and for addresses outside the windows. -/
def dmaTargetBank (a : Nat) : Nat :=
  if a < 0x400000000 then 2 + (a / 64) % 2
  else match targetAt a with
    | .shelf k => 32 + k
    | .glazeStore k => 32 + k
    | .recorderRing => 13
    | .nor => 19
    | _ => 1

/-- The owner tag that a beat to an internal address carries: segments and operand pages are accessed under their saggar's, all else
under the device's (R33, R248). (DESIGN CHOICE, log 138) -/
def ownerAt (s : State) (a : Nat) : Nat :=
  match targetAt a with
  | .segment g => (s.segment g).saggar
  | .operandPage p => (s.pageOwner p).getD deviceOwner
  | _ => deviceOwner

/-- The line at an internal address passes its integrity check (R35): a segment's lines under the present tweak key of its saggar. -/
def tagPasses (s : State) (a : Nat) : Bool :=
  !(inStore a) || (match segmentOf a with
    | some g => (s.tweakKey (s.segment g).saggar).isSome
    | none => s.verifies (s.ownerAt a) (a / 64))

end State

end Sys2Proof.Machine
end

