-- ==== Sys2Proof/Machine/Dma.lean ====
section
/-! DEFINITION. The DMA engine (chapter 21): descriptors, reach, ends, and the commands of its channels. -/

namespace Sys2Proof.Machine

/-! ## The descriptor (R503 to R505) -/

def dmaOwn (d : Bytes) : Bool := bitAt (byteAt d 0) 0
def dmaHalfIrq (d : Bytes) : Bool := bitAt (byteAt d 0) 1
def dmaFullIrq (d : Bytes) : Bool := bitAt (byteAt d 0) 2
def dmaSrcSpace (d : Bytes) : Nat := field (byteAt d 1) 0 2
def dmaDstSpace (d : Bytes) : Nat := field (byteAt d 1) 2 2
def dmaPrio (d : Bytes) : Nat := field (byteAt d 2) 0 2
def dmaSrc (d : Bytes) : Nat := leAt d 8 8
def dmaDst (d : Bytes) : Nat := leAt d 16 8
def dmaSrcLen (d : Bytes) : Nat := leAt d 24 4
def dmaSrcLines (d : Bytes) : Nat := leAt d 28 4
def dmaSrcStride (d : Bytes) : Nat := leAt d 32 4
def dmaDstLen (d : Bytes) : Nat := leAt d 36 4
def dmaDstLines (d : Bytes) : Nat := leAt d 40 4
def dmaDstStride (d : Bytes) : Nat := leAt d 44 4

/-- T, the bytes a descriptor moves (R504). -/
def dmaTotal (d : Bytes) : Nat := dmaSrcLen d * dmaSrcLines d

/-- The form of R505: reserved bits, spaces of a lent channel, lengths, the equality and the overlap of R504. -/
def dmaFormOk (d : Bytes) : Bool :=
  decide (byteAt d 0 < 8) && decide (byteAt d 1 < 16) && decide (byteAt d 2 < 4) && leAt d 56 8 = 0 &&
  decide (dmaSrcSpace d < 2) && decide (dmaDstSpace d < 2) &&
  decide (1 ≤ dmaSrcLen d ∧ dmaSrcLen d ≤ 2 ^ 24) && decide (1 ≤ dmaDstLen d ∧ dmaDstLen d ≤ 2 ^ 24) &&
  decide (1 ≤ dmaSrcLines d ∧ dmaSrcLines d ≤ 65536) && decide (1 ≤ dmaDstLines d ∧ dmaDstLines d ≤ 65536) &&
  dmaDstLen d * dmaDstLines d = dmaTotal d && decide (dmaTotal d ≤ 2 ^ 30) &&
  (dmaDstLines d = 1 || decide (dmaDstLen d ≤ dmaDstStride d))

/-- The priority a descriptor runs at: never numbered below PRIO_MAX (R504, R509). -/
def dmaRunsAt (c : Channel) : Nat := max c.prioMax (dmaPrio c.desc)

/-- The start of each line of a side. -/
def dmaLines (base lines stride : Nat) : List Nat := (List.range lines).map fun i => base + i * stride

namespace State

/-! ## Reads and writes inside the device (R35, R36) -/

/-- R36: a function's channel reaches the LOCKED segments of its saggar and the staging pages it holds. -/
def dmaReaches (s : State) (i a : Nat) : Bool := s.reaches (.channel i) a true

/-- The first address of the lines whose integrity check fails, on a side that lies inside the device. -/
def tagFirstBad (s : State) (space : Nat) (starts : List Nat) (len : Nat) : Option Nat :=
  if space = 0 then none
  else (starts.flatMap fun a => (List.range len).map fun k => a + k).find? fun a => !(s.tagPasses a)

/-- One byte of a segment or of a plain memory. -/
def dmaRead (s : State) (a : Nat) : Byte :=
  match segmentOf a with
  | some g => (mget (zeros 32) (s.segment g).slots ((a % 4096) / 32)).getD (a % 32) 0
  | none => mget 0 s.mem a

/-- Writes one byte of a segment or of a plain memory, under the owner tag of its place. -/
def dmaPut (s : State) (a : Nat) (v : Byte) : State :=
  match segmentOf a with
  | some g => s.modSegment g fun t =>
      { t with slots := mmod (zeros 32) t.slots ((a % 4096) / 32) fun e => (padTo 32 e).set (a % 32) v }
  | none => s.memWrite (s.ownerAt a) a v

/-- Writes bytes at consecutive internal addresses. -/
def dmaPutAll (s : State) (a : Nat) : Bytes → State
  | [] => s
  | b :: bs => (s.dmaPut a b).dmaPutAll (a + 1) bs

/-- Every byte of the lines is reached. -/
def dmaReachesAll (s : State) (i : Nat) (starts : List Nat) (len : Nat) : Bool :=
  starts.all fun a => (List.range len).all fun k => s.dmaReaches i (a + k)

/-- The first line start whose line is not all reached. -/
def dmaFirstBad (s : State) (i : Nat) (starts : List Nat) (len : Nat) : Nat :=
  (starts.find? fun a => !(List.range len).all fun k => s.dmaReaches i (a + k)).getD 0

/-- Spreads a byte stream over destination lines (R504); a line that is not reached stops it (R506). -/
def dmaSpread (s : State) (i : Nat) (space len : Nat) : List Nat → Bytes → State
  | [], _ => s
  | a :: as, bs =>
    let line := bs.take len
    if line.isEmpty then s
    else if space = 0 then (s.hostWrite i (a % 2 ^ 64) line).dmaSpread i space len as (bs.drop len)
    else if s.dmaReachesAll i [a] line.length then (s.dmaPutAll a line).dmaSpread i space len as (bs.drop len)
    else s

/-! ## Running a ring (R500, R502) -/

/-- The host address of the slot a channel is at. -/
def dmaSlotAddr (c : Channel) : Nat := c.ring.toNat + 64 * c.index

/-- The channel reads the slot that DMA_c_DESC names. (DESIGN CHOICE, log 115) -/
def dmaReadSlot (s : State) (c : Nat) : State :=
  let ch := s.chan c
  (s.modChan c fun ch => { ch with state := .idle, reading := true }).emit (.hostRead ch.fn (dmaSlotAddr ch) 64)

/-- A channel that runs: lent, enabled, and its engine not fenced (R502, R425). -/
def dmaLive (s : State) (c : Nat) : Bool := (s.chan c).lent && (s.chan c).enable && !(s.bank 12).fenced

/-- A descriptor of the channel is under way. -/
def dmaBusy (c : Channel) : Bool := c.state == .running || c.state == .preempted

/-- A channel with a descriptor under way runs at a level numbered below `n`. (DESIGN CHOICE, log 122) -/
def dmaOutranked (s : State) (n : Nat) : Bool := s.dma.any fun e => dmaBusy e.2 && decide (dmaRunsAt e.2 < n)

/-- R509: the channels at the lowest-numbered level that has one run, and those of the other levels are pre-empted. (DESIGN CHOICE, log 122) -/
def dmaTurns (s : State) : State :=
  { s with dma := mmap {} (fun _ c =>
      if dmaBusy c then { c with state := if s.dmaOutranked (dmaRunsAt c) then .preempted else .running } else c) s.dma }

/-- DMA_c_DESC moves on, modulo the ring size, and the next slot is read (R502 step 3). -/
def dmaNext (s : State) (c : Nat) : State :=
  let s := (s.modChan c fun ch =>
    { ch with index := (ch.index + 1) % 2 ^ ch.log2, desc := [], moved := 0, halfDone := false, state := .idle, reading := false
    }).dmaTurns
  if s.dmaLive c then s.dmaReadSlot c else s

/-- The cause bit of a channel's holder, 1 half, 2 full, 3 error, and its vector (R71, R507). -/
def dmaInterrupt (s : State) (c bit : Nat) : State := s.raiseCause (s.chan c).fn bit (32 + c)

/-- R506: the 8-byte write-back of bytes 0 to 7 of the slot. -/
def dmaWriteBack (s : State) (c status : Nat) (count : Bytes) : State :=
  let ch := s.chan c
  s.hostWrite ch.fn (dmaSlotAddr ch)
    ([byte (byteAt ch.desc 0 / 2 * 2), byte (byteAt ch.desc 1), byte (byteAt ch.desc 2), byte status] ++ count)

/-- A descriptor ends BAD with a cause (R506); BYTES is 0 for FORMAT and undefined otherwise. -/
def dmaBad (s : State) (c cause : Nat) : State :=
  let ch := s.chan c
  let s1 := if cause = 4 then s else s.drew 4
  let count := if cause = 4 then zeros 4 else s.fresh 4
  let s2 := s1.dmaWriteBack c (2 + 4 * b2n ch.halfDone + 16 * cause) count
  (s2.modChan c fun ch => { ch with bad := satInc ch.bad, lastCause := BitVec.ofNat 4 cause }).dmaInterrupt c 3

/-- The destination bytes of a descriptor that is broken off are undefined (R506, R510): inside the device they are free values. (DESIGN CHOICE, log 13) -/
def dmaTorn (s : State) (c : Nat) : State :=
  let ch := s.chan c
  let d := ch.desc
  if dmaBusy ch && dmaDstSpace d = 1 then
    (s.drew (dmaTotal d)).dmaSpread ch.fn 1 (dmaDstLen d) (dmaLines (dmaDst d) (dmaDstLines d) (dmaDstStride d)) (s.fresh (dmaTotal d))
  else s

/-- A DMA_CHANNEL reset (R510): the descriptor in progress ends BAD with cause RESET, and an enabled channel goes on. (DESIGN CHOICE, log 13) -/
def dmaChannelReset (s : State) (c : Nat) : State :=
  if dmaBusy (s.chan c) then ((s.dmaTorn c).dmaBad c 5).dmaNext c else s

/-- Release, reclaim or FLR of the holder (R510): a DMA_CHANNEL reset, then every field at its reset value. (DESIGN CHOICE, log 30) -/
def dmaReturn (s : State) (c : Nat) : State := (s.dmaChannelReset c).modChan c fun _ => {}

/-- ENABLE cleared, or bank 12 fenced (R510): everything is dropped, and the descriptor gets no write-back. -/
def dmaStop (s : State) (c : Nat) : State :=
  ((s.dmaTorn c).modChan c fun ch =>
    { ch with enable := false, state := .disabled, desc := [], moved := 0, halfDone := false, reading := false }).dmaTurns

/-- The channels lent to a function. -/
def lentTo (s : State) (i : Nat) : List Nat :=
  (List.range 32).filter fun c => (s.chan c).lent && (s.chan c).fn = i

end State

/-- Half of a descriptor's bytes have left the engine: STATUS with HALF, and the half interrupt, once per descriptor (R507). -/
def State.dmaHalf (s : State) (c : Nat) : State :=
  when_ (dmaHalfIrq (s.chan c).desc && !(s.chan c).halfDone) (fun s =>
    let ch := s.chan c
    let s := s.modChan c fun ch => { ch with halfDone := true, moved := (dmaTotal ch.desc + 1) / 2 }
    (s.hostWrite ch.fn (State.dmaSlotAddr ch + 3) [byte 4]).dmaInterrupt c 1) s

/-- The channel exists and is one that can be lent (R511). -/
def dmaChan (c : Nat) : Bool := decide (8 ≤ c ∧ c < 32)

/-! ## The commands -/

/-- A write of 1 to KICK: the slot at DMA_c_DESC is read now (R502). -/
def State.dmaKick (s : State) (c : Nat) : State :=
  when_ (s.dmaLive c && (s.chan c).state == .idle && !(s.chan c).reading) (fun s => s.dmaReadSlot c) s

/-- A PF writes KICK. -/
def execDmaKick (fn channel : Nat) (s : State) : Res :=
  onUnit s (dmaChan channel && decide (fn < 1024)) (s.globalWrite fn fun s => s.dmaKick channel)

/-- A write to DMA_c_CTL with ENABLE 1: POLL_US, LOG2 where the channel is DISABLED, and the channel runs from DMA_c_DESC. -/
def State.dmaEnable (s : State) (c v : Nat) : State :=
  when_ (s.chan c).lent (fun s =>
    let was := (s.chan c).enable
    let s := s.modChan c fun ch =>
      { ch with
        enable := true, pollUs := BitVec.ofNat 8 (field v 8 8),
        log2 := if ch.state == .disabled then clamp 4 12 (field v 16 4) else ch.log2 }
    when_ (s.dmaLive c && (!was || (bitAt v 1 && (s.chan c).state == .idle)) && !(s.chan c).reading) (fun s => s.dmaReadSlot c) s) s

/-- A PF writes DMA_c_CTL with ENABLE 1. -/
def execDmaEnable (fn channel : Nat) (value : Word) (s : State) : Res :=
  onUnit s (dmaChan channel && decide (fn < 1024)) (s.globalWrite fn fun s => s.dmaEnable channel value.toNat)

/-- ENABLE cleared (R510). -/
def execDmaDisable (fn channel : Nat) (s : State) : Res :=
  onUnit s (dmaChan channel && decide (fn < 1024)) (s.globalWrite fn fun s =>
    when_ (s.chan channel).lent (fun s => s.dmaStop channel) s)

/-- POLL_US has passed since an idle slot was read (R502); POLL_US 0 polls only on KICK. -/
def execDmaPollTimer (channel : Nat) (s : State) : Res :=
  onUnit s (dmaChan channel) (when_ (s.dmaLive channel && (s.chan channel).state == .idle && !(s.chan channel).reading
    && decide ((s.chan channel).pollUs ≠ 0)) (fun s => s.dmaReadSlot channel) s)

/-- The slot read returned: OWN 0 leaves the channel IDLE, OWN 1 has its descriptor copied, checked and started (R502, R505). -/
def execDmaSlotReadDone (channel : Nat) (slot : Bytes) (s : State) : Res :=
  onUnit s (dmaChan channel) (when_ (s.dmaLive channel && (s.chan channel).reading) (fun s =>
    let s := s.modChan channel fun ch => { ch with reading := false }
    if !dmaOwn slot then s.modChan channel fun ch => { ch with state := .idle }
    else
      let s := s.modChan channel fun ch => { ch with desc := slot, state := .running, moved := 0, halfDone := false }
      if dmaFormOk slot then s.dmaTurns else (s.dmaBad channel 4).dmaNext channel) s)

/-- The slot read failed: DMA_c_BAD, LAST_CAUSE 6, no advance, and the error interrupt at most once per 1 ms (R507). -/
def execDmaSlotReadFail (channel : Nat) (interrupt : Bool) (s : State) : Res :=
  onUnit s (dmaChan channel) (when_ (s.dmaLive channel && (s.chan channel).reading) (fun s =>
    let s := s.modChan channel fun ch =>
      { ch with reading := false, state := .idle, bad := satInc ch.bad, lastCause := 6 }
    when_ interrupt (fun s => s.dmaInterrupt channel 3) s) s)

/-- Half of the bytes of the descriptor under way have left the engine (R507). (DESIGN CHOICE, log 122) -/
def execDmaHalfPoint (channel : Nat) (s : State) : Res :=
  onUnit s (dmaChan channel) (when_ (s.dmaLive channel && State.dmaBusy (s.chan channel)) (fun s => s.dmaHalf channel) s)

/-- The bytes a descriptor moves: from host memory as they were read, from inside the device as it holds them. -/
def State.dmaSource (s : State) (d : Bytes) (hostData : Bytes) : Bytes :=
  if dmaSrcSpace d = 0 then hostData.take (dmaTotal d)
  else (dmaLines (dmaSrc d) (dmaSrcLines d) (dmaSrcStride d)).flatMap fun a =>
    (List.range (dmaSrcLen d)).map fun k => s.dmaRead (a + k)

/-- Completion of every byte (R506 row 1, R508): the write-back follows the data, the interrupt follows the write-back. -/
def State.dmaDone (s : State) (c : Nat) : State :=
  let ch := s.chan c
  let s := s.dmaWriteBack c (1 + 4 * b2n ch.halfDone) (leBytes (dmaTotal ch.desc) 4)
  let s := s.modChan c fun ch => { ch with done := ch.done + 1 }
  let s := when_ (dmaFullIrq ch.desc) (fun s => s.dmaInterrupt c 2) s
  s.dmaNext c

/-- A reach that R36 does not grant: the target's bank sets ACCESS, and the descriptor ends BAD with cause 3. The caller passes the
destination bytes written before the stop. -/
def State.dmaAccess (s : State) (c : Nat) (fault : State → State) : State := ((fault s).dmaBad c 3).dmaNext c

end Sys2Proof.Machine
end

