-- ==== Sys2Proof/Machine/Pin.lean ====
section
/-! DEFINITION. PIN blocks, digit extraction and the PIN codes of group 0x01 (R165 to R176). -/

namespace Sys2Proof.Machine

/-! ## Block ciphers at their block size -/

def aesE (k b : Bytes) : Bytes := padTo 16 (Config.aesEncrypt k (padTo 16 b))
def aesD (k b : Bytes) : Bytes := padTo 16 (Config.aesDecrypt k (padTo 16 b))
def tdesE (k b : Bytes) : Bytes := padTo 8 (Config.tdesEncrypt k (padTo 8 b))
def tdesD (k b : Bytes) : Bytes := padTo 8 (Config.tdesDecrypt k (padTo 8 b))
def desE (k b : Bytes) : Bytes := padTo 8 (Config.desEncrypt k (padTo 8 b))
def desD (k b : Bytes) : Bytes := padTo 8 (Config.desDecrypt k (padTo 8 b))

/-- R227: the three-byte key check value of a symmetric key. -/
def kcvSym (attr : Nat) (mat : Bytes) : Bytes :=
  if attrAlg attr = Alg.TDES then (tdesE mat (zeros 8)).take 3
  else if attrAlg attr = Alg.AES then (padTo 16 (Config.cmac false mat (zeros 16))).take 3
  else (padTo 32 (Config.hmac 256 mat [])).take 3

/-- R227: the key check value of any key. (DEDUCED, log 24) -/
def kcv (attr : Nat) (mat : Bytes) : Bytes :=
  if attrAlg attr ≤ Alg.HMAC then kcvSym attr mat
  else (padTo 32 (Config.sha256 (Config.publicOf attr mat))).take 3

/-! ## PIN blocks (R165) -/

/-- The block size of a format: 16 bytes for format 4. -/
def pinBlockLen (fmt : Nat) : Nat := if fmt = 4 then 16 else 8

/-- The key algorithm a format's block must be under (R166). -/
def pinFormatAlg (fmt : Nat) : Nat := if fmt = 4 then Alg.AES else Alg.TDES

/-- "PAN field": 0x0000, then the 12 rightmost PAN digits excluding the check digit, right-justified: the 11 of a 12-digit PAN follow
one more zero (R165, ISO 9564-1). (DEDUCED, log 132) -/
def panField (pan : List Nat) : Bytes :=
  let d := pan.dropLast
  let last12 := d.drop (d.length - 12)
  packNibbles (List.replicate (16 - last12.length) 0 ++ last12)

/-- "PAN field 4": a nibble of (PAN length − 12), the digits, zero nibbles to 16 bytes (R165). -/
def panField4 (pan : List Nat) : Bytes :=
  packNibbles (((pan.length - 12) :: pan) ++ List.replicate (31 - pan.length) 0)

/-- The clear PIN field that a block holds. -/
def pinField (fmt : Nat) (key block : Bytes) (pan : List Nat) : Bytes :=
  if fmt = 4 then aesD key (xorBytes (aesD key block) (panField4 pan))
  else if fmt = 1 then tdesD key (padTo 8 block)
  else xorBytes (tdesD key (padTo 8 block)) (panField pan)

/-- The checks after decryption of R165 on a clear field: the PIN digits, or none. -/
def pinDigits (fmt : Nat) (clear : Bytes) : Option (List Nat) :=
  let n := nibbles clear
  let l := n.getD 1 0
  let digits := (n.drop 2).take l
  let fill := ((n.take 16).drop 2).drop l
  if n.getD 0 0 = fmt ∧ 4 ≤ l ∧ l ≤ 12 ∧ digits.all (· ≤ 9) ∧
     (if fmt = 0 then fill.all (· = 0xF) else if fmt = 3 then fill.all (0xA ≤ ·)
      else if fmt = 4 then fill.all (· = 0xA) else true)
  then some digits else none

/-- R168, second case: the block is re-enciphered unchanged; control nibble, L and the first two digits are checked. -/
def pinPrefixOk (fmt : Nat) (clear : Bytes) : Option Nat :=
  let n := nibbles clear
  let l := n.getD 1 0
  if n.getD 0 0 = fmt ∧ 4 ≤ l ∧ l ≤ 12 ∧ n.getD 2 0 ≤ 9 ∧ n.getD 3 0 ≤ 9 then some l else none

/-- The DRBG bytes an output block of a format reserves (R166). -/
def pinRandomLen (fmt : Nat) : Nat := if fmt = 1 then 10 else if fmt = 3 then 80 else if fmt = 4 then 8 else 0

/-- The filler nibbles of R166, in order, from the reserved bytes. -/
def pinFill (fmt : Nat) (rand : Bytes) : List Nat :=
  if fmt = 1 then (List.range 10).map fun i => byteAt rand i % 16
  else if fmt = 3 then (List.range 10).map fun i => 0xA + leAt rand (8 * i) 8 % 6
  else List.replicate 10 0xF

/-- Enciphers a PIN in a format under a key (R165, R166). -/
def pinEncode (fmt : Nat) (key : Bytes) (pan digits : List Nat) (rand : Bytes) : Bytes :=
  let l := digits.length
  if fmt = 4 then
    let field := packNibbles ([4, l] ++ digits ++ List.replicate (14 - l) 0xA) ++ slice rand 0 8
    aesE key (xorBytes (aesE key field) (panField4 pan))
  else
    let field := packNibbles ([fmt, l] ++ digits ++ (pinFill fmt rand).take (14 - l))
    tdesE key (if fmt = 1 then field else xorBytes field (panField pan))

/-! ## Digits -/

/-- R173: the decimal nibbles left to right, then the others less 10; the first `n`. -/
def extractDigits (n : Nat) (bs : Bytes) : List Nat :=
  let ns := nibbles bs
  ((ns.filter (· ≤ 9)) ++ ((ns.filter (9 < ·)).map (· - 10))).take n

/-- R171: the natural PIN: enciphered validation data, decimalised by the table. -/
def naturalPin (aes : Bool) (key table validation : Bytes) (c : Nat) : List Nat :=
  let ct := if aes then (aesE key (validation ++ validation)).take 8 else tdesE key validation
  let t := nibbles table
  ((nibbles ct).map fun v => t.getD v 0).take c

/-- Digit by digit addition modulo 10 (R171). -/
def addDigits (a b : List Nat) : List Nat := List.zipWith (fun x y => (x + y) % 10) a b

/-- Digit by digit subtraction modulo 10 (R176). -/
def subDigits (a b : List Nat) : List Nat := List.zipWith (fun x y => (x + 10 - y) % 10) a b

/-- R174: the PVV of a PIN: 11 rightmost PAN digits excluding the check digit, the PVKI, the leftmost 4 PIN digits. -/
def pvv (key : Bytes) (pan : List Nat) (pvki : Nat) (pin : List Nat) : List Nat :=
  let d := pan.dropLast
  extractDigits 4 (tdesE key (packNibbles (d.drop (d.length - 11) ++ [pvki] ++ pin.take 4)))

/-- Packs digits left-justified, filled with 0xF nibbles to `len` bytes. -/
def packDigits (ds : List Nat) (len : Nat) : Bytes := packNibbles (ds ++ List.replicate (2 * len - ds.length) 0xF)

/-- R191: the Luhn check digit of a body of digits, computed right to left. -/
def luhnDigit (body : List Nat) : Nat :=
  let double := fun d => if 2 * d > 9 then 2 * d - 9 else 2 * d
  let go := body.reverse.foldl (fun (acc : Nat × Bool) d => (acc.1 + (if acc.2 then double d else d), !acc.2)) (0, true)
  (10 - go.1 % 10) % 10

end Sys2Proof.Machine
end

