-- ==== Sys2Proof/Machine/Payment.lean ====
section
/-! DEFINITION. What a firing of groups 0x01 to 0x06, 0x09 and 0x0F computes inside its fixed shape (R165 to R193), and
the form and policy checks made before it (steps 1 and 5 of R161). -/

namespace Sys2Proof.Machine

/-- What a firing works on: parameters, input record, data, keys, the random bytes reserved for it and public facts. -/
structure FireIn where
  code : Nat := 0
  /-- descriptor bytes 40 to 63, or a graph step's parameter block (R156, R198) -/
  params : Bytes := []
  /-- the input record (R156, R198) -/
  inp : Bytes := []
  /-- the data region (R159) -/
  data : Bytes := []
  /-- the PAN digits, empty for none (R158) -/
  pan : List Nat := []
  keyA : KeyVal := {}
  keyB : KeyVal := {}
  keyC : KeyVal := {}
  /-- KEYA is the session key a 0x0301 step left in a cell (R181, R201) -/
  session : Bool := false
  /-- the DRBG bytes reserved at step 8 of R161 -/
  rand : Bytes := []
  /-- the policy record of the ware's epoch and variant -/
  pol : Bytes := []
  /-- the originator counter allocated at placement (R187) -/
  counter : Nat := 0
  rtcSeconds : Nat := 0
  /-- the primes that earlier rounds of 0x0801 have found (R281) -/
  primes : List Nat := []
  saggar : Nat := 0
  /-- blob epoch CURRENT under the ware's policy epoch and its blob key (R229, R212) -/
  current : Nat := 0
  blobKey : Bytes := []
  deriving DecidableEq, Repr

/-- What a firing answers: a status, the result bytes and, for a graph, the key left in a cell. -/
structure FireOut where
  status : Nat := 0
  result : Bytes := []
  cellKey : Option KeyVal := none
  /-- the round or attempt gave no result yet; a prime it found (R281) -/
  again : Bool := false
  prime : Option Nat := none
  /-- the check of R286 failed -/
  faulty : Bool := false
  deriving DecidableEq, Repr

def fireOk (r : Bytes) : FireOut := { result := r }
def fireErr (st : Nat) : FireOut := { status := st }
/-- One more round or attempt, with the prime that this one found (R281). -/
def fireAgain (p : Option Nat) : FireOut := { again := true, prime := p }
/-- The check of R286 failed: no output, ABORTED_FAULT at the end of the full shape. -/
def fireFault : FireOut := { status := St.ABORTED_FAULT, faulty := true }

/-! ## Parameter readers, at descriptor offsets 40 to 63 (R156) -/

def parByte (i : FireIn) (off : Nat) : Nat := byteAt i.params (off - 40)
def parLe (i : FireIn) (off len : Nat) : Nat := leAt i.params (off - 40) len
def selA (i : FireIn) : Nat := parByte i 44
def selB (i : FireIn) : Nat := parByte i 45
def selC (i : FireIn) : Nat := parByte i 47
def selDkey (i : FireIn) : Nat := parLe i 52 2
def selDdata (i : FireIn) : Nat := parLe i 62 2
def dataPtr (i : FireIn) : Nat := parLe i 48 8
def dataLen (i : FireIn) : Nat := parLe i 56 4
def auxLen (i : FireIn) : Nat := parLe i 60 2
def isAes (k : KeyVal) : Bool := attrAlg k.attr = Alg.AES

/-- The data of a data-layout code: the fetched region, or the record from I+16 (R159). -/
def dataOf (i : FireIn) : Bytes :=
  if dataPtr i = 0 then slice i.inp 16 (dataLen i) else i.data

/-! ## PIN codes (R170 to R176) -/

/-- Decrypts a block and makes the checks of R165 and R169. -/
def pinOf (i : FireIn) (fmt : Nat) (key : KeyVal) (block : Bytes) : Except Nat (List Nat) :=
  match pinDigits fmt (pinField fmt key.material block i.pan) with
  | none => .error St.BAD_INPUT_FORMAT
  | some d => if d.length < polMinPin i.pol then .error St.POLICY_PIN else .ok d

/-- Continues a firing with a PIN, or ends it with the check's status. -/
def withPin (r : Except Nat (List Nat)) (k : List Nat → FireOut) : FireOut :=
  match r with
  | .error st => fireErr st
  | .ok d => k d

/-- R168, second case: a translation between equal formats 0 or 3 that names no PAN. -/
def panless (i : FireIn) : Bool :=
  (i.code = 0x0103 || i.code = 0x0402 || i.code = 0x0422) && i.pan.isEmpty && selA i = selB i && (selA i = 0 || selA i = 3)

/-- 0x0103, PIN translate, and the translation of 0x0402 and 0x0422 (R168, R170, R185). -/
def firePinTranslate (i : FireIn) (kin : KeyVal) (fin fout : Nat) : FireOut :=
  let block := slice i.inp 0 (pinBlockLen fin)
  if panless i then
    -- the block is re-enciphered unchanged
    let clear := tdesD kin.material block
    match pinPrefixOk fin clear with
    | none => fireErr St.BAD_INPUT_FORMAT
    | some l => if l < polMinPin i.pol then fireErr St.POLICY_PIN else fireOk (tdesE i.keyB.material clear)
  else withPin (pinOf i fin kin block) fun d => fireOk (pinEncode fout i.keyB.material i.pan d i.rand)

/-- The expected or natural PIN of 0x0101 and 0x0104 (R171). -/
def naturalOf (i : FireIn) : List Nat :=
  naturalPin (isAes i.keyB) i.keyB.material (slice i.inp 16 8) (slice i.inp 24 8) (selC i)

/-- 0x0104: the customer PIN against natural PIN plus offset (R171). -/
def firePinVerifyOffset (i : FireIn) : FireOut :=
  withPin (pinOf i (selA i) i.keyA (slice i.inp 0 16)) fun d =>
    let c := selC i
    let offset := (nibbles (slice i.inp 32 6)).take c
    if c ≤ d.length ∧ d.take c = addDigits (naturalOf i) offset then fireOk [] else fireErr St.PIN_MISMATCH

/-- 0x0101: offset generate (R176). A customer PIN shorter than SEL_C digits has no offset. (DESIGN CHOICE, log 130) -/
def firePinOffset (i : FireIn) : FireOut :=
  withPin (pinOf i (selA i) i.keyA (slice i.inp 0 16)) fun d =>
    if d.length < selC i then fireErr St.BAD_INPUT_FORMAT
    else fireOk (packDigits (subDigits (d.take (selC i)) (naturalOf i)) 6)

/-- 0x0105: PVV verify (R174). -/
def firePinVerifyPvv (i : FireIn) : FireOut :=
  withPin (pinOf i (selA i) i.keyA (slice i.inp 0 16)) fun d =>
    if pvv i.keyB.material i.pan (parByte i 52) d = nibbles (slice i.inp 16 2) then fireOk [] else fireErr St.PIN_MISMATCH

/-- 0x0102: PVV generate (R176). -/
def firePvvGenerate (i : FireIn) : FireOut :=
  withPin (pinOf i (selA i) i.keyA (slice i.inp 0 16)) fun d =>
    fireOk (packNibbles (pvv i.keyB.material i.pan (parByte i 52) d))

/-- 0x0106: both blocks checked, then compared (R175). -/
def firePinVerifyReference (i : FireIn) : FireOut :=
  withPin (pinOf i (selA i) i.keyA (slice i.inp 0 16)) fun d =>
    withPin (pinOf i (selB i) i.keyB (slice i.inp 16 16)) fun e =>
      if d = e then fireOk [] else fireErr St.PIN_MISMATCH

/-- 0x0107: each digit a 64-bit DRBG value modulo 10, then the block (R176). Fewer digits than MIN_PIN are refused at the end of the shape. (DESIGN CHOICE, log 130) -/
def firePinGenerate (i : FireIn) : FireOut :=
  let n := selC i
  let digits := (List.range n).map fun k => leAt i.rand (8 * k) 8 % 10
  if n < polMinPin i.pol then fireErr St.POLICY_PIN
  else fireOk (pinEncode (selB i) i.keyA.material i.pan digits (i.rand.drop (8 * n)))

/-! ## Card verification values (R178) -/

/-- The service code digits of SEL_A and SEL_D. -/
def cvvService (i : FireIn) : List Nat :=
  if selA i = 0 then (nibbles (slice i.params 12 2)).take 3
  else if selA i = 1 then [0, 0, 0] else [9, 9, 9]

/-- The three digits of R178. -/
def cvvDigits (i : FireIn) : List Nat :=
  let ds := i.pan ++ nibbles (slice i.inp 0 2) ++ cvvService i
  let ds := ds ++ List.replicate (32 - ds.length) 0
  let b1 := packNibbles (ds.take 16)
  let b2 := packNibbles ((ds.drop 16).take 16)
  let ka := slice i.keyA.material 0 8
  let kb := slice i.keyA.material 8 8
  let x := desE ka (xorBytes (desE ka b1) b2)
  extractDigits 3 (desE ka (desD kb x))

def fireCvvGenerate (i : FireIn) : FireOut := fireOk (packNibbles (cvvDigits i ++ [0xF]))

def fireCvvVerify (i : FireIn) : FireOut :=
  if nibbles (slice i.inp 2 2) = cvvDigits i ++ [0xF] then fireOk [] else fireErr St.CVV_MISMATCH

/-! ## EMV (R179 to R182) -/

/-- The 16 rightmost digits of the PAN followed by the two digits of the PSN, left-padded with 0 (R179). -/
def emvInput (pan : List Nat) (psn : Nat) : Bytes :=
  let d := pan ++ [psn / 16, psn % 16]
  packNibbles (List.replicate (16 - d.length) 0 ++ d.drop (d.length - 16))

/-- The card master key of SEL_A (R179). -/
def emvCardKey (i : FireIn) (k : KeyVal) : Bytes :=
  if selA i = 0 then k.material
  else if selA i = 1 then Config.emvOptionA k.material (emvInput i.pan (parByte i 52))
  else Config.emvOptionC k.material i.pan (parByte i 52)

/-- The session key of SEL_B from the ATC (R179); a session key held in a cell is used as it is (R181). -/
def emvSession (i : FireIn) (k : KeyVal) (atc : Bytes) : Bytes :=
  if i.session then k.material
  else if selB i = 0 then emvCardKey i k else Config.emvSessionKey (isAes k) (emvCardKey i k) atc

/-- R179: algorithm 3 with padding SEL_C under TDES, CMAC cut to 8 bytes under AES. -/
def emvMac (i : FireIn) (aes : Bool) (key msg : Bytes) : Bytes :=
  if aes then (padTo 16 (Config.cmac false key msg)).take 8 else padTo 8 (Config.isoMac3 key (selC i) msg)

/-- The derived session key as a cell key: E0, mode X, the algorithm and length of the key it came from (R201). -/
def sessionCell (k : KeyVal) (mat : Bytes) : KeyVal := { attr := k.attr, material := mat }

/-- 0x0301 (R180). -/
def fireArqcVerify (i : FireIn) : FireOut :=
  let sk := emvSession i i.keyA (slice i.inp 8 2)
  let mac := emvMac i (isAes i.keyA) sk (slice i.inp 16 (parByte i 53))
  if mac = slice i.inp 0 8 then { cellKey := some (sessionCell i.keyA sk) } else fireErr St.CRYPTOGRAM_MISMATCH

/-- 0x0302 (R181). -/
def fireArpc (i : FireIn) : FireOut :=
  let sk := emvSession i i.keyA (slice i.inp 8 2)
  let arqc := slice i.inp 0 8
  if selC i = 1 then fireOk (padTo 8 (Config.emvArpc1 (isAes i.keyA) sk arqc (slice i.inp 10 2)))
  else fireOk (padTo 4 (Config.emvArpc2 (isAes i.keyA) sk arqc (slice i.inp 12 4) (slice i.inp 16 (parByte i 53))))

/-- 0x0304: MAC over the ATC, the application cryptogram and the script data (R182). -/
def fireScriptMac (i : FireIn) : FireOut :=
  let sk := emvSession i i.keyA (slice i.inp 8 2)
  let msg := slice i.inp 8 2 ++ slice i.inp 0 8 ++ slice i.inp 16 (parByte i 53)
  fireOk ((emvMac i (isAes i.keyA) sk msg).take (byteAt i.inp 10))

/-- 0x0305: a format-2 block, padded by method 2, in CBC with a zero IV (R182). (DESIGN CHOICE, log 23) -/
def firePinChange (i : FireIn) : FireOut :=
  withPin (pinOf i (selA i) i.keyB (slice i.inp 16 16)) fun d =>
    let sk := Config.emvConfidentialityKey (isAes i.keyA) i.keyA.material i.pan i.params (slice i.inp 8 2)
    let block := packNibbles ([2, d.length] ++ d ++ List.replicate (14 - d.length) 0xF)
    fireOk (padTo 16 (Config.modeEncrypt 1 (!(isAes i.keyA)) sk (zeros 16) (padTo 16 (block ++ [0x80]))))

/-! ## DUKPT (R183 to R186) -/

/-- SIZE in bits of a working key type (R183). -/
def workingBits (t : Nat) : Nat := if t = 0 then 128 else if t = 1 then 192 else if t = 2 then 128 else if t = 3 then 192 else 256

/-- ATTR of a key in a cell: usage, mode, algorithm, size, every group, the lifecycle bits and floors of the parent (R201). -/
def cellAttr (parent usage mode alg size : Nat) : Nat :=
  usage + mode * 2 ^ 8 + alg * 2 ^ 12 + size * 2 ^ 16 + 0x3FF * 2 ^ 32 + (attrLc parent) * 2 ^ 48

/-- Usage and mode of the key 0x0401 leaves (R201). -/
def aesDukptUse (sel t : Nat) : Nat × Nat :=
  let mac := if t ≤ 1 then Us.M1 else Us.M6
  if sel = 1 then (Us.P0, Md.B) else if sel = 2 then (mac, Md.G) else if sel = 3 then (mac, Md.V)
  else if sel = 4 then (mac, Md.C) else if sel = 5 then (Us.D0, Md.E) else if sel = 6 then (Us.D0, Md.D)
  else (Us.D0, Md.B)

/-- Usage and mode of the key 0x0421 leaves (R201). -/
def tdesDukptUse (sel : Nat) : Nat × Nat :=
  if sel = 1 then (Us.P0, Md.B) else if sel ≤ 3 then (Us.M3, Md.C) else (Us.D0, Md.B)

/-- The working key of an AES DUKPT derivation (R183). -/
def aesWorking (i : FireIn) (initial : Bool) (ksn : Bytes) (sel : Nat) : KeyVal :=
  let t := selC i
  let u := aesDukptUse sel t
  let alg := if t ≤ 1 then Alg.TDES else Alg.AES
  { attr := cellAttr i.keyA.attr u.1 u.2 alg (workingBits t),
    material := padTo (workingBits t / 8) (Config.aesDukpt i.keyA.material initial (slice ksn 0 8) (beAt ksn 8 4) t sel) }

/-- The working key of a TDES DUKPT derivation: double length (R184). -/
def tdesWorking (i : FireIn) (sel : Nat) : KeyVal :=
  let u := tdesDukptUse sel
  { attr := cellAttr i.keyA.attr u.1 u.2 Alg.TDES 128,
    material := padTo 16 (Config.tdesDukpt i.keyA.material (slice i.inp 16 10) sel) }

def fireAesDukptDerive (i : FireIn) : FireOut := { cellKey := some (aesWorking i false (slice i.inp 16 12) (parByte i 52)) }
def fireTdesDukptDerive (i : FireIn) : FireOut := { cellKey := some (tdesWorking i (parByte i 52)) }

/-- 0x0402 (R185). -/
def fireAesDukptTranslate (i : FireIn) : FireOut :=
  firePinTranslate i (aesWorking i false (slice i.inp 16 12) 1) (selA i) (selB i)

/-- 0x0422 (R185). -/
def fireTdesDukptTranslate (i : FireIn) : FireOut := firePinTranslate i (tdesWorking i 1) (selA i) (selB i)

/-- The KSN of the originating side: the 8-byte initial key ID, then the counter big-endian (R183, R186). The spec does not
say what the initial key ID of an enrolled key is: a free value of its handle and serial (DESIGN CHOICE, log 14). -/
def originatorKsn (i : FireIn) : Bytes :=
  padTo 8 (Config.initialKeyId i.keyA.handle i.keyA.serial) ++ beBytes i.counter 4

/-- 0x0410: block in bytes 0 to 15, KSN in bytes 16 to 27 (R186). -/
def fireOriginatePin (i : FireIn) : FireOut :=
  withPin (pinOf i (selA i) i.keyB (slice i.inp 0 16)) fun d =>
    let ksn := originatorKsn i
    fireOk (pinEncode 4 (aesWorking i true ksn 1).material i.pan d i.rand ++ ksn)

/-! ## MACs, data encryption, FF1, hashes (R189 to R193) -/

/-- The full-length MAC of SEL_A [6:0] (R189). -/
def macBytes (i : FireIn) : Bytes :=
  let a := selA i % 128
  let tdes := !(isAes i.keyA)
  let k := i.keyA.material
  let d := dataOf i
  if a = 1 then Config.isoMac1 tdes k (selB i) d
  else if a = 3 then Config.isoMac3 k (selB i) d
  else if a = 5 then Config.cmac tdes k d
  else Config.hmac (if a = 6 then 256 else if a = 7 then 384 else 512) k d

def fireMacGenerate (i : FireIn) : FireOut := fireOk (padTo (selC i) (macBytes i))

def fireMacVerify (i : FireIn) : FireOut :=
  if padTo (selC i) (macBytes i) = slice i.inp 0 (selC i) then fireOk [] else fireErr St.MAC_MISMATCH

/-- The cipher block size of the key. -/
def blockLen (i : FireIn) : Nat := if isAes i.keyA then 16 else 8

/-- R190 SEL_B: 0 none, 1 ISO 9797-1 method 2, 2 PKCS #7. -/
def padData (sel blk : Nat) (d : Bytes) : Bytes :=
  let n := blk - d.length % blk
  if sel = 1 then d ++ [0x80] ++ zeros (n - 1)
  else if sel = 2 then d ++ List.replicate n (byte n) else d

/-- Takes padding off; none where it is bad. -/
def unpadData (sel blk : Nat) (d : Bytes) : Option Bytes :=
  if sel = 0 then some d
  else if sel = 1 then
    match (d.reverse.dropWhile (· = 0)) with
    | b :: r => if b = 0x80 ∧ d.length - r.length ≤ blk then some r.reverse else none
    | [] => none
  else
    let n := byteAt d (d.length - 1)
    if 1 ≤ n ∧ n ≤ blk ∧ n ≤ d.length ∧ (d.drop (d.length - n)).all (·.toNat = n) then some (d.take (d.length - n)) else none

/-- The IV length of the mode: the 12-byte GCM nonce, a block for CBC and CTR, none for ECB (R190). -/
def ivLen (i : FireIn) : Nat :=
  let m := selA i % 128
  if m = 3 then 12 else if m = 4 then 0 else blockLen i

/-- 0x0601 (R190). -/
def fireDataEncrypt (i : FireIn) : FireOut :=
  let m := selA i % 128
  let gen := bitAt (selC i) 0
  let iv := if gen then slice i.rand 0 (ivLen i) else slice i.inp 0 (ivLen i)
  let lead := if gen then iv else []
  let d := dataOf i
  if m = 3 then
    let c := Config.gcmSeal i.keyA.material iv (d.take (auxLen i)) (d.drop (auxLen i))
    fireOk (lead ++ padTo (d.length - auxLen i) c.1 ++ padTo 16 c.2)
  else
    let p := if m = 2 then d else padData (selB i) (blockLen i) d
    fireOk (lead ++ padTo p.length (Config.modeEncrypt m (!(isAes i.keyA)) i.keyA.material iv p))

/-- 0x0602 (R190). -/
def fireDataDecrypt (i : FireIn) : FireOut :=
  let m := selA i % 128
  let iv := slice i.inp 0 (ivLen i)
  let d := dataOf i
  if m = 3 then
    let body := (d.drop (auxLen i)).take (d.length - auxLen i - 16)
    match Config.gcmOpen i.keyA.material iv (d.take (auxLen i)) body (d.drop (d.length - 16)) with
    | none => fireErr St.MAC_MISMATCH
    | some p => fireOk (padTo body.length p)
  else
    let p := padTo d.length (Config.modeDecrypt m (!(isAes i.keyA)) i.keyA.material iv d)
    match unpadData (if m = 2 then 0 else selB i) (blockLen i) p with
    | none => fireErr St.BAD_INPUT_FORMAT
    | some r => fireOk r

/-- FF1 on numerals, cut or padded to the count it keeps. -/
def ff1Map (enc : Bool) (key : Bytes) (radix : Nat) (tweak : Bytes) (ns : List Nat) : List Nat :=
  let r := Config.ff1 enc key radix tweak ns
  (List.range ns.length).map fun k => r.getD k 0 % radix

/-- 0x0611 and 0x0612: FF1 on the middle digits of the PAN (R191). -/
def firePanToken (enc : Bool) (i : FireIn) : FireOut :=
  let mode := selC i % 4
  let lead := selA i
  let trail := selB i
  let body := if mode = 0 then i.pan else i.pan.dropLast
  let kept := body.take lead ++ body.drop (body.length - trail)
  let tweak := if bitAt (selC i) 2 then kept.map byte else slice i.inp 0 (parByte i 52)
  let mid := (body.drop lead).take (body.length - lead - trail)
  let out := body.take lead ++ ff1Map enc i.keyA.material 10 tweak mid ++ body.drop (body.length - trail)
  let full := if mode = 0 then out
    else out ++ [if enc ∧ mode = 2 then (luhnDigit out + 1) % 10 else luhnDigit out]
  fireOk (packDigits full 10)

/-- 0x0613 and 0x0614 (R192). -/
def fireFf1 (enc : Bool) (i : FireIn) : FireOut :=
  fireOk ((ff1Map enc i.keyA.material (selDdata i) (slice i.inp 0 (auxLen i)) ((dataOf i).map (·.toNat))).map byte)

/-- The codes of R163 and R193: what each computes in its fixed shape. -/
def firePayment (i : FireIn) : Option FireOut :=
  match i.code with
  | 0x0101 => some (firePinOffset i)
  | 0x0102 => some (firePvvGenerate i)
  | 0x0103 => some (firePinTranslate i i.keyA (selA i) (selB i))
  | 0x0104 => some (firePinVerifyOffset i)
  | 0x0105 => some (firePinVerifyPvv i)
  | 0x0106 => some (firePinVerifyReference i)
  | 0x0107 => some (firePinGenerate i)
  | 0x0201 => some (fireCvvGenerate i)
  | 0x0202 => some (fireCvvVerify i)
  | 0x0301 => some (fireArqcVerify i)
  | 0x0302 => some (fireArpc i)
  | 0x0304 => some (fireScriptMac i)
  | 0x0305 => some (firePinChange i)
  | 0x0401 => some (fireAesDukptDerive i)
  | 0x0402 => some (fireAesDukptTranslate i)
  | 0x0410 => some (fireOriginatePin i)
  | 0x0421 => some (fireTdesDukptDerive i)
  | 0x0422 => some (fireTdesDukptTranslate i)
  | 0x0501 => some (fireMacGenerate i)
  | 0x0502 => some (fireMacVerify i)
  | 0x0601 => some (fireDataEncrypt i)
  | 0x0602 => some (fireDataDecrypt i)
  | 0x0611 => some (firePanToken true i)
  | 0x0612 => some (firePanToken false i)
  | 0x0613 => some (fireFf1 true i)
  | 0x0614 => some (fireFf1 false i)
  | 0x0901 => some (fireOk (padTo 32 (Config.sha256 (dataOf i))))
  | 0x0902 => some (fireOk (padTo 48 (Config.sha384 (dataOf i))))
  | 0x0903 => some (fireOk (padTo 64 (Config.sha512 (dataOf i))))
  | 0x0904 => some (fireOk (padTo 32 (Config.sha3_256 (dataOf i))))
  | 0x0905 => some (fireOk (padTo 64 (Config.sha3_512 (dataOf i))))
  | 0x0910 => some (fireOk (slice i.rand 0 (dataLen i)))
  | 0x0F01 => some (fireOk (slice i.inp 0 16))
  | 0x0F02 => some (fireOk [])
  | 0x0F03 => some (fireOk [])
  | _ => none

end Sys2Proof.Machine
end

