-- ==== Sys2Proof/Machine/KeyMgmt.lean ====
section
/-! DEFINITION. Key derivation, glaze blobs and the firings of group 0x07 (R212, R227, R235 to R242). -/

namespace Sys2Proof.Machine

/-! ## Derivation (R212) -/

/-- One 256-bit key from a parent: two CMAC-AES-256 outputs over counter, label, zero, context and length (R212). -/
def derive (parent : Bytes) (label : List Nat) (context : Bytes) : Bytes :=
  let input := fun (c : Nat) => beBytes c 4 ++ bytesOf label ++ [0] ++ context ++ beBytes 256 4
  padTo 16 (Config.cmac false parent (input 1)) ++ padTo 16 (Config.cmac false parent (input 2))

/-- The slot wrap key KW(s): label "KW", context s and CNONCE(s), from the hearth key. -/
def slotWrapKey (hearth : Bytes) (s : Nat) (cnonce : Bytes) : Bytes := derive hearth [0x4B, 0x57] (byte s :: cnonce)

/-- The blob key BK(s, e): label "BK", context s and e, from SSK(s). -/
def blobKeyOf (ssk : Bytes) (s e : Nat) : Bytes := derive ssk [0x42, 0x4B] (byte s :: leBytes e 2)

/-! ## Blobs (R227) -/

/-- The 48-byte header. -/
def blobHeader (fmt saggar bepoch matLen handle attr serial : Nat) (check iv : Bytes) : Bytes :=
  [0x5A, 0x47, byte fmt, byte saggar] ++ leBytes bepoch 2 ++ leBytes matLen 2 ++ leBytes handle 4 ++
  leBytes attr 8 ++ leBytes serial 8 ++ padTo 3 check ++ [0] ++ padTo 12 iv ++ zeros 4

/-- A blob: header, ciphertext, tag. -/
def makeBlob (key : Bytes) (fmt saggar bepoch handle attr serial : Nat) (mat iv : Bytes) : Bytes :=
  let h := blobHeader fmt saggar bepoch mat.length handle attr serial (kcv attr mat) iv
  let c := Config.gcmSeal key (padTo 12 iv) h mat
  h ++ padTo mat.length c.1 ++ padTo 16 c.2

/-- The fields of a header read back. -/
structure BlobFields where
  magicOk : Bool
  fmt : Nat
  saggar : Nat
  bepoch : Nat
  matLen : Nat
  handle : Nat
  handleHigh : Nat
  attr : Nat
  serial : Nat
  reservedOk : Bool
  deriving DecidableEq, Repr

def blobFields (h : Bytes) : BlobFields :=
  { magicOk := byteAt h 0 = 0x5A && byteAt h 1 = 0x47, fmt := byteAt h 2, saggar := byteAt h 3,
    bepoch := leAt h 4 2, matLen := leAt h 6 2, handle := leAt h 8 4 % 2 ^ 22, handleHigh := leAt h 8 4 / 2 ^ 22,
    attr := leAt h 12 8, serial := leAt h 20 8, reservedOk := byteAt h 31 = 0 && leAt h 44 4 = 0 && leAt h 8 4 / 2 ^ 22 = 0 }

/-- Opens a blob's body under its key: header, ciphertext and tag. (DESIGN CHOICE, log 47) -/
def openBlob (key header body : Bytes) : Option Bytes :=
  let n := (blobFields header).matLen
  (Config.gcmOpen key (slice header 32 12) (slice header 0 48) (slice body 0 n) (slice body n 16)).map (padTo n)

/-- A new blob of a firing's saggar under CURRENT: SERIAL and IV from the first 20 reserved bytes (R235, R227). -/
def newBlob (i : FireIn) (handle attr : Nat) (mat : Bytes) : Bytes :=
  makeBlob i.blobKey 0x01 i.saggar i.current handle attr (leAt i.rand 0 8) mat (slice i.rand 8 12)

/-! ## Group 0x07 (R232 to R242) -/

/-- NEW_HANDLE of the key management layout (R232). -/
def newHandle (i : FireIn) : Nat := parLe i 60 4
/-- SLOT (R232). -/
def slotField (i : FireIn) : Nat := parByte i 46
/-- TEMPLATE (R232). -/
def template (i : FireIn) : Nat := leAt i.inp 0 8

/-- A byte with odd parity, as TDES keys carry it (R227). -/
def oddParity (b : Byte) : Byte :=
  if popCount (b.toNat / 2) 7 % 2 = 0 then b ||| 1 else b &&& 0xFE

/-- Every byte of a TDES key has odd parity (R239). -/
def parityOk (mat : Bytes) : Bool := mat.all fun b => oddParity b == b

/-- The 8-byte parts of a TDES key. -/
def tdesParts (mat : Bytes) : List Bytes := (List.range (mat.length / 8)).map fun k => slice mat (8 * k) 8

/-- A TDES key is weak, semi-weak or has two equal parts (R236, R239). -/
def tdesWeak (mat : Bytes) : Bool :=
  let ps := tdesParts mat
  ps.any Config.desWeak || decide (ps.eraseDups.length < ps.length)

/-- R239: a TDES key without odd parity, weak, or with two equal parts. -/
def tdesKeyWeak (mat : Bytes) : Bool := !(parityOk mat) || tdesWeak mat

/-- The candidates of R236 in the reserved bytes: the first that is not weak, if there is one. (DESIGN CHOICE, log 15) -/
def drawTdes (n : Nat) (rand : Bytes) : Nat → Option Bytes
  | 0 => none
  | k + 1 =>
    let c := (slice rand 0 n).map oddParity
    if tdesWeak c then drawTdes n (rand.drop n) k else some c

/-- How many TDES candidates a generation reserves: the spec names no number (DESIGN CHOICE, log 15). -/
def tdesDraws : Nat := 5

/-- 0x0701 (R236). Where every candidate is weak, no key is made and the firing ends with ABORTED_FAULT. (DESIGN CHOICE, log 15) -/
def fireKeyGenerate (i : FireIn) : FireOut :=
  let t := template i
  let n := attrSize t / 8
  let body := i.rand.drop 20
  match (if attrAlg t = Alg.TDES then drawTdes n body tdesDraws else some (slice body 0 n)) with
  | none => fireErr St.ABORTED_FAULT
  | some mat =>
    let blob := newBlob i (newHandle i) t mat
    if bitAt (selA i) 0 then
      fireOk (blob ++ padTo 512 (Config.keyBlockSeal (selB i) i.keyB.material t mat (body.drop (n * tdesDraws))))
    else fireOk blob

/-- 0x0710 (R237). -/
def fireRewrap (i : FireIn) : FireOut :=
  let k := i.keyA
  if bitAt (selA i) 0 then fireOk (newBlob i k.handle (template i) k.material)
  else fireOk (makeBlob i.blobKey 0x01 i.saggar i.current k.handle k.attr k.serial k.material (slice i.rand 8 12))

/-- R238: a field of the template that is zero takes the block's value, else its own narrower or equal one (DEDUCED, log 16). -/
def importField (t b : Nat) : Nat := if t = 0 then b else t

/-- The attribute word of an imported key (R238). -/
def importAttr (t b : Nat) : Nat :=
  importField (attrUsage t) (attrUsage b) + importField (attrMode t) (attrMode b) * 2 ^ 8 +
  importField (attrAlg t) (attrAlg b) * 2 ^ 12 + importField (attrSize t) (attrSize b) * 2 ^ 16 +
  importField (attrExport t) (attrExport b) * 2 ^ 30 + attrGroups t * 2 ^ 32 + b2n (attrTokenise t) * 2 ^ 42 +
  b2n (attrWorld t) * 2 ^ 43 + attrLc t * 2 ^ 48 + importField (attrVersion t) (attrVersion b) * 2 ^ 56

/-- R238: the template's block-fixed fields are zero, equal to the block's or narrower. (DEDUCED, log 16) -/
def importTemplateOk (t b : Nat) : Bool :=
  (attrUsage t = 0 || attrUsage t = attrUsage b) && (attrAlg t = 0 || attrAlg t = attrAlg b) &&
  (attrSize t = 0 || attrSize t = attrSize b) && (attrVersion t = 0 || attrVersion t = attrVersion b) &&
  (attrMode t = 0 || modeNarrows (attrMode t) (attrMode b)) &&
  (attrExport t = 0 || exportNarrows (attrExport t) (attrExport b)) && !(attrPrivate t)

/-- The end of a key block import: parity, weakness, then the blob (R239). -/
def importedKey (i : FireIn) (attr : Nat) (mat : Bytes) : FireOut :=
  if attrAlg attr = Alg.TDES && tdesKeyWeak mat then fireErr St.KEY_WEAK
  else fireOk (newBlob i (newHandle i) attr mat)

/-- 0x0720 (R239). -/
def fireBlockImport (i : FireIn) : FireOut :=
  match Config.keyBlockHeader (dataOf i) with
  | none => fireErr St.KEY_BLOCK_INVALID
  | some h =>
    match Config.keyBlockOpen h.version i.keyB.material (dataOf i) with
    | none => fireErr St.KEY_BLOCK_INVALID
    | some mat =>
      let attr := importAttr (template i) h.attr
      if mat.length ≠ attrSize attr / 8 then fireErr St.KEY_BLOCK_INVALID else importedKey i attr mat

/-- 0x0721: ECB under KEY2's key with byte 0 of each 8-byte part XORed with SEL_B (R240). -/
def fireLegacyImport (i : FireIn) : FireOut :=
  let t := template i
  let n := attrSize t / 8
  let kek := (List.range i.keyB.material.length).map fun k =>
    if k % 8 = 0 then i.keyB.material.getD k 0 ^^^ byte (selB i) else i.keyB.material.getD k 0
  let ct := slice i.inp 16 n
  let mat := (List.range (n / 8)).flatMap fun k => tdesD kek (slice ct (8 * k) 8)
  let want := slice i.inp 12 3
  if tdesKeyWeak mat then fireErr St.KEY_WEAK
  else if want ≠ zeros 3 ∧ want ≠ kcv t mat then fireErr St.KEY_BLOCK_INVALID
  else fireOk (newBlob i (newHandle i) t mat)

/-- 0x0722 (R241): the signature, then the enclosed key block under R221, R238 and R239. -/
def fireTr34Import (i : FireIn) : FireOut :=
  if !(Config.tr34SignatureOk i.keyC.material (dataOf i)) then fireErr St.SIGNATURE_INVALID
  else match Config.tr34Open i.keyA.material (dataOf i) with
    | none => fireErr St.KEY_BLOCK_INVALID
    | some (attr, mat) =>
      let new := importAttr (template i) attr
      if (usageAlgs (attrUsage attr)).isEmpty then fireErr St.KEY_BLOCK_INVALID
      else if !(importTemplateOk (template i) attr) || !((usageAlgs (attrUsage new)).contains (attrAlg new)) ||
          (attrMode new = Md.N && !(polUnrestricted i.pol)) then fireErr St.KEY_USAGE
      else importedKey i new (mat.take 32)

/-- 0x0730 (R239). -/
def fireBlockExport (i : FireIn) : FireOut :=
  fireOk ((Config.keyBlockSeal (selA i) i.keyB.material i.keyA.attr i.keyA.material i.rand).take 512)

/-- 0x0731 (R242). -/
def fireTr34Build (i : FireIn) : FireOut :=
  fireOk ((Config.tr34Build i.keyB.material i.keyC.material i.rtcSeconds i.keyA.attr i.keyA.material i.rand).take 4096)

/-- 0x0740 (R242). -/
def fireTranslate (i : FireIn) : FireOut :=
  match Config.keyBlockHeader (dataOf i) with
  | none => fireErr St.KEY_BLOCK_INVALID
  | some h =>
    match Config.keyBlockOpen h.version i.keyB.material (dataOf i) with
    | none => fireErr St.KEY_BLOCK_INVALID
    | some mat =>
      if attrAlg h.attr = Alg.TDES && tdesKeyWeak mat then fireErr St.KEY_WEAK
      else fireOk ((Config.keyBlockSeal (selA i) i.keyA.material h.attr mat i.rand).take 512)

/-- 0x0750: 3 bytes for TDES, 5 for AES: the leftmost bytes of the value R227 takes the KCV from. (DEDUCED, log 24) -/
def fireKcv (i : FireIn) : FireOut :=
  if attrAlg i.keyA.attr = Alg.TDES then fireOk ((tdesE i.keyA.material (zeros 8)).take 3)
  else fireOk ((padTo 16 (Config.cmac false i.keyA.material (zeros 16))).take 5)

/-- The codes of R235. -/
def fireKeyMgmt (i : FireIn) : Option FireOut :=
  match i.code with
  | 0x0701 => some (fireKeyGenerate i)
  | 0x0710 => some (fireRewrap i)
  | 0x0720 => some (fireBlockImport i)
  | 0x0721 => some (fireLegacyImport i)
  | 0x0722 => some (fireTr34Import i)
  | 0x0730 => some (fireBlockExport i)
  | 0x0731 => some (fireTr34Build i)
  | 0x0740 => some (fireTranslate i)
  | 0x0750 => some (fireKcv i)
  | _ => none

end Sys2Proof.Machine
end

