-- ==== Sys2Proof/Machine/Wheel.lean ====
section
/-! DEFINITION. The wheels' operations: the firings of groups 0x08 and 0x0A and their degenerate operands (R273 to R287). -/

namespace Sys2Proof.Machine

/-! ## Arithmetic -/

/-- The product of the powers that the low `fuel` bits of `e` name: square and multiply, modulo `m`. -/
def modPowAux (m : Nat) : Nat → Nat → Nat → Nat → Nat
  | 0, _, _, acc => acc
  | fuel + 1, b, e, acc => modPowAux m fuel (b * b % m) (e / 2) (if e % 2 = 1 then acc * b % m else acc)

/-- `b ^ e mod m` for an exponent of at most `bits` bits (R280). -/
def modPow (bits b e m : Nat) : Nat := modPowAux m bits (b % m) e (1 % m)

/-- The field prime of a curve size (FIPS 186-5, RFC 7748; PRESUMED, log 17). -/
def fieldPrime (size : Nat) : Nat :=
  if size = 256 then 2 ^ 256 - 2 ^ 224 + 2 ^ 192 + 2 ^ 96 - 1
  else if size = 384 then 2 ^ 384 - 2 ^ 128 - 2 ^ 96 + 2 ^ 32 - 1
  else if size = 521 then 2 ^ 521 - 1
  else if size = 255 then 2 ^ 255 - 19
  else 2 ^ 448 - 2 ^ 224 - 1

/-- The group order of a curve size (PRESUMED, log 17). -/
def groupOrder (size : Nat) : Nat :=
  if size = 256 then 0xffffffff00000000ffffffffffffffffbce6faada7179e84f3b9cac2fc632551
  else if size = 384 then
    0xffffffffffffffffffffffffffffffffffffffffffffffffc7634d81f4372ddf581a0db248b0a77aecec196accc52973
  else if size = 521 then
    0x1fffffffffffffffffffffffffffffffffffffffffffffffffffffffffffffffffa51868783bf2f966b7fcc0148f709a5d03bb5c9b8899c47aebb6fb71e91386409
  else if size = 255 then 2 ^ 252 + 27742317777372353535851937790883648493
  else 2 ^ 446 - 13818066809895115352007386748515426880336692474882178609894547503885

/-! ## Encodings (R274) -/

/-- Bytes of a field element: 32, 48 or 66; 32, 56 in Montgomery form. -/
def fieldLen (size : Nat) : Nat :=
  if size = 256 then 32 else if size = 384 then 48 else if size = 521 then 66 else if size = 255 then 32 else 56

/-- Private material length of an ATTR (R274); for symmetric keys SIZE ÷ 8. -/
def matLenOf (a : Nat) : Nat :=
  let s := attrSize a
  let alg := attrAlg a
  if alg ≤ Alg.HMAC then s / 8
  else if !(attrPrivate a) then
    (if alg = Alg.RSA then s / 8 + 4 else if alg = Alg.NIST then 2 * fieldLen s + 1
     else if alg = Alg.EDW then (if s = 255 then 32 else if attrUsage a = Us.K3 then 56 else 57)
     else if alg = Alg.MLKEM then (if s = 512 then 800 else if s = 768 then 1184 else 1568)
     else (if s = 44 then 1312 else if s = 65 then 1952 else 2592))
  else if alg = Alg.RSA then s / 8 + 4 + 5 * (s / 8) / 2
  else if alg = Alg.NIST then 3 * fieldLen s + 1
  else if alg = Alg.EDW then (if s = 255 then 64 else if attrUsage a = Us.K3 then 112 else 114)
  else if alg = Alg.MLKEM then (if s = 512 then 1632 else if s = 768 then 2400 else 3168)
  else (if s = 44 then 2560 else if s = 65 then 4032 else 4896)

/-- Public key length of an ATTR, whatever its PRIVATE (R274). -/
def pubLenOf (a : Nat) : Nat := matLenOf (a - b2n (attrPrivate a) * 2 ^ 44)

/-- Signature length by ALG and SIZE (R274). -/
def sigLen (alg size : Nat) : Nat :=
  if alg = Alg.RSA then size / 8 else if alg = Alg.NIST then 2 * fieldLen size
  else if alg = Alg.EDW then (if size = 255 then 64 else 114)
  else if size = 44 then 2420 else if size = 65 then 3309 else 4627

/-- Ciphertext length of ML-KEM (R274). -/
def kemCtLen (size : Nat) : Nat := if size = 512 then 768 else if size = 768 then 1088 else 1568

/-- The hash length of SEL_A: 1 SHA-256, 2 SHA-384, 3 SHA-512 (R277). -/
def hashLen (sel : Nat) : Nat := if sel = 1 then 32 else if sel = 2 then 48 else 64

def keySize (i : FireIn) : Nat := attrSize i.keyA.attr
def algOf (i : FireIn) : Nat := attrAlg i.keyA.attr
def prehashed (i : FireIn) : Bool := bitAt (selC i) 0

/-- The modulus and exponents of RSA material: n ‖ e, then p ‖ q ‖ dP ‖ dQ ‖ qInv when private (R274). -/
def rsaN (k : Nat) (m : Bytes) : Nat := beAt m 0 k
def rsaE (k : Nat) (m : Bytes) : Nat := beAt m k 4
def rsaPart (k j : Nat) (m : Bytes) : Nat := beAt m (k + 4 + j * (k / 2)) (k / 2)

/-- One step of Euclid's algorithm per unit of fuel; the coefficient of the second number when the remainder is 0. -/
def euclid : Nat → Int → Int → Int → Int → Int
  | 0, _, _, t, _ => t
  | fuel + 1, r, r', t, t' => if r' = 0 then t else euclid fuel r' (r % r') t' (t - r / r' * t')

/-- The inverse of `a` modulo `m`, for numbers of at most `bits` bits. -/
def modInv (bits a m : Nat) : Nat := (euclid (2 * bits + 4) m (a % m) 0 1 % m).toNat

/-- Random bytes of an RSA private operation: r1 and r2 of 8 bytes, r of k + 8 (R285). (DESIGN CHOICE, log 15) -/
def rsaBlindLen (k : Nat) : Nat := 24 + k

/-- The RSA private operation by CRT with exponent and base blinding (R282, R285), and the check of R286: the public exponentiation of
the result gives the blinded input; none where it does not. (DESIGN CHOICE, log 15) -/
def rsaPrivate (k : Nat) (m : Bytes) (c : Nat) (rand : Bytes) : Option Nat :=
  let n := rsaN k m
  let e := rsaE k m
  let p := rsaPart k 0 m
  let q := rsaPart k 1 m
  let r1 := beAt rand 0 8
  let r2 := beAt rand 8 8
  let r := 2 + beAt rand 16 (k + 8) % (n - 3)
  let c' := c * modPow 32 r e n % n
  let m1 := modPow (4 * k + 65) c' (rsaPart k 2 m + r1 * (p - 1)) p
  let m2 := modPow (4 * k + 65) c' (rsaPart k 3 m + r2 * (q - 1)) q
  let x := m2 + q * ((rsaPart k 4 m * (m1 + p - m2 % p)) % p)
  if modPow 32 x e n = c' then some (x * modInv (8 * k) r n % n) else none

/-! ## RSA (R277, R286, R287) -/

def fireRsaSign (i : FireIn) : FireOut :=
  let k := keySize i / 8
  let em := beNat (padTo k (Config.rsaSignEncode (selB i) (selA i) (prehashed i) k (dataOf i) (i.rand.drop (rsaBlindLen k))))
  match rsaPrivate k i.keyA.material em i.rand with
  | none => fireFault
  | some x => fireOk (beBytes x k)

def fireRsaVerify (i : FireIn) : FireOut :=
  let k := keySize i / 8
  let d := dataOf i
  let n := rsaN k i.keyA.material
  let s := beAt d 0 k
  if s = 0 then fireErr St.OPERAND_ZERO
  else if s = n then fireErr St.OPERAND_EQ_MODULUS
  else if s > n then fireErr St.OPERAND_GT_MODULUS
  else if Config.rsaVerifyEncode (selB i) (selA i) (prehashed i) k (d.drop k)
      (beBytes (modPow 32 s (rsaE k i.keyA.material) n) k) then fireOk []
  else fireErr St.SIGNATURE_INVALID

def fireOaepEncrypt (i : FireIn) : FireOut :=
  let k := keySize i / 8
  let d := dataOf i
  let em := beNat (padTo k (Config.oaepEncode (selA i) (d.take (auxLen i)) k (d.drop (auxLen i)) i.rand))
  fireOk (beBytes (modPow 32 em (rsaE k i.keyA.material) (rsaN k i.keyA.material)) k)

def fireOaepDecrypt (i : FireIn) : FireOut :=
  let k := keySize i / 8
  let d := dataOf i
  let n := rsaN k i.keyA.material
  let c := beAt d (auxLen i) k
  if c = 0 then fireErr St.OPERAND_ZERO
  else if c = n then fireErr St.OPERAND_EQ_MODULUS
  else if c > n then fireErr St.OPERAND_GT_MODULUS
  else match rsaPrivate k i.keyA.material c i.rand with
    | none => fireFault
    | some x => match Config.oaepDecode (selA i) (d.take (auxLen i)) k (beBytes x k) with
      | none => fireErr St.ENCODING_INVALID
      | some m => fireOk (m.take (k - 2 * hashLen (selA i) - 2))

/-- 0x0802 (R287). -/
def fireRsaImport (i : FireIn) : FireOut :=
  let k := attrSize (template i) / 8
  let d := dataOf i
  let n := rsaN k d
  let e := rsaE k d
  if n % 2 = 0 ∨ !(n.testBit (8 * k - 1)) then fireErr St.MODULUS_INVALID
  else if e % 2 = 0 ∨ e < 3 ∨ n ≤ e then fireErr St.ENCODING_INVALID
  else fireOk (newBlob i (parLe i 40 4) (template i) d)

/-- 0x0830 (R280, R287). -/
def fireModExp (i : FireIn) : FireOut :=
  let k := selDdata i / 8
  let d := dataOf i
  let m := beAt d 0 k
  let b := beAt d k k
  let e := beAt d (2 * k) (auxLen i)
  if m % 2 = 0 ∨ !(m.testBit (selDdata i - 1)) then fireErr St.MODULUS_INVALID
  else if e = 0 then fireErr St.OPERAND_ZERO
  else if b = m then fireErr St.OPERAND_EQ_MODULUS
  else if b > m then fireErr St.OPERAND_GT_MODULUS
  else fireOk (beBytes (modPow (8 * auxLen i) b e m) k)

/-! ## Key pairs and imports (R278) -/

/-- A private key's blob under NEW_HANDLE, then its public key encoding. -/
def pairOut (i : FireIn) (private_ public_ : Bytes) : FireOut :=
  let t := template i
  fireOk (newBlob i (parLe i 40 4) t (padTo (matLenOf t) private_) ++ padTo (pubLenOf t) public_)

/-- RSA material of two primes with e = 65,537 (R274, R278). -/
def rsaMaterial (k p q : Nat) : Bytes :=
  let h := k / 2
  let e := 65537
  beBytes (p * q) k ++ beBytes e 4 ++ beBytes p h ++ beBytes q h ++ beBytes (modInv (4 * k) e (p - 1)) h ++
    beBytes (modInv (4 * k) e (q - 1)) h ++ beBytes (modInv (4 * k) q p) h

/-- 0x0801: one candidate round; the pair once two primes have been found (R281). -/
def fireRsaPair (i : FireIn) : FireOut :=
  let k := attrSize (template i) / 8
  match Config.primeRound (4 * k) (i.rand.drop 20), i.primes with
  | some q, [p] => if q = p then fireAgain none
      else pairOut i (rsaMaterial k p q) (beBytes (p * q) k ++ beBytes 65537 4)
  | found, _ => fireAgain found

/-- A scalar below the order from random bytes 64 bits longer, by the extra random bits of FIPS 186-5 (R285); never 0. (PRESUMED, log 17) -/
def scalarOf (size : Nat) (rand : Bytes) : Nat := beNat rand % (groupOrder size - 1) + 1

/-- 0x0820 (R278): the public point of a curve operation with a secret scalar is checked (R286); a Montgomery-form u is on the curve or
its twist for every u. (DESIGN CHOICE, log 139) -/
def fireCurvePair (i : FireIn) : FireOut :=
  let t := template i
  let size := attrSize t
  let f := fieldLen size
  if attrAlg t = Alg.NIST then
    let d := scalarOf size (slice i.rand 20 (f + 8))
    match Config.curvePoint size d [] with
    | none => fireFault
    | some q => if Config.onCurve size q then pairOut i (beBytes d f ++ padTo (2 * f + 1) q) q else fireFault
  else
    let kp := Config.keyPair t (i.rand.drop 20)
    if attrUsage t = Us.K3 || Config.edwardsDecodes size (padTo (pubLenOf t) kp.2) then pairOut i kp.1 kp.2 else fireFault

/-- 0x0A01 and 0x0A10. -/
def fireLatticePair (i : FireIn) : FireOut :=
  let kp := Config.keyPair (template i) (i.rand.drop 20)
  pairOut i kp.1 kp.2

/-- The rows of R287 for a NIST point given from outside. -/
def nistPointCheck (size : Nat) (pt : Bytes) : Option Nat :=
  let f := fieldLen size
  let p := fieldPrime size
  let x := beAt pt 1 f
  let y := beAt pt (1 + f) f
  let b0 := byteAt pt 0
  if pt.length = 1 then (if b0 = 0 then some St.POINT_AT_INFINITY else some St.ENCODING_INVALID)
  else if pt.length = 2 * f + 1 then
    (if b0 ≠ 4 then some St.ENCODING_INVALID
     else if x = p ∨ y = p then some St.OPERAND_EQ_MODULUS
     else if x > p ∨ y > p then some St.OPERAND_GT_MODULUS
     else if Config.onCurve size pt then none else some St.POINT_NOT_ON_CURVE)
  else
    (if b0 ≠ 2 ∧ b0 ≠ 3 then some St.ENCODING_INVALID
     else if x = p then some St.OPERAND_EQ_MODULUS
     else if x > p then some St.OPERAND_GT_MODULUS
     else if Config.onCurve size pt then none else some St.POINT_NOT_ON_CURVE)

/-- 0x0821 (R278, R287). -/
def fireCurveImport (i : FireIn) : FireOut :=
  let t := template i
  let size := attrSize t
  let d := dataOf i
  if attrAlg t = Alg.NIST then
    match nistPointCheck size d with
    | some st => fireErr st
    | none =>
      let pt := if d.length = 2 * fieldLen size + 1 then d else padTo (2 * fieldLen size + 1) (Config.decompress size d)
      fireOk (newBlob i (parLe i 40 4) t pt)
  else if selA i = 1 then fireOk (newBlob i (parLe i 40 4) t d)
  else if !(Config.edwardsDecodes size d) then fireErr St.ENCODING_INVALID
  else if Config.edwardsSmallOrder size d then fireErr St.POINT_AT_INFINITY
  else fireOk (newBlob i (parLe i 40 4) t d)

/-- 0x0A02 and 0x0A11 (R287). -/
def fireLatticeImport (i : FireIn) : FireOut :=
  let t := template i
  if attrAlg t = Alg.MLKEM && !(Config.mlkemKeyOk (attrSize t) (dataOf i)) then fireErr St.ENCODING_INVALID
  else fireOk (newBlob i (parLe i 40 4) t (dataOf i))

/-! ## Curve signatures and agreement (R277, R279, R287) -/

/-- The message representative of ECDSA: the leftmost bits of the hash, as many as the order has (R277; PRESUMED, log 17). -/
def ecdsaDigest (i : FireIn) (size : Nat) (msg : Bytes) : Nat :=
  let h := if prehashed i then msg
    else if selA i = 1 then Config.sha256 msg else if selA i = 2 then Config.sha384 msg else Config.sha512 msg
  beNat (padTo (hashLen (selA i)) h) / 2 ^ (8 * hashLen (selA i) - min size (8 * hashLen (selA i)))

def fireEcdsaSign (i : FireIn) : FireOut :=
  let size := keySize i
  let f := fieldLen size
  let n := groupOrder size
  let d := beAt i.keyA.material 0 f
  let k := scalarOf size (slice i.rand 0 (f + 8))
  match Config.curvePoint size k [] with
  | none => fireFault
  | some pt =>
    if !(Config.onCurve size pt) then fireFault
    else
      let r := beAt pt 1 f % n
      let s := modInv (8 * f) k n * (ecdsaDigest i size (dataOf i) + r * d) % n
      if r = 0 ∨ s = 0 then fireErr St.OPERAND_ZERO else fireOk (beBytes r f ++ beBytes s f)

def fireEcdsaVerify (i : FireIn) : FireOut :=
  let size := keySize i
  let f := fieldLen size
  let n := groupOrder size
  let d := dataOf i
  let r := beAt d 0 f
  let s := beAt d f f
  if r = 0 ∨ s = 0 then fireErr St.OPERAND_ZERO
  else if r = n ∨ s = n then fireErr St.OPERAND_EQ_MODULUS
  else if r > n ∨ s > n then fireErr St.OPERAND_GT_MODULUS
  else
    let w := modInv (8 * f) s n
    match Config.curveSum size (ecdsaDigest i size (d.drop (2 * f)) * w % n) (r * w % n) i.keyA.material with
    | none => fireErr St.POINT_AT_INFINITY
    | some pt => if beAt pt 1 f % n = r then fireOk [] else fireErr St.SIGNATURE_INVALID

/-- The signature's point R is the result of a scalar multiplication, and is checked (R286). -/
def fireEddsaSign (i : FireIn) : FireOut :=
  let d := dataOf i
  let n := sigLen Alg.EDW (keySize i)
  let sig := padTo n (Config.eddsaSign (keySize i) i.keyA.material (d.take (auxLen i)) (d.drop (auxLen i)))
  if Config.edwardsDecodes (keySize i) (sig.take (n / 2)) then fireOk sig else fireFault

def fireEddsaVerify (i : FireIn) : FireOut :=
  let size := keySize i
  let d := dataOf i
  let n := sigLen Alg.EDW size
  let s := leAt d (n / 2) (n / 2)
  let rest := d.drop n
  if !(Config.edwardsDecodes size (d.take (n / 2))) then fireErr St.ENCODING_INVALID
  else if s = groupOrder size then fireErr St.OPERAND_EQ_MODULUS
  else if s > groupOrder size then fireErr St.OPERAND_GT_MODULUS
  else if Config.eddsaHolds size i.keyA.material (rest.take (auxLen i)) (rest.drop (auxLen i)) (d.take n) then fireOk []
  else fireErr St.SIGNATURE_INVALID

/-- The length of the peer key in 0x0826's data region, read off a NIST encoding's prefix; fixed for ALG 0x6 (R279). A prefix that
names no form stands for a single byte. (DESIGN CHOICE, log 139) -/
def peerLen (i : FireIn) : Nat :=
  let size := selDdata i
  if size = 255 ∨ size = 448 then fieldLen size
  else
    let b0 := byteAt (dataOf i) 0
    if b0 = 4 then 2 * fieldLen size + 1 else if b0 = 2 ∨ b0 = 3 then fieldLen size + 1 else 1

/-- R279, R287: the peer key is whole, and FixedInfo has at most 256 bytes. -/
def peerFits (i : FireIn) : Bool := decide (peerLen i ≤ dataLen i ∧ dataLen i ≤ peerLen i + 256)

/-- 0x0826's key from a shared secret. -/
def agreedKey (i : FireIn) (z : Bytes) : FireOut :=
  let t := template i
  fireOk (newBlob i (parLe i 40 4) t
    (padTo (attrSize t / 8) (Config.oneStepKdf (selA i) z ((dataOf i).drop (peerLen i)) (attrSize t / 8))))

/-- 0x0826 (R279, R286, R287). -/
def fireKeyAgreement (i : FireIn) : FireOut :=
  let size := keySize i
  let f := fieldLen size
  let peer := (dataOf i).take (peerLen i)
  if algOf i = Alg.NIST then
    match nistPointCheck size peer with
    | some st => fireErr st
    | none =>
      let pt := if peer.length = 2 * f + 1 then peer else Config.decompress size peer
      match Config.curvePoint size (beAt i.keyA.material 0 f) pt with
      | none => fireErr St.POINT_AT_INFINITY
      | some z => if Config.onCurve size z then agreedKey i (slice z 1 f) else fireFault
  else
    let z := padTo f (Config.sharedSecret size i.keyA.material peer)
    if z.all (· = 0) then fireErr St.OPERAND_ZERO else agreedKey i z

/-! ## Lattices (R277, R279, R287) -/

def fireEncaps (i : FireIn) : FireOut :=
  let r := Config.mlkemEncaps (keySize i) i.keyA.material (i.rand.drop 20)
  fireOk (newBlob i (parLe i 40 4) (template i) (padTo 32 r.1) ++ padTo (kemCtLen (keySize i)) r.2)

def fireDecaps (i : FireIn) : FireOut :=
  fireOk (newBlob i (parLe i 40 4) (template i) (padTo 32 (Config.mlkemDecaps (keySize i) i.keyA.material (dataOf i))))

/-- One attempt; a rejected one gives no signature yet (R281). -/
def fireMldsaSign (i : FireIn) : FireOut :=
  let d := dataOf i
  match Config.mldsaSign (keySize i) i.keyA.material (d.take (auxLen i)) (d.drop (auxLen i)) (i.rand.take 32) with
  | none => fireAgain none
  | some sig => fireOk (padTo (sigLen Alg.MLDSA (keySize i)) sig)

def fireMldsaVerify (i : FireIn) : FireOut :=
  let n := sigLen Alg.MLDSA (keySize i)
  let d := dataOf i
  let rest := d.drop n
  if !(Config.mldsaHintOk (keySize i) (d.take n)) then fireErr St.ENCODING_INVALID
  else if Config.mldsaHolds (keySize i) i.keyA.material (rest.take (auxLen i)) (rest.drop (auxLen i)) (d.take n) then fireOk []
  else fireErr St.SIGNATURE_INVALID

/-- The codes of R275. -/
def fireWheel (i : FireIn) : Option FireOut :=
  match i.code with
  | 0x0801 => some (fireRsaPair i)
  | 0x0802 => some (fireRsaImport i)
  | 0x0810 => some (fireRsaSign i)
  | 0x0811 => some (fireRsaVerify i)
  | 0x0812 => some (fireOaepEncrypt i)
  | 0x0813 => some (fireOaepDecrypt i)
  | 0x0820 => some (fireCurvePair i)
  | 0x0821 => some (fireCurveImport i)
  | 0x0822 => some (fireEcdsaSign i)
  | 0x0823 => some (fireEcdsaVerify i)
  | 0x0824 => some (fireEddsaSign i)
  | 0x0825 => some (fireEddsaVerify i)
  | 0x0826 => some (fireKeyAgreement i)
  | 0x0830 => some (fireModExp i)
  | 0x0A01 => some (fireLatticePair i)
  | 0x0A02 => some (fireLatticeImport i)
  | 0x0A03 => some (fireEncaps i)
  | 0x0A04 => some (fireDecaps i)
  | 0x0A10 => some (fireLatticePair i)
  | 0x0A11 => some (fireLatticeImport i)
  | 0x0A12 => some (fireMldsaSign i)
  | 0x0A13 => some (fireMldsaVerify i)
  | _ => none

/-- What a firing code computes inside its fixed shape; none for a code no catalogue lists. -/
def fireCode (i : FireIn) : Option FireOut :=
  match firePayment i with
  | some o => some o
  | none => match fireKeyMgmt i with
    | some o => some o
    | none => fireWheel i

end Sys2Proof.Machine
end

