-- ==== Sys2Proof/Machine/Catalogue.lean ====
section
/-! DEFINITION. The directory of the present glaze level: for each firing code its keys, size class, result, graph use
(R155, R163, R193, R235, R275), and the checks of step 1 and step 5 of R161 that need no key. -/

namespace Sys2Proof.Machine

/-- The PARAMS layouts (R156, R232, R273). -/
inductive Layout where
  | key | data | mgmt | pub
  deriving DecidableEq, Repr

/-- One line of a catalogue. -/
structure DirEntry where
  layout : Layout
  /-- requirements on KEY_REF, KEY2 (or SLOT) and AUX_KEY; `none` where the field must be zero -/
  reqA : Option KeyReq := none
  reqB : Option KeyReq := none
  reqC : Option KeyReq := none
  single : Bool := true
  step : Bool := true
  /-- changes persistent state (R164, R235) -/
  state : Bool := false
  /-- claims a wheel and an operand page (R267) -/
  wheel : Bool := false
  /-- produces a key for a graph cell (R200) -/
  keyCell : Bool := false
  deriving DecidableEq, Repr

/-- The directory: the entry of a firing code, none for a code no catalogue lists (R155); the same at every glaze level. (DESIGN CHOICE,
DESIGN CHOICE, log 129) -/
def dirEntry : Nat → Option DirEntry
  | 0x0101 => some { layout := .key, reqA := some { usages := [Us.P0], modes := [Md.D, Md.B], algs := [] }, reqB := some { usages := [Us.V1], modes := [Md.G, Md.C], algs := [] } }
  | 0x0102 => some { layout := .key, reqA := some { usages := [Us.P0], modes := [Md.D, Md.B], algs := [] }, reqB := some { usages := [Us.V2], modes := [Md.G, Md.C], algs := [Alg.TDES] } }
  | 0x0103 => some { layout := .key, reqA := some { usages := [Us.P0], modes := [Md.D, Md.B], algs := [] }, reqB := some { usages := [Us.P0], modes := [Md.E, Md.B], algs := [] } }
  | 0x0104 => some { layout := .key, reqA := some { usages := [Us.P0], modes := [Md.D, Md.B], algs := [] }, reqB := some { usages := [Us.V1], modes := [Md.V, Md.C], algs := [] } }
  | 0x0105 => some { layout := .key, reqA := some { usages := [Us.P0], modes := [Md.D, Md.B], algs := [] }, reqB := some { usages := [Us.V2], modes := [Md.V, Md.C], algs := [Alg.TDES] } }
  | 0x0106 => some { layout := .key, reqA := some { usages := [Us.P0], modes := [Md.D, Md.B], algs := [] }, reqB := some { usages := [Us.P0], modes := [Md.D, Md.B], algs := [] } }
  | 0x0107 => some { layout := .key, reqA := some { usages := [Us.P0], modes := [Md.E, Md.B], algs := [] }, step := false }
  | 0x0201 => some { layout := .key, reqA := some { usages := [Us.C0], modes := [Md.G, Md.C], algs := [Alg.TDES] } }
  | 0x0202 => some { layout := .key, reqA := some { usages := [Us.C0], modes := [Md.V, Md.C], algs := [Alg.TDES] } }
  | 0x0301 => some { layout := .key, reqA := some { usages := [Us.E0], modes := [Md.X], algs := [] }, keyCell := true }
  | 0x0302 => some { layout := .key, reqA := some { usages := [Us.E0], modes := [Md.X], algs := [] } }
  | 0x0304 => some { layout := .key, reqA := some { usages := [Us.E2], modes := [Md.X], algs := [] } }
  | 0x0305 => some { layout := .key, reqA := some { usages := [Us.E1], modes := [Md.X], algs := [] }, reqB := some { usages := [Us.P0], modes := [Md.D, Md.B], algs := [] } }
  | 0x0401 => some { layout := .key, reqA := some { usages := [Us.B0], modes := [Md.X], algs := [Alg.AES] }, single := false, keyCell := true }
  | 0x0402 => some { layout := .key, reqA := some { usages := [Us.B0], modes := [Md.X], algs := [Alg.AES] }, reqB := some { usages := [Us.P0], modes := [Md.E, Md.B], algs := [] } }
  | 0x0410 => some { layout := .key, reqA := some { usages := [Us.B1], modes := [Md.X], algs := [Alg.AES] }, reqB := some { usages := [Us.P0], modes := [Md.D, Md.B], algs := [] }, state := true }
  | 0x0421 => some { layout := .key, reqA := some { usages := [Us.B0], modes := [Md.X], algs := [Alg.TDES] }, single := false, keyCell := true }
  | 0x0422 => some { layout := .key, reqA := some { usages := [Us.B0], modes := [Md.X], algs := [Alg.TDES] }, reqB := some { usages := [Us.P0], modes := [Md.E, Md.B], algs := [] } }
  | 0x0501 => some { layout := .data, reqA := some { usages := [Us.M1, Us.M3, Us.M6, Us.M7], modes := [Md.G, Md.C], algs := [] } }
  | 0x0502 => some { layout := .data, reqA := some { usages := [Us.M1, Us.M3, Us.M6, Us.M7], modes := [Md.V, Md.C], algs := [] } }
  | 0x0601 => some { layout := .data, reqA := some { usages := [Us.D0], modes := [Md.E, Md.B], algs := [] } }
  | 0x0602 => some { layout := .data, reqA := some { usages := [Us.D0], modes := [Md.D, Md.B], algs := [] } }
  | 0x0611 => some { layout := .key, reqA := some { usages := [Us.D0], modes := [Md.E, Md.B], algs := [Alg.AES], tokenise := true } }
  | 0x0612 => some { layout := .key, reqA := some { usages := [Us.D0], modes := [Md.D, Md.B], algs := [Alg.AES], tokenise := true } }
  | 0x0613 => some { layout := .data, reqA := some { usages := [Us.D0], modes := [Md.E, Md.B], algs := [Alg.AES], tokenise := true } }
  | 0x0614 => some { layout := .data, reqA := some { usages := [Us.D0], modes := [Md.D, Md.B], algs := [Alg.AES], tokenise := true } }
  | 0x0901 => some { layout := .data }
  | 0x0902 => some { layout := .data }
  | 0x0903 => some { layout := .data }
  | 0x0904 => some { layout := .data }
  | 0x0905 => some { layout := .data }
  | 0x0910 => some { layout := .data }
  | 0x0F01 => some { layout := .key, step := false }
  | 0x0F02 => some { layout := .key, step := false }
  | 0x0F03 => some { layout := .key, step := false }
  | 0x0701 => some { layout := .mgmt, reqB := some { usages := [Us.K1], modes := [Md.E, Md.B], algs := [] }, step := false }
  | 0x0710 => some { layout := .mgmt, reqA := some { usages := [], modes := [], algs := [] }, step := false }
  | 0x0720 => some { layout := .mgmt, reqB := some { usages := [Us.K1], modes := [Md.D, Md.B], algs := [] }, step := false }
  | 0x0721 => some { layout := .mgmt, reqB := some { usages := [Us.K0], modes := [Md.D, Md.B], algs := [Alg.TDES] }, step := false }
  | 0x0722 => some { layout := .mgmt, reqA := some { usages := [Us.K2], modes := [Md.D, Md.N], algs := [Alg.RSA], priv := some true }, reqC := some { usages := [Us.S0], modes := [Md.V], algs := [Alg.RSA], priv := some false }, step := false, state := true }
  | 0x0730 => some { layout := .mgmt, reqA := some { usages := [], modes := [], algs := [Alg.AES, Alg.TDES, Alg.HMAC] }, reqB := some { usages := [Us.K1], modes := [Md.E, Md.B], algs := [] }, step := false }
  | 0x0731 => some { layout := .mgmt, reqA := some { usages := [], modes := [], algs := [Alg.AES, Alg.TDES, Alg.HMAC] }, reqB := some { usages := [Us.S0], modes := [Md.S], algs := [Alg.RSA], priv := some true }, reqC := some { usages := [Us.K2], modes := [Md.E], algs := [Alg.RSA], priv := some false }, step := false }
  | 0x0740 => some { layout := .mgmt, reqA := some { usages := [Us.K1], modes := [Md.E, Md.B], algs := [] }, reqB := some { usages := [Us.K1], modes := [Md.D, Md.B], algs := [] }, step := false }
  | 0x0750 => some { layout := .mgmt, reqA := some { usages := [], modes := [], algs := [Alg.AES, Alg.TDES] } }
  | 0x0801 => some { layout := .pub, step := false, wheel := true }
  | 0x0802 => some { layout := .pub, step := false }
  | 0x0810 => some { layout := .pub, reqA := some { usages := [Us.S0], modes := [Md.S], algs := [Alg.RSA], priv := some true }, wheel := true }
  | 0x0811 => some { layout := .pub, reqA := some { usages := [Us.S0], modes := [Md.V], algs := [Alg.RSA], priv := some false }, wheel := true }
  | 0x0812 => some { layout := .pub, reqA := some { usages := [Us.D1], modes := [Md.E, Md.B], algs := [Alg.RSA], priv := some false }, wheel := true }
  | 0x0813 => some { layout := .pub, reqA := some { usages := [Us.D1], modes := [Md.D, Md.B], algs := [Alg.RSA], priv := some true }, step := false, wheel := true }
  | 0x0820 => some { layout := .pub, step := false, wheel := true }
  | 0x0821 => some { layout := .pub, step := false, wheel := true }
  | 0x0822 => some { layout := .pub, reqA := some { usages := [Us.S0], modes := [Md.S], algs := [Alg.NIST], priv := some true }, wheel := true }
  | 0x0823 => some { layout := .pub, reqA := some { usages := [Us.S0], modes := [Md.V], algs := [Alg.NIST], priv := some false }, wheel := true }
  | 0x0824 => some { layout := .pub, reqA := some { usages := [Us.S0], modes := [Md.S], algs := [Alg.EDW], priv := some true }, wheel := true }
  | 0x0825 => some { layout := .pub, reqA := some { usages := [Us.S0], modes := [Md.V], algs := [Alg.EDW], priv := some false }, wheel := true }
  | 0x0826 => some { layout := .pub, reqA := some { usages := [Us.K3], modes := [Md.X], algs := [Alg.NIST, Alg.EDW], priv := some true }, step := false, wheel := true }
  | 0x0830 => some { layout := .pub, wheel := true }
  | 0x0A01 => some { layout := .pub, step := false, wheel := true }
  | 0x0A02 => some { layout := .pub, step := false }
  | 0x0A03 => some { layout := .pub, reqA := some { usages := [Us.K3], modes := [Md.E], algs := [Alg.MLKEM], priv := some false }, step := false, wheel := true }
  | 0x0A04 => some { layout := .pub, reqA := some { usages := [Us.K3], modes := [Md.D], algs := [Alg.MLKEM], priv := some true }, step := false, wheel := true }
  | 0x0A10 => some { layout := .pub, step := false, wheel := true }
  | 0x0A11 => some { layout := .pub, step := false }
  | 0x0A12 => some { layout := .pub, reqA := some { usages := [Us.S0], modes := [Md.S], algs := [Alg.MLDSA], priv := some true }, wheel := true }
  | 0x0A13 => some { layout := .pub, reqA := some { usages := [Us.S0], modes := [Md.V], algs := [Alg.MLDSA], priv := some false }, wheel := true }
  | _ => none

/-- The wheel claim of 0x0821 depends on its form: Montgomery-form imports take no wheel (R283). -/
def usesWheel (code : Nat) (params : Bytes) : Bool :=
  match dirEntry code with
  | none => false
  | some e => e.wheel && !(code = 0x0821 && byteAt params 4 = 1)

/-! ## Size classes (R160, R163, R193, R235, R282 to R284) -/

/-- R160: "by length". -/
def lengthClass (n : Nat) (tdes : Bool) : Option Nat :=
  if n ≤ 64 then some 2 else if n ≤ 384 then some (if tdes then 4 else 3)
  else if n ≤ 4096 then some (if tdes then 9 else 7) else if n ≤ 16384 then some (if tdes then 11 else 9)
  else if n ≤ 65536 then some (if tdes then 13 else 11) else none

/-- R282: the RSA public rows. -/
def rsaPublicClass (s : Nat) : Option Nat :=
  if s % 32 ≠ 0 ∨ s < 1024 ∨ 8192 < s then none
  else if s ≤ 2048 then some 10 else if s ≤ 3072 then some 11 else if s ≤ 4096 then some 12 else some 13

/-- R282: the RSA private and candidate rows. -/
def rsaPrivateClass (s : Nat) : Option Nat :=
  if s = 2048 then some 13 else if s = 3072 ∨ s = 4096 then some 14 else none

/-- R282: modular exponentiation; the first row that matches. (DESIGN CHOICE, log 26) -/
def modExpClass (s aux : Nat) : Option Nat :=
  if s ≤ 2048 ∧ aux ≤ 8 then some 10 else if s ≤ 4096 ∧ aux ≤ 8 then some 12
  else if s ≤ 8192 ∧ aux ≤ 8 then some 14 else if s ≤ 1024 then some 13 else if s ≤ 2048 then some 14 else none

/-- R283: sign, verify, agreement and pair generation, import columns, by SEL_D (curves); an import also by its SEL_A form
(R276): 0 a NIST curve, 1 Montgomery, 2 Edwards. -/
def curveClass (col s form : Nat) : Option Nat :=
  if col = 3 then
    (if form = 0 then (if s = 256 then some 9 else if s = 384 ∨ s = 521 then some 10 else none)
     else if form = 1 then (if s = 255 ∨ s = 448 then some 7 else none)
     else if form = 2 then (if s = 255 then some 9 else if s = 448 then some 10 else none) else none)
  else if s = 256 ∨ s = 255 then some 11
  else if s = 384 ∨ s = 448 then some 12
  else if s = 521 then some 13
  else none

/-- R284: pair generate, encapsulate or sign, decapsulate or verify, import columns. -/
def latticeClass (col s : Nat) : Option Nat :=
  if col = 3 then (if [512, 768, 1024, 44, 65, 87].contains s then some 7 else none)
  else if s = 512 then some (if col = 0 then 9 else 10)
  else if s = 768 then some (if col = 2 then 11 else 10)
  else if s = 1024 then some (if col = 2 then 12 else 11)
  else if s = 44 then some 10
  else if s = 65 then some 11
  else if s = 87 then some 12
  else none

/-- R284, last rule: classes up to 11 rise by one for a data region above 4,096 bytes. -/
def liftLong (len : Nat) (c : Option Nat) : Option Nat :=
  c.map fun z => if z ≤ 11 ∧ 4096 < len then z + 1 else z

/-- The size class of a code from its parameters; `none` where no row covers them (R160). -/
def sizeClass (code : Nat) (p : Bytes) : Option Nat :=
  let a := byteAt p 4
  let len := leAt p 16 4
  let b53 := byteAt p 13
  let d := leAt p 22 2
  let aux := leAt p 20 2
  let pub := liftLong len
  match code with
  | 0x0101 | 0x0102 | 0x0107 | 0x0611 | 0x0612 | 0x0721 => some 4
  | 0x0103 | 0x0104 | 0x0105 | 0x0106 | 0x0302 => some 3
  | 0x0201 | 0x0202 => some 2
  | 0x0301 | 0x0304 => some (if b53 > 48 then 6 else 4)
  | 0x0305 | 0x0401 | 0x0421 => some 5
  | 0x0402 | 0x0410 | 0x0422 | 0x0730 => some 6
  | 0x0501 | 0x0502 | 0x0601 | 0x0602 => lengthClass len (bitAt a 7)
  | 0x0613 | 0x0614 => some (if len > 32 then 9 else 5)
  | 0x0901 | 0x0902 | 0x0903 | 0x0904 | 0x0905 => lengthClass len false
  | 0x0910 => lengthClass len false
  | 0x0F01 => some 0
  | 0x0F02 => some 8
  | 0x0F03 => if a ≤ 14 then some a else none
  | 0x0701 => some (if bitAt a 0 then 6 else 3)
  | 0x0710 => some 9
  | 0x0720 => some (if len > 384 then 9 else 6)
  | 0x0722 | 0x0731 => some 14
  | 0x0740 => some 7
  | 0x0750 => some 1
  | 0x0801 => pub (rsaPrivateClass d)
  | 0x0802 => pub (if rsaPublicClass d = none then none else some 9)
  | 0x0810 | 0x0813 => pub (rsaPrivateClass d)
  | 0x0811 | 0x0812 => pub (rsaPublicClass d)
  | 0x0820 => pub (curveClass 2 d 0)
  | 0x0821 => pub (curveClass 3 d a)
  | 0x0822 => pub (if d = 255 ∨ d = 448 then none else curveClass 0 d 0)
  | 0x0823 => pub (if d = 255 ∨ d = 448 then none else curveClass 1 d 0)
  | 0x0824 => pub (if d = 255 ∨ d = 448 then curveClass 0 d 0 else none)
  | 0x0825 => pub (if d = 255 ∨ d = 448 then curveClass 1 d 0 else none)
  | 0x0826 => pub (curveClass 2 d 0)
  | 0x0830 => pub (modExpClass d aux)
  | 0x0A01 => pub (if 512 ≤ d then latticeClass 0 d else none)
  | 0x0A02 => pub (if 512 ≤ d then latticeClass 3 d else none)
  | 0x0A03 => pub (if 512 ≤ d then latticeClass 1 d else none)
  | 0x0A04 => pub (if 512 ≤ d then latticeClass 2 d else none)
  | 0x0A10 => pub (if d < 512 then latticeClass 0 d else none)
  | 0x0A11 => pub (if d < 512 then latticeClass 3 d else none)
  | 0x0A12 => pub (if d < 512 then latticeClass 1 d else none)
  | 0x0A13 => pub (if d < 512 then latticeClass 2 d else none)
  | _ => none

/-- The KCLK cycles of a size class (R135). (DESIGN CHOICE, log 117) -/
def shapeCycles (z : Nat) : Nat :=
  [480, 960, 1440, 1920, 2400, 3360, 4800, 7680, 15360, 30720, 61440, 122880, 245760, 737280, 3932160].getD z 0

/-- SET_COST_z: the count divided by 48, rounded up, saturated at 4,095; 4,095 for the unused class 15 (R135). (DESIGN CHOICE, log 117)
Every glaze level has these counts. (DESIGN CHOICE, log 129) -/
def shapeCost (z : Nat) : Nat := if z = 15 then 4095 else min 4095 (ceilDiv (shapeCycles z) 48)

/-! ## Results (R83, R540) -/

/-- The output length of data encryption (R190). (DEDUCED, log 19) -/
def encryptLen (p : Bytes) : Nat :=
  let m := byteAt p 4 % 128
  let tdes := bitAt (byteAt p 4) 7
  let blk := if tdes then 8 else 16
  let len := leAt p 16 4
  let body := if m = 3 then len - leAt p 20 2 + 16
    else if (m = 1 ∨ m = 4) ∧ (byteAt p 5 = 1 ∨ byteAt p 5 = 2) then (len / blk + 1) * blk else len
  body + (if bitAt (byteAt p 7) 0 then (if m = 3 then 12 else if m = 4 then 0 else blk) else 0)

/-- What the descriptor fixes of a result's size. -/
inductive ResultSize where
  /-- at most 16 bytes, returned inline (R83) -/
  | inline
  /-- written at RESULT_PTR; RESULT_LEN at least this at check 8 -/
  | buffer (least : Nat)
  /-- length depends on the data: RESULT_LEN non-zero (R83) -/
  | fromData
  deriving DecidableEq, Repr

def sized (n : Nat) : ResultSize := if n ≤ 16 then .inline else .buffer n

/-- The public key length by code and SEL_D (R274), for the pair generation and import codes. -/
def pubLenBySelD (code selA d : Nat) : Nat :=
  if code = 0x0801 ∨ code = 0x0802 then d / 8 + 4
  else if code = 0x0820 ∨ code = 0x0821 then
    (if d = 255 then 32 else if d = 448 then (if selA = 1 then 56 else 57) else 2 * fieldLen d + 1)
  else matLenOf ((if d < 512 then Alg.MLDSA else Alg.MLKEM) * 2 ^ 12 + d * 2 ^ 16)

/-- Result sizes by code (R163, R193, R235, R275, R539). (DEDUCED, log 19) -/
def resultSize (code : Nat) (p : Bytes) : ResultSize :=
  let d := leAt p 22 2
  match code with
  | 0x0410 => .buffer 28
  | 0x0601 => sized (encryptLen p)
  | 0x0602 | 0x0813 => .fromData
  | 0x0613 | 0x0614 => sized (leAt p 16 4)
  | 0x0910 => sized (min 4096 (leAt p 16 4))
  | 0x0901 | 0x0904 => .buffer 32
  | 0x0902 => .buffer 48
  | 0x0903 | 0x0905 => .buffer 64
  | 0x0701 => .buffer (72 + if bitAt (byteAt p 4) 0 then 512 else 0)
  | 0x0710 | 0x0720 | 0x0721 | 0x0722 => .buffer 72
  | 0x0730 | 0x0740 => .buffer 512
  | 0x0731 => .buffer 4096
  | 0x0801 | 0x0802 | 0x0820 | 0x0821 | 0x0826 | 0x0A01 | 0x0A02 | 0x0A03 | 0x0A04 | 0x0A10 | 0x0A11 => .buffer 72
  | 0x0810 | 0x0812 | 0x0830 => sized (d / 8)
  | 0x0822 => .buffer (2 * fieldLen d)
  | 0x0824 => .buffer (sigLen Alg.EDW d)
  | 0x0A12 => .buffer (sigLen Alg.MLDSA d)
  | _ => .inline

/-- The largest result of R539 that the kiln computes at step 1, from the public facts it holds; 0 where check 8 settles it. -/
def largestResult (i : FireIn) (matLen : Nat) : Nat :=
  let t := template i
  match i.code with
  | 0x0701 => 64 + attrSize t / 8 + (if bitAt (selA i) 0 then 512 else 0)
  | 0x0710 => 64 + matLen
  | 0x0720 => 64 + (match Config.keyBlockHeader (dataOf i) with
      | none => 8
      | some h => if attrAlg h.attr = Alg.TDES then 24 else if attrAlg h.attr = Alg.AES then 32 else 128)
  | 0x0721 => 64 + attrSize t / 8
  | 0x0722 => 64 + 32
  | 0x0801 | 0x0820 | 0x0A01 | 0x0A10 => 64 + matLenOf t + pubLenOf t
  | 0x0802 | 0x0821 | 0x0A02 | 0x0A11 => 64 + matLenOf t
  | 0x0826 | 0x0A04 => 64 + attrSize t / 8
  | 0x0A03 => 64 + attrSize t / 8 + kemCtLen (selDdata i)
  | _ => 0

/-! ## Random values reserved at step 8 of R161 -/

/-- Whether a code creates a key under NEW_HANDLE. -/
def createsKey (code : Nat) : Bool :=
  [0x0701, 0x0720, 0x0721, 0x0722, 0x0801, 0x0802, 0x0820, 0x0821, 0x0826,
   0x0A01, 0x0A02, 0x0A03, 0x0A04, 0x0A10, 0x0A11].contains code

/-- Whether a code wraps a blob (R231). -/
def wrapsBlob (code : Nat) : Bool := createsKey code || code = 0x0710

/-- Random bytes of a new secret of a curve: a scalar with 64 further bits, a seed, or a Montgomery scalar (R285). (DESIGN CHOICE, log 15) -/
def secretLen (agree : Bool) (size : Nat) : Nat :=
  if size = 255 then 32 else if size = 448 then (if agree then 56 else 57) else fieldLen size + 8

/-- Random bytes that randomise a curve operation with a secret scalar (R285): 64 bits for the scalar and a Z coordinate on a NIST
curve; two of 64 bits and a Z in Edwards form; a Z and a mask bit per step in Montgomery form. (DESIGN CHOICE, log 15) -/
def blindLen (agree : Bool) (size : Nat) : Nat :=
  let f := fieldLen size
  if size = 255 ∨ size = 448 then (if agree then f + f else 16 + f) else 8 + f

/-- The DRBG bytes a firing reserves. R166, R176, R190, R193, R227 and R277 fix those they name; the others are the
counts this model draws (DESIGN CHOICE, log 15). -/
def randomLen (i : FireIn) : Nat :=
  match i.code with
  | 0x0103 | 0x0402 | 0x0422 => if panless i then 0 else pinRandomLen (selB i)
  | 0x0107 => 8 * selC i + pinRandomLen (selB i)
  | 0x0410 => 8
  | 0x0601 => if bitAt (selC i) 0 then ivLen i else 0
  | 0x0910 => dataLen i
  | 0x0701 => 20 + (attrSize (template i) / 8) * tdesDraws + 16
  | 0x0710 | 0x0720 | 0x0721 | 0x0722 | 0x0802 | 0x0821 | 0x0A02 | 0x0A11 => 20
  | 0x0731 => 64
  | 0x0812 => hashLen (selA i)
  | 0x0801 => 20 + selDdata i / 16 + 64
  | 0x0810 => rsaBlindLen (keySize i / 8) + (if selB i = 2 then hashLen (selA i) else 0)
  | 0x0813 => rsaBlindLen (keySize i / 8)
  | 0x0820 => 20 + secretLen (attrUsage (template i) = Us.K3) (selDdata i) + blindLen (attrUsage (template i) = Us.K3) (selDdata i)
  | 0x0822 => fieldLen (keySize i) + 8 + blindLen false (keySize i)
  | 0x0824 => blindLen false (keySize i)
  | 0x0826 => 20 + blindLen true (keySize i)
  | 0x0A01 => 20 + 64 + 32
  | 0x0A03 => 20 + 32 + 32
  | 0x0A04 => 20 + 32
  | 0x0A10 => 20 + 32 + 32
  | 0x0A12 => 32 + 32
  | _ => 0

/-- Whether a firing draws from the DRBG at all. -/
def drawsRandom (i : FireIn) : Bool := randomLen i ≠ 0

end Sys2Proof.Machine
end

