-- ==== Sys2Proof/Machine/FormCheck.lean ====
section
/-! DEFINITION. Step 1 of R161 (form of PARAMS, PAN, key fields and lengths), the checks that follow the key lookup with
step 4 (sizes, templates) and step 5 (policy on public facts). No check reads a secret value (R136). -/

namespace Sys2Proof.Machine

/-- A check list: the first status met. -/
def firstOf : List (Option Nat) → Option Nat
  | [] => none
  | some s :: _ => some s
  | none :: r => firstOf r

/-- A condition that must hold, else the status. -/
def need (c : Bool) (st : Nat) : Option Nat := if c then none else some st

def badPar (c : Bool) : Option Nat := need c St.BAD_PARAMETER
def badLen (c : Bool) : Option Nat := need c St.BAD_LENGTH

/-! ## The PAN (R158) -/

/-- The digits of a PAN in PARAMS bytes: PAN_LEN, then packed BCD with unused nibbles 0xF; `none` where malformed. -/
def panDigits (len : Nat) (bytes : Bytes) : Option (List Nat) :=
  let ns := nibbles (padTo 10 bytes)
  if 12 ≤ len ∧ len ≤ 19 ∧ (ns.take len).all (· ≤ 9) ∧ (ns.drop len).all (· = 0xF) then some (ns.take len) else none

/-- The PAN of a ware by R158: the routed PAN, the PARAMS PAN, or none for PAN_LEN 0 with the PAN bytes zero. -/
def panOf (routed : Option (List Nat)) (len : Nat) (bytes : Bytes) : Except Nat (List Nat) :=
  match routed with
  | some d => if len = 0 ∧ bytes.all (· = 0) then .ok d else .error St.BAD_PARAMETER
  | none =>
    if len = 0 then (if bytes.all (· = 0) then .ok [] else .error St.BAD_PARAMETER)
    else match panDigits len bytes with
      | some d => .ok d
      | none => .error St.BAD_PARAMETER

/-- The PIN formats of a translation that name a PAN (R167). -/
def fmtNeedsPan (f : Nat) : Bool := f ≠ 1

def pinFmt (f : Nat) : Bool := f = 0 || f = 1 || f = 3 || f = 4

/-- Whether a code needs a PAN, from its selectors (R167, R174, R178, R179, R185, R186, R191). -/
def needsPan (i : FireIn) : Bool :=
  match i.code with
  | 0x0101 | 0x0104 | 0x0305 => fmtNeedsPan (selA i)
  | 0x0102 | 0x0105 => true
  | 0x0103 => fmtNeedsPan (selA i) || fmtNeedsPan (selB i)
  | 0x0106 => fmtNeedsPan (selA i) || fmtNeedsPan (selB i)
  | 0x0107 => fmtNeedsPan (selB i)
  | 0x0402 | 0x0422 => fmtNeedsPan (selA i) || fmtNeedsPan (selB i)
  | 0x0410 => true
  | 0x0201 | 0x0202 | 0x0611 | 0x0612 => true
  | 0x0301 | 0x0302 | 0x0304 => selA i ≠ 0
  | _ => false

/-- R168: a PAN_LEN of 0 where a PAN is needed. A translation that the policy may permit without one is decided at step 5 of R161. -/
def panPresence (i : FireIn) : Option Nat :=
  if !(i.pan.isEmpty) || !(needsPan i) || panless i then none else some St.BAD_PARAMETER

/-! ## Input lengths (R156, R180, R198) -/

/-- How many bytes of the input record the code reads, the data region of R159 left out. -/
def recordNeed (i : FireIn) : Nat :=
  let blk := fun f => pinBlockLen f
  match i.code with
  | 0x0101 => 32
  | 0x0102 => blk (selA i)
  | 0x0103 => blk (selA i)
  | 0x0104 => 38
  | 0x0105 => 18
  | 0x0106 => 16 + blk (selB i)
  | 0x0201 => 2
  | 0x0202 => 4
  | 0x0301 | 0x0304 => 16 + parByte i 53
  | 0x0302 => if selC i = 1 then 12 else 16 + parByte i 53
  | 0x0305 => 16 + blk (selA i)
  | 0x0401 | 0x0402 => 28
  | 0x0410 => blk (selA i)
  | 0x0421 | 0x0422 => 26
  | 0x0601 => if bitAt (selC i) 0 then 0 else ivLen i
  | 0x0602 => ivLen i
  | 0x0611 | 0x0612 => if bitAt (selC i) 2 then 0 else parByte i 52
  | 0x0613 | 0x0614 => auxLen i
  | 0x0502 => selC i
  | 0x0F01 => 16
  | 0x0721 => 16 + attrSize (template i) / 8
  | _ => 0

/-- Codes that read a data region under R159. -/
def readsData (code : Nat) : Bool :=
  [0x0501, 0x0502, 0x0601, 0x0602, 0x0613, 0x0614, 0x0901, 0x0902, 0x0903, 0x0904, 0x0905, 0x0720, 0x0722, 0x0740,
   0x0802, 0x0810, 0x0811, 0x0812, 0x0813, 0x0821, 0x0822, 0x0823, 0x0824, 0x0825, 0x0826, 0x0830,
   0x0A02, 0x0A04, 0x0A11, 0x0A12, 0x0A13].contains code

/-- R159: the bounds of DATA_LEN. -/
def dataBounds (i : FireIn) (recLen : Nat) : Option Nat :=
  if i.code = 0x0910 then firstOf [badLen (1 ≤ dataLen i && dataLen i ≤ 4096), badPar (dataPtr i = 0)]
  else if readsData i.code then
    (if dataPtr i = 0 then badLen (dataLen i + 16 ≤ recLen)
     else badLen (1 ≤ dataLen i && dataLen i ≤ 65536 && dataPtr i + dataLen i ≤ 2 ^ 64))
  else none

/-- Lengths a code's own rules fix in its data region (R190, R192, R277, R279, R280, R287). CBC and ECB decrypt whole blocks under
every padding. (DESIGN CHOICE, log 22) -/
def dataFit (i : FireIn) : Option Nat :=
  let n := dataLen i
  let a := auxLen i
  let m := selA i % 128
  let s := selDdata i
  let h := hashLen (selA i)
  let blk := if bitAt (selA i) 7 then 8 else 16
  match i.code with
  | 0x0601 => if m = 3 then badLen (a ≤ n)
      else badLen (!((m = 1 || m = 4) && selB i = 0) || n % blk = 0)
  | 0x0602 => if m = 3 then badLen (a + 16 ≤ n) else badLen (!(m = 1 || m = 4) || n % blk = 0)
  | 0x0613 | 0x0614 => badPar (1 ≤ n && n ≤ 256 && 1000000 ≤ (s ^ (min n 256)))
  | 0x0810 | 0x0822 => badLen (!(prehashed i) || n = h)
  | 0x0811 => badLen (s / 8 ≤ n && (!(prehashed i) || n = s / 8 + h))
  | 0x0823 => badLen (2 * fieldLen s ≤ n && (!(prehashed i) || n = 2 * fieldLen s + h))
  | 0x0824 | 0x0A12 => badLen (a ≤ n)
  | 0x0825 => badLen (sigLen Alg.EDW s + a ≤ n)
  | 0x0A13 => badLen (sigLen Alg.MLDSA s + a ≤ n)
  | 0x0812 => badLen (a ≤ n && n - a + 2 * h + 2 ≤ s / 8)
  | 0x0813 => badLen (n = a + s / 8)
  | 0x0802 => badLen (n = s / 8 + 4)
  | 0x0821 => badLen (if s = 255 then n = 32 else if s = 448 then n = (if selA i = 1 then 56 else 57)
      else n = 1 || n = fieldLen s + 1 || n = 2 * fieldLen s + 1)
  | 0x0826 => badLen (if s = 255 || s = 448 then fieldLen s ≤ n && n ≤ fieldLen s + 256 else 1 ≤ n && n ≤ 2 * fieldLen s + 1 + 256)
  | 0x0830 => badLen (1 ≤ a && a ≤ s / 8 && n = 2 * (s / 8) + a)
  | 0x0A02 | 0x0A11 => badLen (n = pubLenBySelD i.code 0 s)
  | 0x0A04 => badLen (n = kemCtLen s)
  | _ => none

/-! ## Selectors (R156, R166 to R193, R232, R273 to R280) -/

/-- R183: a counter that is non-zero with at most `n` one-bits. -/
def ksnOk (c n bits : Nat) : Bool := c ≠ 0 && popCount c bits ≤ n

def decimal (bs : Bytes) : Bool := (nibbles bs).all (· ≤ 9)
def bcd2 (n : Nat) : Bool := n / 16 ≤ 9 && n % 16 ≤ 9

/-- A payment code whose definition uses no PAN: group 0x0F and the derivations of a working key (R183, R184, R193). -/
def usesNoPan (code : Nat) : Bool := code / 256 = 0x0F || code = 0x0401 || code = 0x0421

/-- Key fields and bytes a payment code does not use are zero: KEY2 where it has none, KEY3 always, PAN_LEN and PAN where it uses no
PAN (R156). -/
def keyLayoutZero (i : FireIn) (e : DirEntry) : Bool :=
  (e.reqB.isSome || parLe i 40 4 = 0) && parLe i 48 4 = 0 &&
  (!(usesNoPan i.code) || (parByte i 46 = 0 && (slice i.params 14 10).all (· = 0)))

/-- The selector rules of each code. -/
def selectorsOk (i : FireIn) : Bool :=
  let a := selA i
  let b := selB i
  let c := selC i
  let d := selDkey i
  let x := parByte i 52
  let y := parByte i 53
  let r := i.inp
  match i.code with
  | 0x0101 => pinFmt a && b = 0 && 4 ≤ c && c ≤ 12 && d = 0 && decimal (slice r 16 8)
  | 0x0104 => pinFmt a && b = 0 && 4 ≤ c && c ≤ 12 && d = 0 && decimal (slice r 16 8) &&
      ((nibbles (slice r 32 6)).take c).all (· ≤ 9) && ((nibbles (slice r 32 6)).drop c).all (· = 0xF)
  | 0x0102 => pinFmt a && b = 0 && c = 0 && x ≤ 9 && y = 0
  | 0x0105 => pinFmt a && b = 0 && c = 0 && x ≤ 9 && y = 0 && decimal (slice r 16 2)
  | 0x0103 => pinFmt a && pinFmt b && c = 0 && d = 0
  | 0x0106 => pinFmt a && pinFmt b && c = 0 && d = 0
  | 0x0107 => a = 0 && pinFmt b && 4 ≤ c && c ≤ 12 && d = 0
  | 0x0201 | 0x0202 => a ≤ 2 && b = 0 && c = 0 && decimal (slice r 0 2) &&
      (if a = 0 then bcd2 x && y / 16 ≤ 9 && y % 16 = 0xF else d = 0) &&
      (i.code = 0x0201 || ((nibbles (slice r 2 2)).take 3).all (· ≤ 9))
  | 0x0301 => (a = 0 || a = 1 || a = 3) && b ≤ 1 && c ≤ 2 && bcd2 x
  | 0x0302 => (a = 0 || a = 1 || a = 3) && b ≤ 1 && (c = 1 || c = 2) && bcd2 x &&
      (if c = 1 then y = 0 else y ≤ 8) && (!i.session || (a = 0 && b = 0 && x = 0 && (c = 2 || y = 0)))
  | 0x0304 => (a = 0 || a = 1 || a = 3) && b ≤ 1 && c ≤ 2 && bcd2 x &&
      4 ≤ byteAt r 10 && byteAt r 10 ≤ 8 && leAt r 11 5 = 0
  | 0x0305 => pinFmt a && b ≤ 1 && c = 0 && bcd2 x && y = 0
  | 0x0401 => a = 0 && b = 0 && c ≤ 4 && 1 ≤ x && x ≤ 7 && y = 0 && ksnOk (beAt r 24 4) 16 32
  | 0x0402 => pinFmt b && c ≤ 4 && d = 0 && (if c ≤ 1 then a = 0 || a = 1 || a = 3 else a = 4) && ksnOk (beAt r 24 4) 16 32
  | 0x0410 => pinFmt a && b = 4 && 2 ≤ c && c ≤ 4 && d = 0
  | 0x0421 => a = 0 && b = 0 && c = 0 && 1 ≤ x && x ≤ 5 && y = 0 && ksnOk (beAt r 16 10 % 2 ^ 21) 10 21
  | 0x0422 => (a = 0 || a = 1 || a = 3) && pinFmt b && c = 0 && d = 0 && ksnOk (beAt r 16 10 % 2 ^ 21) 10 21
  | 0x0501 | 0x0502 =>
      let m := a % 128
      let tdes := bitAt a 7
      (m = 1 || m = 3 || m = 5 || m = 6 || m = 7 || m = 8) &&
      (if m = 1 || m = 3 then 1 ≤ b && b ≤ 3 else b = 0) &&
      (if 6 ≤ m then 10 ≤ c && c ≤ 16 else 4 ≤ c && c ≤ (if tdes || m = 3 then 8 else 16)) &&
      auxLen i = 0 && selDdata i = 0 && (i.code = 0x0502 || leAt r 0 16 = 0)
  | 0x0601 | 0x0602 =>
      let m := a % 128
      1 ≤ m && m ≤ 4 && !(m = 3 && bitAt a 7) && (if m = 1 || m = 4 then b ≤ 2 else b = 0) &&
      (if i.code = 0x0601 then c ≤ 1 else c = 0) && (m = 3 || auxLen i = 0) && selDdata i = 0
  | 0x0611 | 0x0612 =>
      let body := if c % 4 = 0 then i.pan else i.pan.dropLast
      a ≤ 8 && b ≤ 4 && c ≤ 7 && c % 4 ≤ 2 && (if bitAt c 2 then x = 0 else x ≤ 32) && y = 0 &&
      6 + a + b ≤ body.length &&
      (i.code = 0x0611 || c % 4 = 0 ||
        i.pan.getLast? = some (if c % 4 = 1 then luhnDigit body else (luhnDigit body + 1) % 10))
  | 0x0613 | 0x0614 => a = 0 && b = 0 && c = 0 && 2 ≤ selDdata i && selDdata i ≤ 256 && auxLen i ≤ 16
  | 0x0901 | 0x0902 | 0x0903 | 0x0904 | 0x0905 | 0x0910 => a = 0 && b = 0 && c = 0 && auxLen i = 0 && selDdata i = 0
  | 0x0F01 | 0x0F02 => a = 0 && b = 0 && c = 0 && d = 0
  | 0x0F03 => a ≤ 14 && b = 0 && c = 0 && d = 0
  | 0x0701 => a ≤ 1 && (if a = 1 then b ≤ 1 else b = 0) && c = 0
  | 0x0710 => a ≤ 1 && b = 0 && c = 0
  | 0x0720 | 0x0722 => a = 0 && b = 0 && c = 0
  | 0x0721 => a = 0 && c = 0
  | 0x0730 => a ≤ 1 && b = 0 && c = 0
  | 0x0731 => a = 0 && b = 0 && c = 0
  | 0x0740 => a ≤ 1 && b = 0 && c = 0
  | 0x0750 => a = 0 && b = 0 && c = 0
  | 0x0810 | 0x0811 => 1 ≤ a && a ≤ 3 && (b = 1 || b = 2) && c ≤ 1 && auxLen i = 0
  | 0x0812 | 0x0813 => 1 ≤ a && a ≤ 3 && b = 0 && c = 0 && auxLen i ≤ 255
  | 0x0822 | 0x0823 => 1 ≤ a && a ≤ 3 && b = 0 && c ≤ 1 && auxLen i = 0
  | 0x0824 | 0x0825 => a = 0 && b = 0 && c = 0 && (if selDdata i = 255 then auxLen i = 0 else auxLen i ≤ 255)
  | 0x0A12 | 0x0A13 => a = 0 && b = 0 && c = 0 && auxLen i ≤ 255
  | 0x0826 => (a = 1 || a = 2) && b = 0 && c = 0 && auxLen i = 0
  | 0x0821 => a ≤ 2 && b = 0 && c = 0 && auxLen i = 0
  | 0x0830 => a = 0 && b = 0 && c = 0
  | _ => a = 0 && b = 0 && c = 0 && auxLen i = 0

/-- Bytes a layout reserves (R156, R232, R273). -/
def layoutZero (i : FireIn) (e : DirEntry) : Bool :=
  match e.layout with
  | .key => keyLayoutZero i e
  | .data => parLe i 40 4 = 0 && parByte i 46 = 0 && (readsData i.code || i.code = 0x0910 || (dataPtr i = 0 && dataLen i = 0))
  | .mgmt =>
      let slot := slotField i
      slot ≤ 15 && (slot = 0 || parLe i 40 4 = 0) && (e.reqB.isSome || (slot = 0 && parLe i 40 4 = 0)) &&
      (createsKey i.code || newHandle i = 0) && newHandle i < 2 ^ 22 &&
      (readsData i.code || (dataPtr i = 0 && dataLen i = 0)) &&
      (e.reqC.isSome || leAt i.inp 8 4 = 0) && (i.code = 0x0721 || leAt i.inp 12 3 = 0) && byteAt i.inp 15 = 0 &&
      (i.code ≠ 0x0701 || selA i = 1 || (slot = 0 && parLe i 40 4 = 0))
  | .pub => parByte i 46 = 0 && (createsKey i.code || parLe i 40 4 = 0) && parLe i 40 4 < 2 ^ 22 &&
      (readsData i.code || (dataPtr i = 0 && dataLen i = 0)) &&
      (!(createsKey i.code) || leAt i.inp 8 8 = 0)

/-- A rewrap whose TEMPLATE gives a narrower ATTR (R237). -/
def narrows (i : FireIn) : Bool := i.code = 0x0710 && bitAt (selA i) 0

/-- The BAD_PARAMETER refusals of a template, part of step 1 (R238, R278). (DEDUCED, log 37) -/
def templateForm (i : FireIn) : Option Nat :=
  let t := template i
  if !(createsKey i.code || narrows i) then none
  else badPar (attrGroups t ≠ 0 && attrLc t ≠ 0 && attrReserved t = 0 &&
    (i.code = 0x0720 || i.code = 0x0722 || (attrVersion t ≤ 99 && attrExport t ≠ 3)))

/-- SEL_D is a size the code takes (R276); 0x0830, which takes no key, has its own rule (R280). -/
def sizeTaken (i : FireIn) : Bool :=
  match dirEntry i.code with
  | none => true
  | some e => e.layout ≠ .pub || i.code = 0x0830 || (sizeClass i.code i.params).isSome

/-- R276, after the attribute checks: a size the code does not take, and the form that 0x0821 declares in SEL_A. (DEDUCED, log 119) -/
def declaredSize (i : FireIn) : Option Nat :=
  let t := template i
  firstOf [
    badPar (sizeTaken i),
    badPar (i.code ≠ 0x0821 ||
      (if selA i = 0 then attrAlg t = Alg.NIST
       else attrAlg t = Alg.EDW && attrUsage t = (if selA i = 1 then Us.K3 else Us.S0)))]

/-- NEW_HANDLE, with step 3 (R232, R275). (DEDUCED, log 37) -/
def createdHandle (i : FireIn) : Nat :=
  if (dirEntry i.code).any (fun e => e.layout = .pub) then parLe i 40 4 else newHandle i

/-- The KEY_USAGE refusals of a template, with step 4 (R236 to R238, R240, R278, R279). (DEDUCED, log 119) -/
def templateUsage (i : FireIn) (kp : KeyPolicy) : Option Nat :=
  let t := template i
  if narrows i then templateCheck kp t
  else if !(createsKey i.code) then none
  else firstOf [
    (if i.code = 0x0720 ∨ i.code = 0x0722 then none else templateCheck kp t),
    need (match i.code with
      | 0x0701 => attrAlg t ≤ Alg.HMAC && sizeOk (attrAlg t) (attrSize t) && !(attrPrivate t)
      | 0x0721 => attrAlg t = Alg.TDES && attrExport t = 0 && sizeOk Alg.TDES (attrSize t) && !(attrPrivate t)
      | 0x0720 | 0x0722 => !(attrWorld t) || kp.ceremony
      | 0x0801 | 0x0820 | 0x0A01 | 0x0A10 => attrPrivate t && attrExport t = 0 && attrSize t = selDdata i
      | 0x0802 | 0x0821 | 0x0A02 | 0x0A11 => !(attrPrivate t) && attrSize t = selDdata i
      | 0x0826 => (attrAlg t = Alg.AES || attrAlg t = Alg.HMAC) && sizeOk (attrAlg t) (attrSize t)
      | _ => (attrAlg t = Alg.AES || attrAlg t = Alg.HMAC) && attrSize t = 256) St.KEY_USAGE,
    need (match i.code with
      | 0x0801 | 0x0802 => attrAlg t = Alg.RSA
      | 0x0820 => attrAlg t = Alg.NIST || attrAlg t = Alg.EDW
      | 0x0821 => attrAlg t = Alg.NIST || attrAlg t = Alg.EDW
      | 0x0A01 | 0x0A02 => attrAlg t = Alg.MLKEM
      | 0x0A10 | 0x0A11 => attrAlg t = Alg.MLDSA
      | _ => true) St.KEY_USAGE]

/-- RESULT_LEN against the largest result of R539. -/
def resultFits (i : FireIn) (resultLen matLen : Nat) : Bool :=
  decide (largestResult i matLen ≤ resultLen) || largestResult i matLen = 0

/-- The largest result depends on the key found (0x0710) or on the data (0x0720): the check waits for them. -/
def lateLength (code : Nat) : Bool := code = 0x0710 || code = 0x0720

/-- Step 1 of R161 for one firing: form and lengths, then RESULT_LEN against the largest result (R539). (DESIGN CHOICE, log 26) -/
def formCheck (i : FireIn) (e : DirEntry) (routed : Bool) (recLen resultLen : Nat) : Option Nat :=
  firstOf [
    badPar (!(routed && (e.layout = .mgmt || e.layout = .pub))),
    badLen (recordNeed i ≤ recLen),
    badLen (!(e.layout = .mgmt || createsKey i.code) || 16 ≤ recLen),
    badPar (layoutZero i e),
    badPar (selectorsOk i),
    badPar (e.layout = .pub || sizeClass i.code i.params ≠ none || i.code = 0x0910 || readsData i.code),
    templateForm i,
    panPresence i,
    dataBounds i recLen,
    (if sizeTaken i then dataFit i else none),
    (if i.code = 0x0830 then badPar (sizeClass i.code i.params ≠ none && 256 ≤ selDdata i) else none),
    badLen (lateLength i.code || resultFits i resultLen 0)]

/-- The algorithm a code's selectors declare of key `j` (0 KEY_REF, 1 KEY2, 2 AUX_KEY): part of check 1 of R223
(R159, R166, R174, R178, R179, R183, R189, R241). -/
def declaredKey (i : FireIn) (j : Nat) : Bool :=
  let aA := attrAlg i.keyA.attr
  let aB := attrAlg i.keyB.attr
  let sA := attrSize i.keyA.attr
  let tdes := bitAt (selA i) 7
  match i.code, j with
  | 0x0101, 0 | 0x0104, 0 | 0x0105, 0 | 0x0102, 0 | 0x0103, 0 | 0x0106, 0 => aA = pinFormatAlg (selA i)
  | 0x0103, 1 | 0x0106, 1 => aB = pinFormatAlg (selB i)
  | 0x0107, 0 => aA = pinFormatAlg (selB i)
  | 0x0201, 0 | 0x0202, 0 => sA = 128
  | 0x0305, 1 => aB = pinFormatAlg (selA i)
  | 0x0402, 1 | 0x0422, 1 => aB = pinFormatAlg (selB i)
  | 0x0410, 1 => aB = pinFormatAlg (selA i)
  | 0x0501, 0 | 0x0502, 0 =>
      let m := selA i % 128
      let u := attrUsage i.keyA.attr
      (if m = 1 then u = Us.M1 else if m = 3 then u = Us.M3 && sA = 128 else if m = 5 then u = Us.M6 else u = Us.M7) &&
        (if 6 ≤ m then !tdes else aA = (if tdes then Alg.TDES else Alg.AES))
  | 0x0601, 0 | 0x0602, 0 => aA = (if tdes then Alg.TDES else Alg.AES)
  | 0x0301, 0 | 0x0304, 0 | 0x0302, 0 => !(i.session && i.code ≠ 0x0302) &&
      (selA i = 0 || (selA i = 1 && aA = Alg.TDES) || (selA i = 3 && aA = Alg.AES))
  | 0x0401, 0 | 0x0402, 0 | 0x0410, 0 =>
      strength (Alg.AES * 2 ^ 12 + sA * 2 ^ 16) ≥
        strength ((if selC i ≤ 1 then Alg.TDES else Alg.AES) * 2 ^ 12 + workingBits (selC i) * 2 ^ 16)
  | 0x0710, 0 => selA i = 0 || attrNarrower (template i) i.keyA.attr
  | 0x0722, 0 => sA = 2048 || sA = 3072
  | 0x0722, 2 => attrSize i.keyC.attr = 2048 || attrSize i.keyC.attr = 3072
  | _, _ => true

/-- What a selector or SEL_D must agree with once the keys are known (R179, R276). (DEDUCED, log 119) -/
def declaredRest (i : FireIn) (e : DirEntry) : Option Nat :=
  firstOf [
    (match e.layout with
     | .pub => if e.reqA.isSome then badPar (attrSize i.keyA.attr = selDdata i) else none
     | _ => none),
    (match i.code with
     | 0x0301 | 0x0304 => badPar (if attrAlg i.keyA.attr = Alg.AES then selC i = 0 else 1 ≤ selC i)
     | _ => none)]

/-- Key-block rules decided before the shape (R239, R242) and export rules. -/
def keyBlockChecks (i : FireIn) : Option Nat :=
  let tdesBlocks := polTdesBlocks i.pol
  let kbpk := i.keyB.attr
  let verAlg := fun (v : Nat) (a : Nat) => need (attrAlg a = (if v = 0 then Alg.AES else Alg.TDES)) St.KEY_USAGE
  let verOk := fun (v : Nat) => need (v = 0 || (v = 1 && tdesBlocks)) St.KEY_BLOCK_INVALID
  let header := fun (k : Config.KeyBlockHeader → Option Nat) =>
    match Config.keyBlockHeader (dataOf i) with
    | none => some St.KEY_BLOCK_INVALID
    | some h => if !h.optionalOk || (usageAlgs (attrUsage h.attr)).isEmpty then some St.KEY_BLOCK_INVALID else k h
  match i.code with
  | 0x0701 => if selA i = 1 then
      firstOf [need (attrExport (template i) ≠ 0) St.POLICY_EXPORT, verOk (selB i), verAlg (selB i) kbpk,
        need (strength (template i) ≤ strength kbpk) St.POLICY_EXPORT] else none
  | 0x0720 => header fun h => firstOf [verOk h.version, verAlg h.version kbpk,
      need (strength h.attr ≤ strength kbpk) St.KEY_BLOCK_INVALID,
      need (importTemplateOk (template i) h.attr) St.KEY_USAGE,
      need ((usageAlgs (attrUsage h.attr)).contains (attrAlg h.attr)) St.KEY_USAGE,
      need (attrMode (importAttr (template i) h.attr) ≠ Md.N || polUnrestricted i.pol) St.KEY_USAGE]
  | 0x0721 => need (polLegacyImport i.pol) St.POLICY_ALGORITHM
  | 0x0722 => need (Config.tr34Timestamp (dataOf i)).isSome St.KEY_BLOCK_INVALID
  | 0x0730 => firstOf [need (attrExport i.keyA.attr ≠ 0) St.POLICY_EXPORT, verOk (selA i), verAlg (selA i) kbpk,
      need (strength i.keyA.attr ≤ strength kbpk) St.POLICY_EXPORT]
  | 0x0731 => need (attrExport i.keyA.attr ≠ 0) St.POLICY_EXPORT
  | 0x0740 => header fun h => firstOf [need (attrAlg h.attr ≤ Alg.HMAC) St.POLICY_EXPORT, verOk h.version, verAlg h.version kbpk, verOk (selA i), verAlg (selA i) i.keyA.attr,
      need (attrExport h.attr ≠ 0) St.POLICY_EXPORT,
      need (strength h.attr ≤ strength i.keyA.attr) St.POLICY_EXPORT,
      need (strength h.attr ≤ strength kbpk) St.POLICY_EXPORT]
  | _ => none

/-- Step 5 of R161: the code's own policy rules on public facts (R167, R172, R176, R184, R189, R190, R192). (DEDUCED, log 37) -/
def policyChecks (i : FireIn) : Option Nat :=
  let a := selA i
  let b := selB i
  let unbind := polVflag i.pol 0
  let aesTdes := polVflag i.pol 1
  let table := slice i.inp 16 8
  match i.code with
  | 0x0101 => firstOf [need (polVflag i.pol 5) St.POLICY_PIN,
      need (!(polVflag i.pol 3) || (List.range 10).all fun d => (nibbles table).contains d) St.POLICY_PIN,
      need (!(polVflag i.pol 4) || table = polDecTable i.pol) St.POLICY_PIN]
  | 0x0104 => firstOf [
      need (!(polVflag i.pol 3) || (List.range 10).all fun d => (nibbles table).contains d) St.POLICY_PIN,
      need (!(polVflag i.pol 4) || table = polDecTable i.pol) St.POLICY_PIN]
  | 0x0102 | 0x0107 => need (polVflag i.pol 5) St.POLICY_PIN
  | 0x0103 | 0x0402 | 0x0422 =>
      need (if panless i then polVflag i.pol 2
            else if b = 1 ∧ (a = 0 ∨ a = 3) then unbind
            else if a = 4 ∧ (b = 0 ∨ b = 3) then aesTdes
            else if a = 4 ∧ b = 1 then unbind && aesTdes else true) St.POLICY_PIN
  | 0x0421 => need (!(polVflag i.pol 6)) St.POLICY_ALGORITHM
  | 0x0501 | 0x0502 => need (polMinMac i.pol ≤ selC i) St.POLICY_ALGORITHM
  | 0x0601 | 0x0602 => need (a % 128 ≠ 4 || polVflag i.pol 7) St.POLICY_ALGORITHM
  | 0x0613 | 0x0614 => badPar ((dataOf i).all fun n => n.toNat < selDdata i)
  | _ => none

/-- R184: a policy that withdraws TDES DUKPT refuses 0x0421 and 0x0422. -/
def dukptWithdrawn (i : FireIn) : Option Nat :=
  if i.code = 0x0422 ∧ polVflag i.pol 6 then some St.POLICY_ALGORITHM else none

/-- What follows the checks of R223 on every key: declarations, templates, key blocks, then step 5 (R161). -/
def afterKeys (i : FireIn) (e : DirEntry) (kp : KeyPolicy) : Option Nat :=
  firstOf [declaredRest i e, templateUsage i kp, declaredSize i, keyBlockChecks i, dukptWithdrawn i, policyChecks i]

/-- Whether a class 0x04 outcome of the code counts toward the attempt budget (R177). -/
def countsAttempt (code : Nat) : Bool := code = 0x0104 || code = 0x0105 || code = 0x0106 || code = 0x0202

end Sys2Proof.Machine
end

