-- ==== Sys2Proof/Machine/Operands.lean ====
section
/-! DEFINITION. The operands of a ware: the descriptor's fields (R81, R82), the PAN-routing request (R246), key fields (R157,
R197), the extension (R195, R196, R198), and what each step of a ware reads. -/

namespace Sys2Proof.Machine

/-! ## The descriptor (R81, R82) -/

def dCode (d : Bytes) : Nat := leAt d 0 2
def dFlag (d : Bytes) (i : Nat) : Bool := bitAt (byteAt d 2) i
def dGraph (d : Bytes) : Bool := dFlag d 0
def dOrdered (d : Bytes) : Bool := dFlag d 1
def dStateChanging (d : Bytes) : Bool := dFlag d 2
def dBlobFlag (d : Bytes) : Bool := dFlag d 3
def dPrioOverride (d : Bytes) : Bool := dFlag d 4
def dExtension (d : Bytes) : Bool := dFlag d 5
def dPanRouted (d : Bytes) : Bool := dFlag d 6
def dSteps (d : Bytes) : Nat := byteAt d 3
def dRoute (d : Bytes) : Nat := leAt d 4 4
def dFlow (d : Bytes) : Nat := field (dRoute d) 0 20
def dGroup (d : Bytes) : Nat := field (dRoute d) 20 6
def dClass (d : Bytes) : Nat := field (dRoute d) 26 2
def dReplay (d : Bytes) : Nat := leAt d 8 8
def dKeyRef (d : Bytes) : Nat := leAt d 16 4
def dBlobPtr (d : Bytes) : Nat := leAt d 20 8
def dResLen (d : Bytes) : Nat := leAt d 28 2
def dResPtr (d : Bytes) : Nat := leAt d 32 8
def dParams (d : Bytes) : Bytes := slice d 40 24
def dInline (d : Bytes) : Bytes := slice d 64 64
def dExtPtr (d : Bytes) : Nat := leAt d 64 8
def dExtLen (d : Bytes) : Nat := leAt d 72 2

/-- R538: the `n` bytes from `a` do not pass the end of host address space. -/
def hostRange (a n : Nat) : Bool := decide (a + n ≤ 2 ^ 64)

/-! ## The PAN-routing request (R82, R246) -/

def panLenOf (d : Bytes) : Nat := field (dKeyRef d) 0 5
def panOffOf (d : Bytes) : Nat := field (dKeyRef d) 5 7
def panRoleOf (d : Bytes) : Nat := field (dKeyRef d) 12 4

/-- The bytes the request names: offset and length; none where they lie past the inline data or the extension. -/
def panSpan (d : Bytes) : Option (Nat × Nat) :=
  let n := (panLenOf d + 1) / 2
  let room := if dExtension d then dExtLen d else 64
  if 12 ≤ panLenOf d ∧ panLenOf d ≤ 19 ∧ panOffOf d + n ≤ room then some (panOffOf d, n) else none

/-- The digits of a routed PAN; none where it is malformed. -/
def panParse (len : Nat) (bs : Bytes) : Option (List Nat) :=
  let ns := nibbles bs
  if (ns.take len).all (· ≤ 9) ∧ (ns.drop len).all (· = 0xF) then some (ns.take len) else none

/-- R246: the read of a routed PAN that lies in the extension. -/
def panReadOf (d : Bytes) : Option (Nat × Nat) :=
  if dPanRouted d && dExtension d then (panSpan d).map fun (o, n) => (dExtPtr d + o, n) else none

/-! ## Key fields (R157, R197) -/

/-- What a key field names. -/
inductive KeyRef where
  /-- the code takes no key here -/
  | none
  | handle (h : Nat)
  | role (r : Nat)
  /-- the key named by the descriptor's KEY_REF -/
  | anchor
  | cell (c : Nat)
  /-- a master slot of the saggar (R232) -/
  | slot (n : Nat)
  /-- a handle field with a bit above its handle set: KEY_HANDLE_INVALID in the field's turn -/
  | bad
  deriving DecidableEq, Repr

/-- A KEY2, KEY3 or graph key field (R157, R197). -/
def keyRefOf (graph : Bool) (v : Nat) : KeyRef :=
  if bitAt v 31 then .role (field v 24 4)
  else if graph && v = 0x40000000 then .anchor
  else if graph && v / 32 = 0x20000000 / 32 then .cell (v % 32)
  else if field v 22 10 = 0 then .handle v else .bad

/-- The form of a key field that step 1 of R161 decides: BY_ROLE only on a PAN-routed ware, its unused bits zero. -/
def keyFieldForm (routed : Bool) (v : Nat) : Bool :=
  !(bitAt v 31) || (routed && field v 0 24 = 0 && field v 28 3 = 0)

/-! ## The extension of a graph (R194 to R198) -/

def stepEntry (ext : Bytes) (i : Nat) : Bytes := slice ext (16 * i) 16
def seCode (e : Bytes) : Nat := leAt e 0 2
def seEmit (e : Bytes) : Bool := bitAt (byteAt e 2) 0
def seOutEn (e : Bytes) : Bool := bitAt (byteAt e 2) 1
def seBindEn (e : Bytes) : Bool := bitAt (byteAt e 2) 2
def seOutCell (e : Bytes) : Nat := field (byteAt e 3) 0 5
def seKeyA (e : Bytes) : Nat := leAt e 4 4
def seParamOff (e : Bytes) : Nat := 8 * byteAt e 8
def seInOff (e : Bytes) : Nat := 8 * byteAt e 9
def seInLen (e : Bytes) : Nat := byteAt e 10
def seBindCell (e : Bytes) : Nat := field (byteAt e 11) 0 5
def seBindPos (e : Bytes) : Nat := byteAt e 12

/-- Nibble i of SHAPES (R194). -/
def shapeNibble (d : Bytes) (i : Nat) : Nat := field (leAt d 40 8) (4 * i) 4
def stateMask (d : Bytes) : Nat := leAt d 48 2

/-! ## The steps of a ware -/

/-- One step: a single ware is one step, a graph has STEPS of them. -/
structure StepIn where
  index : Nat
  graph : Bool
  entry : Bytes
  code : Nat
  params : Bytes
  inp : Bytes
  recLen : Nat
  resultLen : Nat
  deriving DecidableEq, Repr

namespace Ware

def code (w : Ware) : Nat := dCode w.desc
def isGraph (w : Ware) : Bool := dGraph w.desc
def steps (w : Ware) : Nat := if w.isGraph then dSteps w.desc else 1
/-- The input record of a single ware (R156): the extension or the inline data. -/
def record (w : Ware) : Bytes := if dExtension w.desc then w.ext else dInline w.desc

/-- Step `i` of the ware. -/
def stepIn (w : Ware) (i : Nat) : StepIn :=
  if w.isGraph then
    let e := stepEntry w.ext i
    { index := i, graph := true, entry := e, code := seCode e, params := slice w.ext (seParamOff e) 24,
      inp := slice w.ext (seInOff e) (seInLen e), recLen := seInLen e, resultLen := 65535 }
  else
    { index := 0, graph := false, entry := [], code := w.code, params := dParams w.desc, inp := w.record,
      recLen := if dExtension w.desc then dExtLen w.desc else 64, resultLen := dResLen w.desc }

def allSteps (w : Ware) : List StepIn := (List.range w.steps).map w.stepIn

/-- The PAN of a step (R158, R198): the routed PAN, the graph PAN, or the one in PARAMS. -/
def panFor (w : Ware) (u : StepIn) : Except Nat (List Nat) :=
  if w.isGraph then
    match w.routedPan with
    | some d => .ok d
    | none => panOf none (byteAt w.desc 52) (slice w.desc 54 10)
  else match dirEntry u.code with
    | some { layout := .key, .. } => panOf w.routedPan (byteAt u.params 6) (slice u.params 14 10)
    | _ => .ok []

/-- The key fields of a step in the order of R161 step 3. KEYA of a graph's step 0 is the anchor, which is looked up once even where that
step's code takes no key (R197, R206). (DEDUCED, log 134) -/
def fields (w : Ware) (u : StepIn) : List KeyRef :=
  match dirEntry u.code with
  | none => []
  | some e =>
    let first := if e.reqA.isNone && !(u.graph && u.index = 0) then KeyRef.none
      else if u.graph then keyRefOf true (seKeyA u.entry)
      else if dPanRouted w.desc then .handle w.handle
      else if field (dKeyRef w.desc) 22 10 = 0 then .handle (dKeyRef w.desc) else .bad
    let second := if e.reqB.isNone then KeyRef.none
      else match e.layout with
        | .mgmt =>
          if u.code = 0x0701 ∧ byteAt u.params 4 = 0 then .none
          else if byteAt u.params 6 ≠ 0 then .slot (byteAt u.params 6) else keyRefOf u.graph (leAt u.params 0 4)
        | _ => keyRefOf u.graph (leAt u.params 0 4)
    let third := if e.reqC.isNone then KeyRef.none else keyRefOf false (leAt u.inp 8 4)
    [first, second, third]

/-- KEY_REF names no key: a bit above its handle is set (R157). -/
def badAnchor (w : Ware) : Bool := !(dPanRouted w.desc) && field (dKeyRef w.desc) 22 10 ≠ 0

/-- The raw key fields of a step, KEY_REF among them, for the form check of R157. -/
def rawFields (w : Ware) (u : StepIn) : List Nat :=
  match dirEntry u.code with
  | none => []
  | some e =>
    (if u.graph then [seKeyA u.entry] else []) ++
    (if dPanRouted w.desc || (u.graph && u.index ≠ 0) then [] else [dKeyRef w.desc]) ++
    (if e.reqB.isSome then [leAt u.params 0 4] else []) ++ (if e.reqC.isSome then [leAt u.inp 8 4] else [])

/-- Fields a code does not use are zero (R156, R232): KEY_REF of a code without a first key. -/
def unusedKeyZero (w : Ware) (u : StepIn) : Bool :=
  match dirEntry u.code with
  | none => true
  | some e => e.reqA.isSome || (if u.graph then seKeyA u.entry = 0 || u.index = 0 else dPanRouted w.desc || dKeyRef w.desc = 0)

/-- The data region of a step that kiln DMA fetches: its address and length (R159, R198). -/
def dataSpan (u : StepIn) : Option (Nat × Nat) :=
  if readsData u.code && leAt u.params 8 8 ≠ 0 then some (leAt u.params 8 8, leAt u.params 16 4) else none

/-- The ware's largest result in bytes: what result staging must have room for (R145). -/
def stagedBound (w : Ware) : Nat := if w.inline then 16 else dResLen w.desc

end Ware

/-! ## What a step's result can be in a graph (R200, R204) -/

/-- A code that returns a result; the checks, the key derivations and the self-tests return none (R163, R193, R204). -/
def givesResult (code : Nat) : Bool :=
  !([0x0104, 0x0105, 0x0106, 0x0202, 0x0301, 0x0401, 0x0421, 0x0502, 0x0811, 0x0823, 0x0825, 0x0A13, 0x0F02, 0x0F03].contains code)

/-- The size of a step's result: whether the parameters fix it, and its largest value; 0 for a code that returns none. (DESIGN CHOICE, log 53) -/
def stepResult (u : StepIn) : Bool × Nat :=
  let p := u.params
  let a := byteAt p 4
  let b := byteAt p 5
  let c := byteAt p 7
  let len := leAt p 16 4
  if !(givesResult u.code) then (true, 0)
  else match u.code with
  | 0x0101 => (true, 6)
  | 0x0102 | 0x0201 => (true, 2)
  | 0x0103 | 0x0107 | 0x0402 | 0x0422 => (true, pinBlockLen b)
  | 0x0302 => (true, if c = 1 then 8 else 4)
  | 0x0304 => (true, byteAt u.inp 10)
  | 0x0305 => (true, 16)
  | 0x0501 => (true, c)
  | 0x0601 => (true, encryptLen p)
  | 0x0602 => (b = 0, if a % 128 = 3 then len - leAt p 20 2 - 16 else len)
  | 0x0611 | 0x0612 => (true, 10)
  | 0x0613 | 0x0614 | 0x0910 => (true, len)
  | 0x0750 => (false, 5)
  | code => match resultSize code p with
    | .buffer n => (true, n)
    | .fromData => (false, len)
    | .inline => (true, 16)

/-- The bytes a graph's step list emits at most (R204). (DESIGN CHOICE, log 53) -/
def emittedBound (w : Ware) : Nat :=
  ((w.allSteps.filter fun u => seEmit u.entry).map fun u => (stepResult u).2).sum

/-- The digest of a replay entry (R374): the leftmost 8 bytes of SHA-256 over descriptor bytes 0–3, 16–19 and 40–127. -/
def replayDigest (d : Bytes) : Bytes := padTo 8 ((Config.sha256 (slice d 0 4 ++ slice d 16 4 ++ slice d 40 88)).take 8)

end Sys2Proof.Machine
end

