-- ==== Sys2Proof/Machine/WareOps.lean ====
section
/-! DEFINITION. What every part of a ware's path shares: the policy a ware runs under, pins, claims, leaving a kiln, ending, and
the replay entry it holds (R116, R139, R241, R262, R267, R375, R376). -/

namespace Sys2Proof.Machine

/-! ## Policy views (R116, R229, R230) -/

/-- A blob epoch lies in a live range, modulo 65,536 (R229). -/
def BepochRange.has (r : BepochRange) (e : Nat) : Bool :=
  decide ((BitVec.ofNat 16 e - r.oldest).toNat ≤ (r.current - r.oldest).toNat)

/-- The number of live epochs, 1 to 4 (R229). -/
def BepochRange.size (r : BepochRange) : Nat := (r.current - r.oldest).toNat + 1

/-- The bit of ATTR [51:48] of a lifecycle state (R220, R491). -/
def lcKeyBit : LcState → Option Nat
  | .personalised => some 0
  | .field => some 1
  | .fieldService => some 2
  | .testSealed => some 3
  | _ => none

/-- A handle lies in the saggar's range (R225). -/
def Saggar.inRange (g : Saggar) (h : Nat) : Bool :=
  decide (1024 * g.baseK ≤ h ∧ h < 1024 * g.baseK + 1024 * g.sizeK)

/-- A serial stands on the revocation list (R233). -/
def Saggar.isRevoked (g : Saggar) (serial : Nat) : Bool := g.revoked.any fun e => e.1 = serial

/-- An initial key is enrolled (R234). -/
def Saggar.enrolled (g : Saggar) (h serial : Nat) : Bool := g.origs.any fun o => o.handle = h && o.serial = serial

namespace State

/-- What a ware of saggar `sag` stamped with `epoch` sees of its policy. -/
def viewAt (s : State) (sag : Nat) (epoch : BitVec 16) : PolicyView :=
  if (s.saggar sag).epoch = epoch then (s.saggar sag).pol else (s.saggar sag).polOld

def viewOf (s : State) (w : Ware) : PolicyView := s.viewAt w.saggar w.epoch

/-- The policy record of a ware's epoch and variant (R254). -/
def recordOf (s : State) (w : Ware) : Bytes := (s.viewOf w).record w.pset

/-- The saggar's record of variant 0 in force (R326). -/
def policyOf (s : State) (sag : Nat) : Bytes := (s.saggar sag).pol.record 0

/-- The function is an administrator of the saggar: a PF, one that its policy names, or Kazkel on the saggar's behalf (R223, R224, R317). -/
def privileged (s : State) (i sag : Nat) : Bool := s.isPf i || i = kazkelFn || (polAdmins (s.policyOf sag)).contains i

/-- The saggar follows the continue policy (R377). -/
def continues (s : State) (sag : Nat) : Bool := polContinue (s.policyOf sag)

/-- A paired module (R361). -/
def paired (s : State) : Bool := s.mir.pair.isSome

def mirrored (s : State) : Bool := s.mir.link == .mirrored

/-! ## Pins (R139, R140, R262) -/

/-- An entry of the key cache goes: zeroed, out of its residence list, and the hot slots that refer to it emptied (R264). -/
def dropEntry (s : State) (h : Nat) : State :=
  match s.cache h with
  | none => s
  | some e =>
    let s := s.setCache h none
    let s := (s.modSaggar e.owner fun g => { g with residence := g.residence.filter (· ≠ h) }).trimExts e.owner
    if 64 < e.key.material.length then
      { s with
        kilns := mmap {} (fun _ k => { k with slots := k.slots.filter fun t =>
          !(t.saggar = e.owner && t.key.handle = h && 64 < t.key.material.length) }) s.kilns }
    else s

/-- Releases one pin of a cache entry; a doomed entry goes with its last pin (R262). -/
def unpinEntry (s : State) (h : Nat) : State :=
  match s.cache h with
  | none => s
  | some e =>
    let s := s.setCache h (some { e with pins := e.pins - 1 })
    if e.doomed && e.pins ≤ 1 then s.dropEntry h else s

/-- Releases one pin of a hot key slot; a doomed slot empties with its last pin (R140). -/
def unpinSlot (s : State) (k idx : Nat) : State :=
  s.modKiln k fun kl =>
    { kl with
      slots := (kl.slots.map fun t => if t.idx = idx then { t with pins := t.pins - 1 } else t).filter
        fun t => !(t.doomed && t.pins = 0) }

/-- Releases every pin a ware holds. -/
def unpinWare (s : State) (tag : Nat) : State :=
  match s.ware tag with
  | none => s
  | some w =>
    let s := forEach w.pins (fun x s => s.unpinSlot w.kiln x) s
    let s := forEach w.cpins (fun h s => s.unpinEntry h) s
    s.modWare tag fun w => { w with pins := [], cpins := [] }

/-! ## Claims (R241, R267) -/

/-- Releases a ware's wheel and operand page. A page above the quota goes back to the pool (R268). -/
def freeWheel (s : State) (tag : Nat) : State :=
  match s.ware tag with
  | none => s
  | some w =>
    let s := s.modKiln w.kiln fun k =>
      { k with wheelA := if k.wheelA = some tag then none else k.wheelA,
               wheelB := if k.wheelB = some tag then none else k.wheelB }
    let s := match w.wheel with
      | some m => s.modWheel m fun x => { x with scratch := [] }
      | none => s
    let s := match w.page with
      | some p => s.releasePage w.saggar p
      | none => s
    s.modWare tag fun w => { w with wheel := none, page := none }

/-- Takes a ware out of the engine that holds it. -/
def freeEngine (s : State) (k tag : Nat) : State :=
  s.modKiln k fun kl =>
    { kl with engines := mmap {} (fun _ e =>
        { e with fg := if e.fg = some tag then none else e.fg, bg := if e.bg = some tag then none else e.bg,
                 fgRun := if e.bg = some tag then 0 else e.fgRun }) kl.engines }

/-! ## Kiln DMA's reads of host memory (R127, R144, R146) -/

/-- Transfers that a kiln's DMA engine has outstanding (R127). -/
def kilnDmaDepth : Nat := 8

/-- Kiln DMA is asked to read host memory for a ware: the read is issued at once, or when one of the 8 before it has ended.
(DESIGN CHOICE, log 126) -/
def startFetch (s : State) (tag : Nat) (w : Ware) (a n : Nat) : State :=
  let s := when_ (decide ((s.kiln w.kiln).fetches.length < kilnDmaDepth)) (fun s => s.issueRead w.fn a n) s
  s.modKiln w.kiln fun k => { k with fetches := k.fetches ++ [(tag, a, n)] }

/-- A read has ended, or its ware has left the kiln: the oldest read not yet issued takes its place. -/
def dropFetch (s : State) (k tag : Nat) : State :=
  let old := (s.kiln k).fetches
  let new := old.filter fun f => f.1 ≠ tag
  let due := (new.take kilnDmaDepth).filter fun f => !((old.take kilnDmaDepth).contains f)
  let s := s.modKiln k fun x => { x with fetches := new }
  forEach due (fun f s => match s.ware f.1 with
    | some w => s.issueRead w.fn f.2.1 f.2.2
    | none => s) s

/-- No read of the kiln is before the ware's: kiln DMA never reorders transfers of one kind (R146). -/
def fetchTurn (s : State) (k tag : Nat) : Bool := ((s.kiln k).fetches.takeWhile fun f => f.1 ≠ tag).isEmpty

/-- A ware leaves its kiln: its pins, wheel, page, claim, engine and queue place are released, and its shelf lines are zeroed (R143,
R542). -/
def leaveKiln (s : State) (tag : Nat) : State :=
  match s.ware tag with
  | none => s
  | some w =>
    let s := ((s.unpinWare tag).freeWheel tag).freeEngine w.kiln tag
    let s := s.modKiln w.kiln fun k => { k with queue := k.queue.filter (· ≠ tag) }
    let s := s.dropFetch w.kiln tag
    s.modWare tag fun w => { w with claim := none, waits := .none, blobHeader := [], lineTag := none }

/-! ## Replay entries (R375, R376) -/

/-- The key of a replay entry: saggar and REPLAY_ID. -/
def replayKey (sag rid : Nat) : Nat := sag * 2 ^ 64 + rid

def replayOf (s : State) (sag rid : Nat) : Option ReplayEntry := mget none s.mir.replay (replayKey sag rid)

def setReplay (s : State) (sag rid : Nat) (e : Option ReplayEntry) : State :=
  s.modMir fun m => { m with replay := mset none m.replay (replayKey sag rid) e }

/-- A ware goes back to the setter to be placed before any new dispatch of its class (R110). RELEARNED stays: its key was opened on a miss (R86). -/
def toReturned (w : Ware) : Ware :=
  { w with phase := .returned, engine := 0, ext := [], data := [], dataLeft := 0, keys := [], prepared := 0, waits := .none,
           blobHeader := [], rand := [], entLate := false, entWaits := false, rounds := 0, graphStep := 0, cells := [],
           emitted := [], graphFail := none }

/-- R376: a ware that ends without a delta group leaves its pending entry to the first attached ware, or frees it. (DESIGN CHOICE, log 52) -/
def handOver (s : State) (tag : Nat) : State :=
  match s.ware tag with
  | none => s
  | some w =>
    match s.replayOf w.saggar (dReplay w.desc) with
    | none => s
    | some e =>
      if e.complete || e.owner ≠ tag || w.attachedTo.isSome || w.delta.isSome then s
      else match e.attached with
        | [] => s.setReplay w.saggar (dReplay w.desc) none
        | a :: rest =>
          let s := s.setReplay w.saggar (dReplay w.desc) (some { e with owner := a, attached := rest })
          let s := s.modWare a fun x => { toReturned x with attachedTo := none }
          forEach rest (fun b s => s.modWare b fun x => { x with attachedTo := some a }) s

/-! ## Ending (R20, R84, R136) -/

/-- The ware's firing ends, or it ends without one, with a status other than class 0x00 and the step index. -/
def failWare (s : State) (tag status step : Nat) : State :=
  let s := (s.leaveKiln tag).modWare tag fun w =>
    { w with phase := .ended, status := status, step := step, result := [], staged := false, emitted := [], cells := [],
             rand := [], keys := [], data := [], ext := [] }
  s.handOver tag

/-- A ware's tag becomes free. -/
def freeTag (s : State) (tag : Nat) : State := s.setWare tag none

/-- An attached ware leaves the entry it is attached to. -/
def detach (s : State) (tag : Nat) : State :=
  match s.ware tag with
  | none => s
  | some w =>
    if w.attachedTo.isNone then s
    else match s.replayOf w.saggar (dReplay w.desc) with
      | none => s
      | some e => s.setReplay w.saggar (dReplay w.desc) (some { e with attached := e.attached.filter (· ≠ tag) })

/-- A ware leaves its class and group queue; the deficit of an emptied queue returns to zero (R107). -/
def unqueue (s : State) (key tag : Nat) : State :=
  s.modSetter fun t =>
    let q := (mget [] t.queues key).filter (· ≠ tag)
    { t with queues := mset [] t.queues key q,
             deficits := if q.isEmpty then mset 0 t.deficits key 0 else t.deficits }

/-- A ware is removed without firing and without a record (R100 step 2): its record counts as discarded. -/
def removeWare (s : State) (tag : Nat) : State :=
  match s.ware tag with
  | none => s
  | some w =>
    let s := ((s.leaveKiln tag).handOver tag).detach tag
    let s := if w.stale then s.modFn w.fn fun f => { f with staleCnt := satInc f.staleCnt }
      else s.modRing w.fn w.ring fun r => { r with dropped := satInc r.dropped }
    (s.unqueue (64 * w.cls + w.group) tag).freeTag tag

/-- A ware returns from its kiln to the setter (R110, R117, R149, R152). -/
def returnWare (s : State) (tag : Nat) : State := (s.leaveKiln tag).modWare tag toReturned

/-- A ware returns to the head of its class in its kiln's queue, startable after 1 µs (R542). A kiln that is no longer in service
keeps no ware that has not fired: it goes back to the setter (R23, R149). -/
def backOff (s : State) (tag : Nat) : State :=
  match s.ware tag with
  | none => s
  | some w =>
    if (s.kiln w.kiln).state != .inService then s.returnWare tag else
    let s := (((s.unpinWare tag).freeWheel tag).freeEngine w.kiln tag).modWare tag fun w =>
      { w with phase := .backoff, keys := [], prepared := 0, waits := .none, blobHeader := [], rand := [], claim := none }
    s.modKiln w.kiln fun k =>
      let ahead := fun (t : Nat) => match s.ware t with
        | some x => decide (x.cls < w.cls)
        | none => false
      let q := k.queue.filter (· ≠ tag)
      { k with queue := q.filter ahead ++ tag :: q.filter fun t => !(ahead t) }

/-- The wares that fire or are prepared in a kiln. -/
def heldIn (s : State) (k : Nat) : List Nat :=
  s.tagsWhere fun w => w.kiln = k && (w.phase == .preparing || w.phase == .firing)

end State

/-- A ware still to fire: a mode change ends it with ABORTED_MODE (R89). -/
def Ware.live (w : Ware) : Bool := w.phase != .refused

/-- The phases in which a kiln has a ware in its queue. -/
def WarePhase.queuedInKiln : WarePhase → Bool
  | .arriving | .ready | .backoff => true
  | _ => false

end Sys2Proof.Machine
end

