-- ==== Sys2Proof/Machine/Entropy.lean ====
section
/-! DEFINITION. The entropy pool and the DRBGs (chapter 11): sources, seeds, requests, generate calls, and the entropy commands
that raise no fault. -/

namespace Sys2Proof.Machine

/-! ## Sources and the conditioner (R290 to R297) -/

/-- The bits of ENT_IRQ (R310). -/
abbrev entReady : Nat := 0
abbrev entLateIrq : Nat := 1
abbrev entSrcFail : Nat := 2
abbrev entSrcRetired : Nat := 3
abbrev entLow : Nat := 4
abbrev entStretch : Nat := 5
abbrev entExhaust : Nat := 6

/-- The noise sources (R290). -/
def allSources : List Nat := List.range 16

/-- The DRBGs (R302). -/
def allDrbgs : List Nat := List.range 69

/-! ## Health tests and conditioning (R292, R296) -/

/-- The repetition count test over samples in order: a run of `c` identical ones fails (R292). `run` counts those before the first. -/
def repetitionFails (c : Nat) : List Bool → Nat → Bool
  | [], run => decide (c ≤ run)
  | [_], run => decide (c ≤ run + 1)
  | x :: y :: rest, run => decide (c ≤ run + 1) || repetitionFails c (y :: rest) (if x = y then run + 1 else 0)

/-- The adaptive proportion test over one window of 1,024 samples: its first sample occurs `c` times or more (R292). -/
def proportionFails (c : Nat) (window : List Bool) : Bool :=
  match window.take 1024 with
  | [] => false
  | x :: rest => decide (c ≤ 1 + (rest.filter (· == x)).length)

/-- The adaptive proportion test over consecutive windows of 1,024 samples (R292). (DESIGN CHOICE, log 137) -/
def windowsFail (c : Nat) : Nat → List Bool → Bool
  | 0, _ => false
  | n + 1, xs => proportionFails c xs || windowsFail c n (xs.drop 1024)

/-- A continuous test fails on the samples of a source, in order (R292). -/
def healthFails (rct apt : Nat) (xs : List Bool) : Bool :=
  repetitionFails rct xs 0 || windowsFail apt (ceilDiv xs.length 1024) xs

/-- 512 raw bits in round-robin order, one from each source in POOL in ascending source number (R296). `samples i` are the bits that
source i delivers; none where some source delivers too few. A block begins with the lowest source. (DESIGN CHOICE, log 137) -/
def rawBits (pool : List Nat) (samples : List (List Bool)) : Option (List Bool) :=
  (List.range 512).mapM fun n =>
    match pool[n % pool.length]? with
    | none => none
    | some i => (samples.getD i [])[n / pool.length]?

/-- Bits to bytes, the first bit in the highest place. (DESIGN CHOICE, log 137) -/
def packBits (xs : List Bool) (n : Nat) : Bytes :=
  (List.range n).map fun k => byte ((((xs.drop (8 * k)).take 8).foldl (fun a b => 2 * a + b2n b) 0))

/-- The bytewise exclusive or, over 16 or 48 bytes. -/
def xorN (n : Nat) (a b : Bytes) : Bytes := (List.range n).map fun i => a.getD i 0 ^^^ b.getD i 0

/-- AES-256 CBC-MAC over the four 16-byte parts of 512 raw bits: one conditioned block (R296). -/
def conditionBlock (bits : List Bool) : Bytes :=
  (List.range 4).foldl (fun acc k => Config.aesEncrypt Config.conditionKey (xorN 16 acc (slice (packBits bits 64) (16 * k) 16))) (zeros 16)

/-! ## CTR_DRBG of SP 800-90A, AES-256, no derivation function (R302) -/

/-- The 16-byte counter plus `n`, big-endian (DESIGN CHOICE, log 137). -/
def ctrAdd (v : Bytes) (n : Nat) : Bytes := beBytes ((beAt v 0 16 + n) % 2 ^ 128) 16

/-- Output blocks 1 to `n` after a counter, as 16 n bytes. -/
def ctrStream (key v : Bytes) (n : Nat) : Bytes :=
  (List.range (16 * n)).map fun i => (Config.aesEncrypt key (ctrAdd v (i / 16 + 1))).getD (i % 16) 0

/-- CTR_DRBG_Update. -/
def ctrUpdate (r : Drbg) (data : Bytes) : Drbg :=
  let t := xorN 48 (ctrStream r.key r.v 3) data
  { r with key := slice t 0 32, v := slice t 32 16 }

/-- Instantiation from 48 bytes of entropy and the personalisation string. -/
def ctrInstantiate (r : Drbg) (seed pers : Bytes) : Drbg :=
  ctrUpdate { r with key := zeros 32, v := zeros 16 } (xorN 48 seed pers)

/-- One generate call of `n` bytes with additional input: none is 48 zero bytes without the first update. -/
def ctrGenerate (r : Drbg) (n : Nat) (add : Bytes) : Drbg × Bytes :=
  let r := if add.isEmpty then r else ctrUpdate r add
  let blocks := ceilDiv n 16
  (ctrUpdate { r with v := ctrAdd r.v blocks } add, (ctrStream r.key r.v blocks).take n)

namespace State

/-- The personalisation string of an instantiation of DRBG `d`, the n-th since POWER_ON (R302). -/
def personal (s : State) (d n : Nat) : Bytes :=
  leBytes Config.uid.toNat 8 ++ [byte d] ++ zeros 3 ++ leBytes n 4 ++ leBytes (s.sys.rtc.toNat / rtcSecond) 4 ++ zeros 28

/-- The additional input of a generate call for a ware's firing (R302). -/
def callInput (w : Ware) (tag code : Nat) : Bytes := leBytes w.saggar 2 ++ leBytes tag 2 ++ leBytes code 2 ++ zeros 42

/-- A seed stands ready in the shared queue, which gives nothing before READY (R299). -/
def seedReady (s : State) : Bool := s.ent.ready && !s.ent.seeds.isEmpty

/-- A bit of ENT_IRQ; its rise raises vector 21 (R310). -/
def entIrq (s : State) (bit : Nat) : State :=
  if s.ent.irq.getLsbD bit then s else (s.modEnt fun e => { e with irq := setBit e.irq bit }).raiseDevice 21

/-- ENT_STAT.IN_POOL. -/
def inPool (s : State) : Nat := (allSources.filter fun i => (s.source i).state == .pool).length

/-- ENT_STAT.RETIRED. -/
def sourcesRetired (s : State) : Nat := (allSources.filter fun i => (s.source i).state == .retired).length

/-- R297: the conditioner stops below 4 sources and resumes at 4. -/
def poolChanged (s : State) (before : Nat) : State :=
  if s.inPool < 4 ∧ 4 ≤ before then (s.modEnt fun e => { e with stopped := true }).entIrq entLow
  else if 4 ≤ s.inPool then s.modEnt fun e => { e with stopped := false }
  else s

/-- A source changes state, with the record of R434. -/
def sourceRecord (s : State) (i : Nat) : State :=
  s.kazkelRecord 0x0501 [byte i, byte (srcCode (s.source i).state), byte (s.source i).recent]

/-- R299: READY, once every source has left STARTUP, 4 are in POOL and four blocks are made. -/
def entReadyCheck (s : State) : State :=
  let started := allSources.all fun i => (s.source i).state == .retired || (s.source i).left
  if !s.ent.ready && started && decide (4 ≤ s.inPool) && decide (4 ≤ s.ent.startBlocks) then
    (s.modEnt fun e => { e with ready := true }).entIrq entReady
  else s

/-! ## Requests (R298) -/

/-- The DRBG has lost its state or has reached its limit. -/
def drbgNeedsSeed (r : Drbg) : Bool :=
  r.state == .unseeded || r.state == .exhausted

/-- A DRBG that has been instantiated. -/
def drbgLive (r : Drbg) : Bool := r.state == .ready || r.state == .stretched || r.state == .exhausted

/-- The ranks at which DRBG `d` requests a seed. -/
def seedRanks (s : State) (d : Nat) : List Nat :=
  let r := s.drbg d
  let any := [drbgNeedsSeed r, r.state == .stretched, r.state == .ready && decide (2 ^ 20 ≤ r.calls),
    drbgLive r && r.spare.isNone, drbgLive r && r.demand]
  if d = controlDrbg then (if any.any id then [1] else [])
  else ((List.range 5).filter fun i => any.getD i false).map (· + 2)

/-- Brings the list of outstanding requests up to date for DRBG `d`: a new one goes to the end. -/
def noteRequests (s : State) (d : Nat) : State :=
  let ranks := s.seedRanks d
  s.modEnt fun e =>
    let kept := e.arrivals.filter fun a => a.2 ≠ d || ranks.contains a.1
    { e with arrivals := kept ++ ((ranks.filter fun r => !(kept.contains (r, d))).map fun r => (r, d)) }

/-- The request to serve first: the lowest rank; within it the first to arrive, but the highest COUNT at rank 3. -/
def firstRequest (s : State) : Option (Nat × Nat) :=
  let best := fun (b : Option (Nat × Nat)) (a : Nat × Nat) => match b with
    | none => some a
    | some x =>
      if a.1 < x.1 || (a.1 = 3 && x.1 = 3 && decide ((s.drbg x.2).calls < (s.drbg a.2).calls)) then some a else some x
  s.ent.arrivals.foldl best none

/-! ## DRBGs (R302 to R306) -/

/-- Changes a DRBG and its requests. -/
def changeDrbg (s : State) (d : Nat) (f : Drbg → Drbg) : State := (s.modDrbg d f).noteRequests d

/-- R303: the DRBG's state is lost, with its spare seed; it requests a seed at once. -/
def drbgLost (s : State) (d : Nat) : State := s.changeDrbg d fun r => { insts := r.insts, state := .unseeded }

/-- The kiln's power domain is off or absent (R303, R310). -/
def drbgOff (s : State) (d : Nat) : State := s.changeDrbg d fun r => { insts := r.insts, state := .off }

/-- A reseed: the count returns to zero and a demand is met. (DESIGN CHOICE, log 46) -/
def drbgReseeded (seed : Bytes) (r : Drbg) : Drbg :=
  { ctrUpdate r seed with state := .ready, calls := 0, demand := false }

/-- Takes one seed for a reseed: the spare, or one of the shared queue; none when there is no seed (R305). (DESIGN CHOICE, log 46) -/
def takeSeed (s : State) (d : Nat) : Option (State × Bytes) :=
  match (s.drbg d).spare with
  | some seed => some (s.modDrbg d fun r => { r with spare := none }, seed)
  | none =>
    if s.seedReady then some (s.modEnt fun e => { e with seeds := e.seeds.drop 1 }, s.ent.seeds.headD []) else none

/-- R305: at or past call 2^20 the DRBG reseeds, or is STRETCHED for want of a seed. (DESIGN CHOICE, log 46) -/
def reseedPoint (s : State) (d : Nat) : State :=
  if (s.drbg d).calls < 2 ^ 20 then s
  else match s.takeSeed d with
    | some (s, seed) => s.changeDrbg d (drbgReseeded seed)
    | none =>
      if (s.drbg d).state == .ready then (s.changeDrbg d fun r => { r with state := .stretched }).entIrq entStretch else s

/-- One generate call of DRBG `d` for `n` bytes with additional input: the bytes, or a refusal (R304, R305). -/
def drbgCall (s : State) (d n : Nat) (add : Bytes) : State × Option Bytes :=
  if !((s.drbg d).state == .ready || (s.drbg d).state == .stretched) then (s, none)
  else
    let s := s.reseedPoint d
    if 2 ^ 32 ≤ (s.drbg d).calls then ((s.changeDrbg d fun r => { r with state := .exhausted }).entIrq entExhaust, none)
    else
    let out := (ctrGenerate (s.drbg d) n add).2
    let s := s.changeDrbg d fun r => { (ctrGenerate r n add).1 with calls := r.calls + 1 }
    let r := s.drbg d
    let noSeed := r.spare.isNone && !s.seedReady
    if r.calls = 2 ^ 32 && noSeed then ((s.changeDrbg d fun r => { r with state := .exhausted }).entIrq entExhaust, some out)
    else if 2 ^ 20 ≤ r.calls && noSeed && r.state == .ready then
      ((s.changeDrbg d fun r => { r with state := .stretched }).entIrq entStretch, some out)
    else (s, some out)

/-- The lengths of the calls that deliver `n` bytes, each at most 4,096 (R304). -/
def callsFor (n : Nat) : List Nat := (List.range (max 1 (ceilDiv n 4096))).map fun i => min 4096 (n - 4096 * i)

/-- Generate calls one after another: all their bytes, or the refusal that ends them, the values already drawn discarded (R304). -/
def drbgCalls (d : Nat) (add : Bytes) : List Nat → State → State × Option Bytes
  | [], s => (s, some [])
  | n :: rest, s =>
    match s.drbgCall d n add with
    | (s, none) => (s, none)
    | (s, some out) =>
      match drbgCalls d add rest s with
      | (s, none) => (s, none)
      | (s, some more) => (s, some (out ++ more))

/-- `n` bytes from DRBG `d`; none where it refuses. -/
def drbgBytes (s : State) (d n : Nat) (add : Bytes) : State × Option Bytes := drbgCalls d add (callsFor n) s

/-- `n` bytes from the control DRBG, which take no additional input (R302); none where it refuses. (DESIGN CHOICE, log 137) -/
def controlBytes (s : State) (n : Nat) : State × Option Bytes := s.drbgBytes controlDrbg n []

/-- `n` bytes of the control DRBG for an operation of Kazkel's, which waits while it refuses (R307). -/
def withControl (s : State) (n : Nat) (op : ControlWait) (f : Bytes → State → State) : State :=
  match s.controlBytes n with
  | (s, some r) => f r s
  | (s, none) => s.modEnt fun e => { e with waiting := e.waiting ++ [op] }

/-- The tweak key of an owner tag is replaced (R216, R217): the old one goes at once, the new one is drawn. -/
def newTweak (s : State) (owner : Nat) : State :=
  (s.setTweak owner none).withControl 32 (.tweak owner) fun r s => s.setTweak owner (some r)

/-- The DRBG would refuse a call now. -/
def drbgRefuses (s : State) (d : Nat) : Bool := !((s.drbg d).state == .ready || (s.drbg d).state == .stretched)

/-- A seed reaches the first request (R298): a DRBG that lost its state instantiates, one at its reseed point or under a demand
reseeds, any other keeps a spare. `selfTest`: the known-answer test before an instantiation passes (R301). (DESIGN CHOICE, log 46) -/
def deliverSeed (s : State) (selfTest : Bool) : State :=
  match (if s.seedReady then s.firstRequest else none) with
  | none => s
  | some (rank, d) =>
    let seed := s.ent.seeds.headD []
    let s := s.modEnt fun e => { e with seeds := e.seeds.drop 1 }
    let r := s.drbg d
    let reseed := r.state == .stretched || r.state == .exhausted || decide (2 ^ 20 ≤ r.calls)
    if r.state == .unseeded then
      if selfTest then
        let pers := s.personal d (r.insts + 1)
        s.changeDrbg d fun r =>
          { ctrInstantiate r seed pers with state := .ready, calls := 0, demand := false, insts := r.insts + 1 }
      else s.changeDrbg d fun r => { r with state := .failed }
    else if reseed || rank = 6 || (d = controlDrbg && r.spare.isSome) then s.changeDrbg d (drbgReseeded seed)
    else s.changeDrbg d fun r => { r with spare := some seed }

/-- A demand of R306; an UNSEEDED or FAILED DRBG ignores it. -/
def demandReseed (s : State) (d : Nat) : State :=
  if drbgLive (s.drbg d) then s.changeDrbg d fun r => { r with demand := true } else s

/-- The samples fail under the cutoffs of ENT_TEST (R291, R292). -/
def samplesFail (s : State) (xs : List Bool) : Bool := healthFails s.ent.rctC.toNat s.ent.aptC.toNat xs

/-- R294: a failure of a continuous or start-up test. -/
def sourceFails (s : State) (i : Nat) : State :=
  let before := s.inPool
  let s := s.modSource i fun x =>
    { x with state := if x.recent + 1 < 64 then .cooling else .retired, left := true,
             recent := min 64 (x.recent + 1), total := satInc x.total }
  let s := s.entIrq entSrcFail
  let s := if (s.source i).state == .retired then
      (s.modEnt fun e => { e with retiredList := e.retiredList ++ [i] }).entIrq entSrcRetired
    else s
  ((s.sourceRecord i).poolChanged before).entReadyCheck

end State

/-! ## The commands -/

/-- A source's last samples fail a continuous or start-up test under the cutoffs of ENT_TEST (R292, R294). -/
def execSourceTestFail (run : SourceRun) (s : State) : Res :=
  onUnit s (decide (run.source < 16)) (when_ ((s.source run.source).state != .retired && s.samplesFail run.samples)
    (fun s => s.sourceFails run.source) s)

/-- The start-up test ends: both continuous tests over 1,024 consecutive samples, to POOL or to COOLING (R293). -/
def execStartupTestDone (run : SourceRun) (s : State) : Res :=
  onUnit s (decide (run.source < 16 ∧ run.samples.length = 1024)) (when_ ((s.source run.source).state == .startup) (fun s =>
    if s.samplesFail run.samples then s.sourceFails run.source
    else
      let before := s.inPool
      ((s.modSource run.source fun x => { x with state := .pool, left := true }).poolChanged before).entReadyCheck) s)

/-- 2^16 samples have passed in COOLING (R293). -/
def execCoolingExpire (source : Nat) (s : State) : Res :=
  onUnit s (decide (source < 16)) (when_ ((s.source source).state == .cooling) (fun s =>
    s.modSource source fun x => { x with state := .startup }) s)

/-- A failure is 24 h old (R294). -/
def execSourceFailure24hExpire (source : Nat) (s : State) : Res :=
  onUnit s (decide (source < 16)) (s.modSource source fun x => { x with recent := x.recent - 1 })

/-- READY is still 0 after 100 ms (R300). -/
def execEntropyLateTimeout (s : State) : Res :=
  onUnit s true (when_ (!s.ent.ready) (fun s => (s.kazkelRecord 0x0502 []).entIrq entLateIrq) s)

/-- A write to ENT_RESEED with ONE (R306, R310): an index above 68 is ignored. -/
def execEntReseedOne (fn drbg : Nat) (s : State) : Res :=
  onUnit s (decide (fn < 1024 ∧ drbg < 128)) (s.globalWrite fn fun s =>
    when_ (decide (drbg ≤ 68)) (fun s => s.demandReseed drbg) s)

/-- A write to ENT_RESEED with ALL (R306). -/
def execEntReseedAll (fn : Nat) (s : State) : Res :=
  onUnit s (decide (fn < 1024)) (s.globalWrite fn fun s => forEach allDrbgs (fun d s => s.demandReseed d) s)

/-- A write to ENT_RESEED (R306, R310). -/
def State.reseedWrite (s : State) (v : Nat) : State :=
  if bitAt v 8 then forEach allDrbgs (fun d s => s.demandReseed d) s
  else when_ (bitAt v 7 && decide (field v 0 7 ≤ 68)) (fun s => s.demandReseed (field v 0 7)) s

end Sys2Proof.Machine
end

