-- ==== Sys2Proof/Machine/KeyCache.lean ====
section
/-! DEFINITION. Hot key slots (R138 to R140), the key cache (R226, R261 to R264), invalidation, operand pages (R268, R269), and
the commands over them. -/

namespace Sys2Proof.Machine

/-- What an insertion ends in (R263). -/
inductive Insert where
  | failed (status : Nat)
  /-- the entry holds a pinned key that is absent for the ware -/
  | retry
  | used
  deriving DecidableEq, Repr

/-- A key that needs a key extension (R226). -/
def needsExt (k : KeyVal) : Bool := decide (192 < k.material.length)

/-- A key that enters a hot key slot as a reference to its cache entry (R226). -/
def byReference (k : KeyVal) : Bool := decide (64 < k.material.length)

namespace State

/-! ## Hot key slots (R138, R139) -/

/-- The slot a ware finds for a handle: its own saggar's, not emptied, and of a live epoch (R138, R230). -/
def slotHit (s : State) (w : Ware) (h : Nat) : Option HotSlot :=
  (s.kiln w.kiln).slots.find? fun t =>
    t.saggar = w.saggar && t.key.handle = h && !t.doomed && (s.viewOf w).bepochs.has t.key.bepoch

/-- Pins a cache entry for a ware, once (R262). -/
def pinEntry (s : State) (tag h : Nat) : State :=
  match s.ware tag, s.cache h with
  | some w, some e =>
    if w.cpins.contains h then s
    else (s.setCache h (some { e with pins := e.pins + 1 })).modWare tag fun w => { w with cpins := w.cpins ++ [h] }
  | _, _ => s

/-- Pins a slot for a ware, once, and makes it the most recently used; a reference pins its cache entry too (R139, R262). -/
def pinSlot (s : State) (tag : Nat) (t : HotSlot) : State :=
  match s.ware tag with
  | none => s
  | some w =>
    let held := w.pins.contains t.idx
    let s := s.modKiln w.kiln fun kl =>
      { kl with
        slots := (kl.slots.filter fun x => x.idx ≠ t.idx) ++
          ((kl.slots.filter fun x => x.idx = t.idx).map fun x => { x with pins := x.pins + b2n (!held) }) }
    let s := if held then s else s.modWare tag fun w => { w with pins := w.pins ++ [t.idx] }
    if byReference t.key then s.pinEntry tag t.key.handle else s

/-- The number of the slot to fill (R139). -/
def slotFor (kl : Kiln) (sag : Nat) : Nat :=
  let unpinned := kl.slots.filter fun t => t.pins = 0
  match (List.range 512).find? fun i => !(kl.slots.any fun t => t.idx = i) with
  | some i => i
  | none =>
    let own := if kl.sagMax ≤ (kl.slots.filter fun t => t.saggar = sag).length then unpinned.filter fun t => t.saggar = sag else []
    match own ++ unpinned with
    | t :: _ => t.idx
    | [] => 0

/-- A miss fills a slot, and the ware pins it (R139). `doomed`: the key was invalidated during its fetch. -/
def fillSlot (s : State) (tag : Nat) (key : KeyVal) (doomed : Bool) : State :=
  match s.ware tag with
  | none => s
  | some w =>
    let i := slotFor (s.kiln w.kiln) w.saggar
    let t : HotSlot := { idx := i, saggar := w.saggar, key := key, doomed := doomed }
    (s.modKiln w.kiln fun kl => { kl with slots := (kl.slots.filter fun x => x.idx ≠ i) ++ [t] }).pinSlot tag t

/-! ## The key cache (R226, R261 to R264) -/

/-- The entry a ware finds resident for a handle (R261). -/
def cacheHit (s : State) (w : Ware) (h : Nat) : Option CacheEntry :=
  match s.cache h with
  | none => none
  | some e =>
    if e.owner = w.saggar && (s.saggar w.saggar).inRange h && (s.viewOf w).bepochs.has e.bepoch.toNat && !e.doomed then some e
    else none

/-- The pinned state of an entry. -/
def entryPinned (s : State) (h : Nat) : Bool := (s.cache h).any fun e => decide (0 < e.pins)

/-- The handles of a saggar whose entries hold a key extension (R226). -/
def extHolders (s : State) (sag : Nat) : List Nat :=
  (s.saggar sag).residence.filter fun h => (s.cache h).any fun e => needsExt e.key

/-- The 8-bit value at a place of the eviction generator's stream: AES-256 in counter mode, key and counter its 48 bytes (R264).
(DESIGN CHOICE, log 47) -/
def evictByte (g : Bytes) (pos : Nat) : Nat :=
  byteAt (Config.aesEncrypt (slice g 0 32) (beBytes ((beAt g 32 16 + pos / 16) % 2 ^ 128) 16)) (pos % 16)

/-- The first value from place `pos` on that lies below 256 − (256 mod c), reduced modulo c, and the place after it (R264).
(DESIGN CHOICE, log 47) -/
def evictDraw (g : Bytes) (c : Nat) : Nat → Nat → Nat × Nat
  | 0, pos => (0, pos)
  | fuel + 1, pos =>
    let r := evictByte g pos
    if r < 256 - 256 % c then (r % c, pos + 1) else evictDraw g c fuel (pos + 1)

/-- The victim of an eviction among unpinned entries in residence order (R264), and the state after its draw. (DESIGN CHOICE, log 47) -/
def victim (s : State) (sag : Nat) (among : List Nat) : State × Option Nat :=
  let us := among.filter fun h => !(s.entryPinned h)
  match (if polEvictRandom (s.policyOf sag) && !us.isEmpty then s.keys.evictKey else none) with
  | none => (s, us.head?)
  | some g =>
    let d := evictDraw g (min 64 us.length) 4096 s.keys.evictPos
    (s.modKeys fun k => { k with evictPos := d.2 }, us[d.1]?)

/-- Eviction of one entry (R264). -/
def evict (s : State) (h : Nat) : State :=
  (s.dropEntry h).modKeys fun k => { k with evict := satInc k.evict }

/-- Makes room for a new entry: none where the quota is zero or every entry that could go is pinned (R263). -/
def makeRoom (s : State) (sag : Nat) (key : KeyVal) : State × Bool :=
  let g := s.saggar sag
  let exts := s.extHolders sag
  if g.cacheQuota = 0 || (needsExt key && g.extQuota = 0) then (s, false)
  else if needsExt key && decide (g.extQuota ≤ exts.length) then
    match s.victim sag exts with
    | (s, some v) => (s.evict v, true)
    | (s, none) => (s, false)
  else if needsExt key && (s.freeExt sag).isNone && s.nextPage.isNone then (s, false)
  else if g.cacheQuota ≤ g.residence.length then
    match s.victim sag g.residence with
    | (s, some v) => (s.evict v, true)
    | (s, none) => (s, false)
  else (s, true)

/-- A key replaced in place still needs its key extension, where the entry held none: a place under the quota and a page for it.
The spec states no eviction there, and none is made. (DESIGN CHOICE, log 47) -/
def extRoom (s : State) (sag : Nat) (key : KeyVal) (e : CacheEntry) : Bool :=
  !(needsExt key) || needsExt e.key ||
    (decide ((s.extHolders sag).length < (s.saggar sag).extQuota) && ((s.freeExt sag).isSome || s.nextPage.isSome))

/-- Puts a key at its entry and at the end of its residence list, with a key extension where it needs one. (DESIGN CHOICE, log 47) -/
def putEntry (s : State) (sag : Nat) (key : KeyVal) : State :=
  let s := (s.setCache key.handle none).trimExts sag
  let x := if needsExt key then s.takeExt sag else (s, none)
  let s := x.1.setCache key.handle (some { owner := sag, bepoch := BitVec.ofNat 16 key.bepoch, key := key, ext := x.2 })
  s.modSaggar sag fun g => { g with residence := (g.residence.filter (· ≠ key.handle)) ++ [key.handle] }

/-- CACHE_FULL (R263, R266). -/
def cacheFull (s : State) : State × Insert := (s.modKeys fun k => { k with full := satInc k.full }, .failed St.CACHE_FULL)

/-- The ware uses the resident key: it pins the entry and fills a hot key slot. -/
def useEntry (s : State) (tag : Nat) (key : KeyVal) : State :=
  let doomed := (s.cache key.handle).any (·.doomed)
  (s.pinEntry tag key.handle).fillSlot tag key doomed

/-- The insertion of an opened blob's key, with the recheck of the revocation list (check 8 of R228, R263). -/
def insertKey (s : State) (tag : Nat) (w : Ware) (key : KeyVal) : State × Insert :=
  if (s.saggar w.saggar).isRevoked key.serial then (s, .failed St.KEY_USAGE)
  else match s.cacheHit w key.handle with
    | some e => (s.useEntry tag e.key, .used)
    | none =>
      let learned := fun (s : State) =>
        ((((s.putEntry w.saggar key).modKeys fun k => { k with relearn := satInc k.relearn }).modWare tag fun w =>
          { w with relearned := true }).useEntry tag key, Insert.used)
      if (s.saggar w.saggar).cacheQuota = 0 then s.cacheFull
      else match s.cache key.handle with
        | some e =>
          if 0 < e.pins then (s.modKeys fun k => { k with retry := satInc k.retry }, .retry)
          else if s.extRoom w.saggar key e then learned s else s.cacheFull
        | none =>
          match s.makeRoom w.saggar key with
          | (s, true) => learned s
          | (s, false) => s.cacheFull

/-- Lowering a quota evicts the oldest entries: unpinned ones at once, pinned ones with their last pin (R226). -/
def trimTo (s : State) (excess : Nat) (order : List Nat) : State :=
  let unpinned := order.filter fun h => !(s.entryPinned h)
  let now := unpinned.take excess
  let later := (order.filter fun h => s.entryPinned h).take (excess - now.length)
  let s := forEach now (fun h s => s.evict h) s
  forEach later (fun h s => match s.cache h with
    | some e => s.setCache h (some { e with doomed := true })
    | none => s) s

/-- The resident count and the extensions of a saggar are brought within its quotas (R226). -/
def trimCache (s : State) (sag : Nat) : State :=
  let s := s.trimTo ((s.saggar sag).residence.length - (s.saggar sag).cacheQuota) (s.saggar sag).residence
  s.trimTo ((s.extHolders sag).length - (s.saggar sag).extQuota) (s.extHolders sag)

/-! ## Invalidation (R140, R233) -/

/-- Kazkel invalidates every key of saggar `sag` that `p` admits, in every kiln and in the cache. (DESIGN CHOICE, log 47) -/
def invalidate (s : State) (sag : Nat) (p : KeyVal → Bool) : State :=
  let hit := fun (t : HotSlot) => t.saggar = sag && p t.key
  let s := { s with
    kilns := mmap {} (fun _ k => { k with
      slots := (k.slots.filter fun t => !(hit t && t.pins = 0)).map fun t => if hit t then { t with doomed := true } else t })
      s.kilns }
  let hs := s.keys.cache.filterMap fun e => match e.2 with
    | some c => if c.owner = sag && p c.key then some e.1 else none
    | none => none
  forEach hs (fun h s => match s.cache h with
    | some e => if e.pins = 0 then s.dropEntry h else s.setCache h (some { e with doomed := true })
    | none => s) s

/-- The keys of a retired epoch go, then the revocation entries tagged with it (R230). -/
def retireCleanup (s : State) (sag : Nat) : State :=
  match (s.saggar sag).retired with
  | none => s
  | some e =>
    (s.invalidate sag fun k => k.bepoch = e.toNat).modSaggar sag fun g =>
      { g with retired := none, revoked := g.revoked.filter fun r => r.2 ≠ e.toNat }

/-- The eviction generator's key and counter are replaced from the control DRBG (R264). -/
def reseedEviction (s : State) : State :=
  let r := s.controlBytes 48
  r.1.modKeys fun k => { k with evictKey := r.2, evictPos := 0 }

end State

/-! ## The commands -/

/-- Kazkel invalidates a key by handle, by handle and serial, or all keys of a saggar (R140). -/
def execKeyInvalidate (saggar : Nat) (handle serial : Option Nat) (s : State) : Res :=
  onUnit s (decide (saggar < 256)) (match handle, serial with
    | none, none => s.invalidate saggar fun _ => true
    | some h, none => s.invalidate saggar fun k => k.handle = h
    | some h, some n => s.invalidate saggar fun k => k.handle = h && k.serial = n
    | none, some _ => s)

/-- A retired epoch is cleaned up once BUSY is 0 (R230). -/
def execBepochRetireCleanup (saggar : Nat) (s : State) : Res :=
  onUnit s (decide (saggar < 256)) (when_ (!(s.saggar saggar).busy) (fun s => s.retireCleanup saggar) s)

/-- Every 1 ms after the end of boot (R264). -/
def execEvictKeyReseed (s : State) : Res :=
  onUnit s true (when_ (s.sys.mode != .dormant && s.sys.mode != .boot) (fun s => s.reseedEviction) s)

/-- A page on its way to a saggar below its quota: Kazkel takes it from the pool and starts its wipe (R268, R269). -/
def execPageWipe (saggar : Nat) (s : State) : Res :=
  onUnit s (decide (saggar < 256)) (
    when_ ((s.saggar saggar).state == .active &&
        decide ((s.operandPages saggar).length + (s.wipingPages saggar).length < s.pageQuota saggar)) (fun s =>
      match s.nextPage with
      | some p => s.setPage p (some { saggar := saggar, wiping := true })
      | none => s) s)

/-- The wipe ends: every line is zero under the saggar's owner tag, and the page is assigned (R269); a quota lowered meanwhile sends it
back to the pool. -/
def execPageWipeDone (saggar : Nat) (s : State) : Res :=
  onUnit s (decide (saggar < 256)) (match (s.wipingPages saggar).head? with
    | none => s
    | some p => (s.wipePage saggar p).setPage p
        (if (s.operandPages saggar).length < s.pageQuota saggar then some { saggar := saggar } else none))

end Sys2Proof.Machine
end

