-- ==== Sys2Proof/Machine/Rings.lean ====
section
/-! DEFINITION. Rings: doorbells, descriptor fetches, enabling, errors and reset (R73 to R101, R543), and the writing of completion
records with shadow and coalescing (R78, R79, R93 to R96). -/

namespace Sys2Proof.Machine

/-! ## Indices (R74, R75) -/

def Ring.sqSize (r : Ring) : Nat := 2 ^ r.sqLog2
def Ring.cqSize (r : Ring) : Nat := 2 ^ r.cqLog2

/-- `(a − b) mod n`. -/
def ringDist (n a b : Nat) : Nat := (a + n - b % n) % n

/-- Records written and not yet consumed by the host. -/
def Ring.unread (r : Ring) : Nat := ringDist r.cqSize r.cqTail r.cqHead

/-- COAL.COUNT in force: 0 and 1 mean every record, above 64 is 64 (R95). -/
def Ring.coal (r : Ring) : Nat := clamp 1 64 r.coalCount

/-- The slot and phase of the record after the `k` held ones (R78). -/
def Ring.slotAt (r : Ring) (k : Nat) : Nat × Bool :=
  let n := r.cqTail + k
  (n % r.cqSize, if n < r.cqSize then r.phase else !r.phase)

namespace State

/-- RING_q_INFLIGHT: wares of the ring stamped and without a record written or discarded. -/
def ringInflight (s : State) (i q : Nat) : Nat :=
  (s.tagsWhere fun w => w.fn = i && w.ring = q && !w.ringless).length + (s.ring i q).held.length

/-- SET_SAG_s_INFLIGHT: the saggar's wares that hold a ware tag (R104). -/
def sagInflight (s : State) (g : Nat) : Nat := (s.tagsWhere fun w => w.saggar = g).length

/-- Descriptor fetches issued and not yet arrived, over every ring. -/
def fetchesOut (s : State) : Nat := (s.host.rings.map fun e => e.2.fetches.length).sum

/-- Descriptor fetches not yet arrived, over the rings of the functions bound to a saggar: each will take a ware tag of its quota (R104). -/
def sagFetches (s : State) (g : Nat) : Nat :=
  ((s.host.rings.filter fun e => (s.fn (e.1 / 8)).bound == some g).map fun e => e.2.fetches.length).sum

/-! ## Writing records (R79, R93 to R95) -/

/-- The shadow's 8 bytes (R79). -/
def shadowBytes (r : Ring) : Bytes := leBytes r.sqHead 2 ++ leBytes r.cqTail 2 ++ leBytes (b2n r.phase) 1 ++ zeros 3

/-- Records of consecutive slots, split where the ring wraps: the address and the bytes of each write of at most 512 bytes (R94). -/
def recordRuns (r : Ring) : List (Nat × Bytes) → List (Nat × Bytes)
  | [] => []
  | (slot, bs) :: rest =>
    match recordRuns r rest with
    | (a, d) :: more =>
      if a = r.cqBase.toNat + 32 * (slot + 1) && d.length < 512 then (r.cqBase.toNat + 32 * slot, bs ++ d) :: more
      else (r.cqBase.toNat + 32 * slot, bs) :: (a, d) :: more
    | [] => [(r.cqBase.toNat + 32 * slot, bs)]

/-- The ring after `n` records more: their slots are written and the tail lies past them. -/
def ringPast (r : Ring) (n : Nat) : Ring := { r with cqTail := (r.slotAt n).1, phase := (r.slotAt n).2 }

/-- The writes of a ring's records in order, each followed by the shadow as it stands after that write (R79, R94). -/
def recordItems (r : Ring) : List (Nat × Bytes) → List HpItem
  | [] => []
  | (a, d) :: rest =>
    let r' := ringPast r (d.length / 32)
    .record a d :: ((if r.shadowEn then [.ware r.shadow.toNat (shadowBytes r')] else []) ++ recordItems r' rest)

/-- Raises the ring's vector once COUNT records are unsignalled (R95). -/
def signal (s : State) (i q : Nat) : State :=
  let r := s.ring i q
  if r.coal ≤ r.unsignalled then (s.modRing i q fun r => { r with unsignalled := 0 }).raiseVector i q else s

/-- Writes the held records, then the shadow, then the vector when coalescing lets it (R93, R94). -/
def flushHeld (s : State) (i q : Nat) : State :=
  let r := s.ring i q
  if r.held.isEmpty then s
  else
    let r' := { ringPast r r.held.length with held := [], unsignalled := r.unsignalled + r.held.length }
    ((s.setRing i q r').issue i (recordItems r (recordRuns r r.held))).signal i q

/-- A release hands over one record; it is written now, or held to be merged with the next (R94). -/
def pushRecord (s : State) (i q : Nat) (rec : Bool → Bytes) (merge : Bool) : State :=
  let r := s.ring i q
  let at_ := r.slotAt r.held.length
  let s := s.setRing i q { r with held := r.held ++ [(at_.1, rec at_.2)] }
  if merge && decide (r.held.length + 1 < 16) then s else s.flushHeld i q

/-! ## Errors (R99, R543) -/

/-- The ring stops fetching on an error, to be settled; the error that stopped it stands. (DESIGN CHOICE, log 28) -/
def ringError (s : State) (i q : Nat) (c : RingCause) : State :=
  s.modRing i q fun r => { r with settling := some (r.settling.getD c) }

/-! ## Reset (R100) -/

/-- A ware waits at the setter or in a kiln queue. -/
def waitsToFire (w : Ware) : Bool :=
  match w.phase with
  | .preparing | .firing | .suspended | .ended => false
  | _ => true

/-- R100 steps 1 to 3. Records held for merging are discarded with the rest, and descriptors on their way are discarded on arrival,
unstamped and uncounted. (DESIGN CHOICE, log 29) -/
def ringReset (s : State) (i q : Nat) : State :=
  if (s.ring i q).state == .resetting then s
  else
    let s := s.modRing i q fun r =>
      { r with state := .resetting, cause := .none, fetches := [], sqFetch := r.sqHead, settling := none,
               dropped := satAdd r.dropped r.held.length, held := [] }
    let mine := fun (w : Ware) => w.fn = i && w.ring = q && !w.ringless
    let s := forEach (s.tagsWhere fun w => mine w && waitsToFire w) (fun t s => s.removeWare t) s
    forEach (s.tagsWhere mine) (fun t s => s.modWare t fun w => { w with discard := true }) s

/-- Every ware of the ring that fired has ended its firings. -/
def ringQuiet (s : State) (i q : Nat) : Bool :=
  (s.tagsWhere fun w => w.fn = i && w.ring = q && !w.ringless && w.phase != .ended).isEmpty

/-- What a ring reset keeps: the ring configuration and RING_q_DROPPED (R100 step 4). (DESIGN CHOICE, log 29) -/
def ringKept (r : Ring) : Ring :=
  { sqLog2 := r.sqLog2, cqLog2 := r.cqLog2, prio := r.prio, shadowEn := r.shadowEn, sqBase := r.sqBase, cqBase := r.cqBase,
    shadow := r.shadow, coalCount := r.coalCount, coalTime := r.coalTime, dropped := r.dropped }

/-- The configuration that a write to RING_q_CTL sets: sizes and SHADOW_EN only while DISABLED, PRIO always (R97). (DESIGN CHOICE, log 28) -/
def ringConfig (r : Ring) (v : Nat) : Ring :=
  let r := { r with prio := field v 12 2 }
  if r.state == .disabled then { r with sqLog2 := field v 4 4, cqLog2 := field v 8 4, shadowEn := bitAt v 14 } else r

end State

/-- The sizes that R74 permits. -/
def Ring.configOk (r : Ring) : Bool :=
  decide (4 ≤ r.sqLog2 ∧ r.sqLog2 ≤ 12) && decide (4 ≤ r.cqLog2 ∧ r.cqLog2 ≤ 12)

/-- Function index and ring exist. (DESIGN CHOICE, log 7) -/
def ringUnit (fn ring : Nat) : Bool := decide (fn < 1024) && decide (ring < 8)

/-- A doorbell of a function that answers and is not quarantined (R70, R99). -/
def atDoorbell (i : Nat) (f : State → State) (s : State) : State :=
  when_ (s.answers i && !(s.fn i).quarantined) f s

/-! ## The commands -/

/-- A write to RING_q_SQ_DB (R75, R80, R99). -/
def execSqDoorbell (fn ring : Nat) (value : Word) (s : State) : Res :=
  onUnit s (ringUnit fn ring) (atDoorbell fn (fun s =>
    let r := s.ring fn ring
    match r.state with
    | .running =>
      if r.sqSize ≤ value.toNat then (s.ringError fn ring .sqRange).violation fn violDoorbell
      else s.modRing fn ring fun r => { r with sqTail := value.toNat, moved := false }
    | .disabled | .resetting => s.violation fn violDoorbell
    | .error => s) s)

/-- A write to RING_q_CQ_DB (R75, R96, R99). The records it leaves are to be signalled again; records it consumes before their vector
was raised still count until it is (R95). -/
def execCqDoorbell (fn ring : Nat) (value : Word) (s : State) : Res :=
  onUnit s (ringUnit fn ring) (atDoorbell fn (fun s =>
    let r := s.ring fn ring
    let v := value.toNat
    let out := decide (r.cqSize ≤ v) || decide (r.unread < ringDist r.cqSize v r.cqHead)
    let accept := fun (s : State) =>
      (s.modRing fn ring fun r =>
        let r := { r with cqHead := v, moved := false }
        { r with unsignalled := max r.unsignalled r.unread }).signal fn ring
    match r.state with
    | .resetting => s.violation fn violDoorbell
    | .running => if out then (s.ringError fn ring .cqRange).violation fn violDoorbell else accept s
    | .disabled | .error => if out then s.violation fn violDoorbell else accept s) s)

/-- R77, R90, R104: the host port may fetch the next descriptor of a ring. -/
def State.mayFetch (s : State) (fn ring : Nat) : Bool :=
  let r := s.ring fn ring
  let p := s.port (s.portOf fn)
  s.answers fn && !p.d3hot && !(s.fn fn).quarantined && r.enable && r.state == .running && r.settling.isNone &&
  decide (r.sqFetch ≠ r.sqTail) &&
  decide (s.ringInflight fn ring + r.fetches.length + r.unread + 1 ≤ r.cqSize - 1) &&
  decide (s.inflight + s.fetchesOut < 65536) &&
  (match (s.fn fn).bound with
   | none => true
   | some g => decide (s.sagInflight g + s.sagFetches g < polInflight (s.policyOf g)))

/-- The host port issues the read of the next descriptor. -/
def execDescriptorFetchIssue (fn ring : Nat) (s : State) : Res :=
  onUnit s (ringUnit fn ring) (when_ (s.mayFetch fn ring) (fun s =>
    let r := s.ring fn ring
    (s.setRing fn ring { r with fetches := r.fetches ++ [r.sqFetch], sqFetch := (r.sqFetch + 1) % r.sqSize }).emit
      (.hostRead fn (r.sqBase.toNat + 128 * r.sqFetch) 128)) s)

/-- Kazkel submits a ceremony firing on the ceremony's saggar's behalf (R223). (DESIGN CHOICE, log 135) -/
def State.stampCeremony (s : State) (tag : Nat) (desc : Bytes) : State :=
  if s.sys.mode != .ceremony || s.cus.cer.step = 0 || (s.ware tag).isSome then s
  else
    let w : Ware :=
      { fn := State.kazkelFn, ceremony := true, desc := padTo 128 desc, seq := s.setter.nextSeq, saggar := s.cus.cer.saggar,
        panRead := some none }
    (s.setWare tag (some w)).modSetter fun t => { t with nextSeq := t.nextSeq + 1 }

/-- The oldest descriptor arrives and is stamped with a tag and the generation (R57, R76, R90, R246). The PAN of a routed ware is read
where its own bytes lie below 2^64, whatever the rest of the extension does. (DESIGN CHOICE, log 125) -/
def execDescriptorArrive (fn ring tag : Nat) (desc : Bytes) (s : State) : Res :=
  onUnit s (decide (fn ≤ 1024 ∧ ring < 8) && decide (tag < 65536))
    (if fn = State.kazkelFn then s.stampCeremony tag desc else
     when_ (!(s.ring fn ring).fetches.isEmpty && (s.ware tag).isNone) (fun s =>
      let d := padTo 128 desc
      let w : Ware :=
        { fn := fn, ring := ring, gen := (s.fn fn).gen, desc := d, seq := s.setter.nextSeq,
          saggar := (s.fn fn).bound.getD 256, inline := true,
          flow := if dOrdered d then some (dFlow d) else none }
      let s := s.modRing fn ring fun r =>
        { r with fetches := r.fetches.drop 1, sqHead := (r.sqHead + 1) % r.sqSize }
      let s := (s.setWare tag (some w)).modSetter fun t => { t with nextSeq := t.nextSeq + 1 }
      match panReadOf d with
      | some (a, n) =>
        if dExtLen d ≤ 384 && hostRange a n then s.issueRead fn a n
        else s.modWare tag fun w => { w with panRead := some none }
      | none => s.modWare tag fun w => { w with panRead := some none }) s)

/-- The oldest outstanding fetch fails: its slot and every later one are discarded (R69, R99, R543). -/
def execDescFetchFail (fn ring : Nat) (s : State) : Res :=
  onUnit s (ringUnit fn ring) (when_ (!(s.ring fn ring).fetches.isEmpty) (fun s =>
    let s := s.modRing fn ring fun r => { r with fetches := [], sqFetch := r.sqHead, settling := some .descFetch }
    s.violation fn violDescFetch) s)

/-- The fetches in flight are settled: STATE becomes ERROR at the first slot not taken (R543). -/
def execRingErrorSettle (fn ring : Nat) (s : State) : Res :=
  onUnit s (ringUnit fn ring) (match (s.ring fn ring).settling with
    | none => s
    | some c =>
      when_ (s.ring fn ring).fetches.isEmpty (fun s => s.modRing fn ring fun r =>
        { r with state := .error, cause := c, errIndex := r.sqHead, sqFetch := r.sqHead, settling := none }) s)

/-- A write to RING_q_CTL with ENABLE 1 (R97, R98). -/
def execRingEnable (fn ring : Nat) (value : Word) (s : State) : Res :=
  onUnit s (ringUnit fn ring) (atFn fn (fun s => s.modRing fn ring fun r =>
    let r := State.ringConfig r value.toNat
    match r.state with
    | .disabled =>
      if r.configOk then { r with enable := true, state := .running, sqFetch := r.sqHead, moved := false }
      else { r with enable := true, state := .error, cause := .config, errIndex := r.sqHead }
    | .running => { r with enable := true }
    | .error => { r with enable := true }
    | .resetting => r) s)

/-- ENABLE is cleared: fetching stops after the descriptors already being fetched (R98). -/
def execRingDisable (fn ring : Nat) (s : State) : Res :=
  onUnit s (ringUnit fn ring) (atFn fn (fun s => s.modRing fn ring fun r => { r with enable := false }) s)

/-- RING_q_INFLIGHT has reached 0 with ENABLE clear (R98). -/
def execRingDisabled (fn ring : Nat) (s : State) : Res :=
  onUnit s (ringUnit fn ring) (when_
    ((s.ring fn ring).state == .running && !(s.ring fn ring).enable && (s.ring fn ring).fetches.isEmpty &&
      (s.ring fn ring).settling.isNone && decide (s.ringInflight fn ring = 0))
    (fun s => s.modRing fn ring fun r => { r with state := .disabled }) s)

/-- A write of 1 to RING_q_RESET.RESET (R100 steps 1 to 3). -/
def execRingReset (fn ring : Nat) (s : State) : Res :=
  onUnit s (ringUnit fn ring) (atFn fn (fun s => s.ringReset fn ring) s)

/-- R100 step 4, 1 µs after the last firing of the ring's wares. -/
def execRingResetComplete (fn ring : Nat) (s : State) : Res :=
  onUnit s (ringUnit fn ring) (when_ ((s.ring fn ring).state == .resetting && s.ringQuiet fn ring) (fun s =>
    (s.modRing fn ring State.ringKept).unring fun w => w.fn = fn && w.ring = ring) s)

/-- A ring without doorbell or completion for 100 µs moves to the inactive-ring region (R80). -/
def execRingIdleMove (fn ring : Nat) (s : State) : Res :=
  onUnit s (ringUnit fn ring) (when_ ((s.ring fn ring).fetches.isEmpty && decide (s.ringInflight fn ring = 0))
    (fun s => s.modRing fn ring fun r => { r with moved := true }) s)

/-- The merge delay of R94 has passed. -/
def execMergeDelayExpire (fn ring : Nat) (s : State) : Res :=
  onUnit s (ringUnit fn ring) (s.flushHeld fn ring)

/-- COAL.TIME has passed since the oldest record not yet signalled (R95). -/
def execCoalTimerExpire (fn ring : Nat) (s : State) : Res :=
  onUnit s (ringUnit fn ring) (when_ (decide (0 < (s.ring fn ring).unsignalled)) (fun s =>
    (s.modRing fn ring fun r => { r with unsignalled := 0 }).raiseVector fn ring) s)

/-- The read of a routed PAN from the extension ends (R246, R69). -/
def execPanExtReadDone (tag : Nat) (data : Option Bytes) (s : State) : Res :=
  onUnit s (decide (tag < 65536)) (match s.ware tag with
    | none => s
    | some w =>
      when_ (w.phase == .stamped && w.panRead.isNone && !((panReadOf w.desc).any fun r => s.readHeld w.fn r.1)) (fun s =>
        let s := s.modWare tag fun w => { w with panRead := some data }
        if data.isNone then s.violation w.fn violExtFetch else s) s)

end Sys2Proof.Machine
end

