-- ==== Sys2Proof/Machine/Routing.lean ====
section
/-! DEFINITION. PAN routing (R245 to R259): lookup, segments, locks and commits, and the commands of PRT_CMD. -/

namespace Sys2Proof.Machine

/-! ## Routing entries (R245) -/

def reValid (e : Bytes) : Nat := byteAt e 0
def reLen (e : Bytes) : Nat := byteAt e 1
def reDigits (e : Bytes) : List Nat := (nibbles (slice e 2 6)).take (reLen e)
def reKset (e : Bytes) : Nat := leAt e 8 2
def rePset (e : Bytes) : Nat := field (byteAt e 10) 0 4
def reStatus (e : Bytes) : Nat := leAt e 12 2
/-- The handle of a role in a key set (R253). -/
def roleOf (set : Bytes) (role : Nat) : Nat := leAt set (4 * role) 4
/-- What a commit compares: bytes 0 to 11. -/
def reKey (e : Bytes) : Bytes := slice e 0 12
/-- An entry that takes part in lookups (R252). -/
def reLive (e : Bytes) : Bool := reValid e = 1 && reStatus e = 0

/-- The form check of R258, first row. -/
def reForm (e : Bytes) : Bool :=
  reValid e = 1 && decide (6 ≤ reLen e ∧ reLen e ≤ 12) && (reDigits e).all (· ≤ 9) &&
  ((nibbles (slice e 2 6)).drop (reLen e)).all (· = 0xF) && byteAt e 10 < 16 && byteAt e 11 = 0 && byteAt e 15 = 0

/-- STATUS and DETAIL as a commit writes them. -/
def reVerdict (e : Bytes) (status detail : Nat) : Bytes :=
  slice (padTo 32 e) 0 12 ++ leBytes status 2 ++ [byte detail] ++ slice (padTo 32 e) 15 17

/-- The segment offset of a prefix in a table of 2^log2n segments (R251). -/
def hashPlace (sag len : Nat) (prefix6 : Bytes) (log2n : Nat) : Nat :=
  (crc32c ([byte sag, byte len] ++ prefix6)).toNat % 2 ^ log2n

/-- The packed prefix of the first `len` digits (R245). -/
def prefixOf (len : Nat) (digits : List Nat) : Bytes := packNibbles (digits.take len ++ List.replicate (12 - len) 0xF)

/-- The slots that lookups see: the shadow while locked or committing (R256). -/
def Segment.view (g : Segment) : SMap Bytes := if g.state == .locked || g.state == .committing then g.shadow else g.slots

/-- The live entries of a segment. -/
def Segment.live (g : Segment) : List Bytes := ((g.view).map (·.2)).filter reLive

namespace State

/-! ## Lookup (R247, R249, R252, R255) -/

/-- The grant a saggar holds. -/
def grantOf (s : State) (sag : Nat) : Option Nat := (List.range 8).find? fun k => (s.grant k).saggar = some sag

/-- The match in the associative memory: rows stand in descending order of LEN (R249). -/
def camMatch (s : State) (sag : Nat) (digits : List Nat) : Option Bytes :=
  (s.routing.rows.find? fun r => r.saggar = sag && reDigits r.entry == digits.take (reLen r.entry)).map (·.entry)

/-- One probe of a granted saggar's table of length `len` (R252). -/
def hashProbe (s : State) (k sag len : Nat) (digits : List Nat) : Option Bytes :=
  if !((s.grant k).filter.getLsbD (len - 6)) then none
  else match mget none (s.grant k).live len with
    | none => none
    | some t =>
      let p := prefixOf len digits
      let g := s.segment (t.base + hashPlace sag len p t.log2n)
      if g.state == .free || g.saggar ≠ sag then none else g.live.find? fun e => reLen e = len && slice e 2 6 == p

/-- The routing entry of a PAN for a saggar: the longest match (R247). -/
def routeEntry (s : State) (sag : Nat) (digits : List Nat) : Option Bytes :=
  match s.grantOf sag with
  | some k => [12, 11, 10, 9, 8, 7, 6].findSome? fun len => s.hashProbe k sag len digits
  | none => s.camMatch sag digits

/-- An issuer key set, read with one line read (R253, R255). -/
def keySet (s : State) (kset : Nat) : Bytes := mget (zeros 64) s.routing.ksets kset

/-! ## Locks and commits (R256 to R258) -/

/-- DESIGN CHOICE, log 56. -/
def lockedSegments (s : State) (p : Segment → Bool) : Nat :=
  (s.routing.segments.filter fun e => (e.2.state == .locked || e.2.state == .committing) && p e.2).length

/-- The kinds of PRT_CMD_STAT.RESULT: 0 done, 1 FREE, 2 wrong state, 3 lock limit. -/
def segLock (s : State) (g : Nat) : State × Nat :=
  let t := s.segment g
  if t.state == .free then (s, 1) else if t.state != .idle then (s, 2)
  else if 64 ≤ s.lockedSegments (fun _ => true) ∨ 16 ≤ s.lockedSegments (fun x => x.saggar = t.saggar) then (s, 3)
  else (s.modSegment g fun t => { t with state := .locked, shadow := t.slots }, 0)

/-- COMMIT: the segment becomes COMMITTING, and the controller waits for the writes on their way (R257 step 1). -/
def segCommit (s : State) (g : Nat) : State × Nat :=
  let t := s.segment g
  if t.state == .free then (s, 1) else if t.state != .locked then (s, 2)
  else (s.modSegment g fun t => { t with state := .committing, unsettled := true }, 0)

/-- ABANDON, and an expired lock: the shadow is copied back (R256). -/
def segAbandon (s : State) (g : Nat) : State × Nat :=
  let t := s.segment g
  if t.state == .free then (s, 1) else if t.state != .locked then (s, 2)
  else (s.modSegment g fun t => { t with state := .idle, slots := t.shadow, shadow := [] }, 0)

/-- The table that a hash segment belongs to: its prefix length, base and size. -/
def tableOf (s : State) (g : Nat) : Option (Nat × HashTable) :=
  match s.grantOf (s.segment g).saggar with
  | none => none
  | some k =>
    (((s.grant k).live ++ (s.grant k).waiting).findSome? fun e => e.2.bind fun t =>
      if t.base ≤ g ∧ g < t.base + 2 ^ t.log2n then some (e.1, t) else none)

/-- Which check of R258 a slot fails: STATUS and DETAIL. `seen` are the entries of earlier slots, `free` the rows left. -/
def slotVerdict (s : State) (g : Nat) (t : Segment) (e : Bytes) (seen : List Bytes) (free : Nat) (old : Bool) : Nat × Nat :=
  let sg := s.saggar t.saggar
  let same := fun (x : Bytes) => slice x 1 7 == slice e 1 7
  if reValid e = 0 then (0, 0)
  else if !(reForm e) then (St.BAD_INPUT_FORMAT, 1)
  else if t.hash && !(match s.tableOf g with
      | some (len, h) => reLen e = len && h.base + hashPlace t.saggar len (slice e 2 6) h.log2n = g
      | none => false) then (St.BAD_PARAMETER, 2)
  else if seen.any same || (!t.hash && s.routing.rows.any fun r => r.saggar = t.saggar && r.segment ≠ g && same r.entry) then
    (St.BAD_PARAMETER, 3)
  else if !(decide (sg.ksetBase ≤ reKset e ∧ reKset e < sg.ksetBase + sg.ksetCount)) then (St.BAD_PARAMETER, 4)
  else if !t.hash && !old && free = 0 then (St.NO_ROOM, 5)
  else (0, 0)

/-- R257 steps 2 to 4 over the slots in order: each slot with its verdict written. -/
def judgeSlots (s : State) (g : Nat) (t : Segment) : List (Nat × Bytes) → List Bytes → Nat → List (Nat × Bytes)
  | [], _, _ => []
  | (i, e) :: rest, seen, free =>
    let old := (t.shadow.map (·.2)).any fun x => reLive x && reKey x == reKey e
    let v := s.slotVerdict g t e seen free old
    let seen' := if reForm e then e :: seen else seen
    let free' := if v.1 = 0 && reValid e = 1 && !old then free - 1 else free
    (i, reVerdict e v.1 v.2) :: s.judgeSlots g t rest seen' free'

/-- Keeps rows in descending order of LEN (R249). -/
def insertRow (r : CamRow) : List CamRow → List CamRow
  | [] => [r]
  | x :: xs => if reLen x.entry < reLen r.entry then r :: x :: xs else x :: insertRow r xs

/-- The length filter of grant `k` (R252). -/
def refilter (s : State) (k : Nat) : State :=
  let bits := (List.range 7).map fun j =>
    match mget none (s.grant k).live (j + 6) with
    | none => 0
    | some t => if (List.range (2 ^ t.log2n)).any fun n => !(s.segment (t.base + n)).live.isEmpty then 2 ^ j else 0
  s.modGrant k fun g => { g with filter := BitVec.ofNat 7 bits.sum }

/-- R257 steps 2 to 6. -/
def commitSegment (s : State) (g : Nat) : State :=
  let t := s.segment g
  let judged := s.judgeSlots g t t.slots [] (65536 - s.routing.rows.length)
  let failed := (judged.filter fun e => reStatus e.2 ≠ 0).length
  let live := judged.filter fun e => reLive e.2
  let s := s.modSegment g fun t =>
    { t with state := .idle, slots := mmap (zeros 32) (fun _ e => e) judged, shadow := [], unsettled := false }
  let s := if t.hash then (match s.grantOf t.saggar with
        | some k => s.refilter k
        | none => s)
    else
      let place := fun (rows : List CamRow) (e : Nat × Bytes) =>
        insertRow { saggar := t.saggar, segment := g, slot := e.1, entry := e.2 } rows
      s.modRouting fun r => { r with rows := live.foldl place (r.rows.filter fun x => x.segment ≠ g) }
  let s := s.modRouting fun r => { r with failed := failed, busy := if r.busySeg = g then false else r.busy }
  s.saggarRecord t.saggar 0x0401 (leBytes g 4 ++ leBytes failed 1)

end State

/-! ## The commands of PRT_CMD (R256, R257) -/

/-- A PRT_CMD write: a device-global write whose answer is shown in PRT_CMD_STAT. It is dropped while BUSY; a fenced routing table
answers 2 (R266, R425). A segment past the last is never assigned, so it answers as FREE does. (DESIGN CHOICE, log 56) -/
def prtRun (segment : Nat) (op : State → State × Nat) (stays : Bool) (s : State) : State :=
  when_ (!s.routing.busy) (fun s =>
    let r := if (s.bank 8).fenced then (s, 2) else op s
    r.1.modRouting fun t =>
      { t with busy := stays && decide (r.2 = 0), busySeg := segment, result := BitVec.ofNat 3 r.2 }) s

/-- A write to PRT_CMD: OP and SEGMENT (R256). -/
def prtWrite (s : State) (v : Nat) : State :=
  let g := field v 0 18
  match field v 18 2 with
  | 1 => prtRun g (fun s => s.segLock g) false s
  | 2 => prtRun g (fun s => s.segCommit g) true s
  | 3 => prtRun g (fun s => s.segAbandon g) false s
  | _ => s

/-- A PF writes PRT_CMD. (DESIGN CHOICE, log 56) -/
def prtCommand (fn segment : Nat) (op : State → State × Nat) (stays : Bool) (s : State) : Res :=
  onUnit s (decide (fn < 1024) && decide (segment < 2 ^ 18)) (s.globalWrite fn (prtRun segment op stays))

def execPrtLock (fn segment : Nat) (s : State) : Res := prtCommand fn segment (fun s => s.segLock segment) false s
def execPrtCommit (fn segment : Nat) (s : State) : Res := prtCommand fn segment (fun s => s.segCommit segment) true s
def execPrtAbandon (fn segment : Nat) (s : State) : Res := prtCommand fn segment (fun s => s.segAbandon segment) false s

/-- Every write issued before COMMIT has reached the store: the commit runs to its end (R257 steps 2 to 6). -/
def execSegmentWritesSettled (segment : Nat) (s : State) : Res :=
  onUnit s (decide (segment < 250000)) (when_ ((s.segment segment).state == .committing && (s.segment segment).unsettled)
    (fun s => s.commitSegment segment) s)

/-- LOCK_MAX_MS has expired: the lock is abandoned and recorded (R256). -/
def execLockExpire (segment : Nat) (s : State) : Res :=
  onUnit s (decide (segment < 250000)) (when_ ((s.segment segment).state == .locked) (fun s =>
    (s.segAbandon segment).1.saggarRecord (s.segment segment).saggar 0x0402 (leBytes segment 4)) s)

end Sys2Proof.Machine
end

