-- ==== Sys2Proof/Machine/Steps.lean ====
section
/-! DEFINITION. The steps of a placed ware: what each one fires on, the graph-wide checks (R207), and the arrival of a ware's
input in its kiln with the form checks between extension and data (R144, R161 step 1, R198, R206). -/

namespace Sys2Proof.Machine

/-! ## What a step fires on -/

/-- The data region fetched for a step: regions arrive in step order (R144). -/
def Ware.dataFor (w : Ware) (u : StepIn) : Bytes :=
  w.data.getD ((w.allSteps.take u.index).filter fun x => (Ware.dataSpan x).isSome).length []

/-- The step index of a failure that concerns the ware as a whole (R86): a graph's extension belongs to no step. -/
def Ware.wholeStep (w : Ware) : Nat := if w.isGraph then stepGraph else 0

/-- The key found for field `j` of step `i`. -/
def Ware.keyAt (w : Ware) (i j : Nat) : KeyVal := (mget none w.keys (3 * i + j)).getD {}

/-- KEYA of the step is a session key that a 0x0301 step leaves in a cell (R181, R201). -/
def Ware.sessionKey (w : Ware) (u : StepIn) : Bool :=
  u.graph && (match keyRefOf true (seKeyA u.entry) with
    | .cell c => (w.allSteps.take u.index).any fun x => x.code = 0x0301 && seOutEn x.entry && seOutCell x.entry = c
    | _ => false)

namespace State

/-- What step `u` of ware `w` fires on, before any binding. -/
def fireIn (s : State) (w : Ware) (u : StepIn) : FireIn :=
  let view := s.viewOf w
  let cur := view.bepochs.current.toNat
  let ssk := match mget none (s.saggar w.saggar).slots 0 with
    | some k => k.material
    | none => []
  { code := u.code, params := u.params, inp := u.inp, data := w.dataFor u,
    pan := match w.panFor u with
      | .ok d => d
      | .error _ => [],
    keyA := w.keyAt u.index 0, keyB := w.keyAt u.index 1, keyC := w.keyAt u.index 2, session := w.sessionKey u,
    pol := s.recordOf w, counter := w.counter, rtcSeconds := s.sys.rtc.toNat / 32768, saggar := w.saggar, current := cur,
    blobKey := blobKeyOf ssk w.saggar cur }

/-- Step 1 of R161 for one step. (DESIGN CHOICE, log 31) -/
def stepForm (s : State) (w : Ware) (u : StepIn) : Option Nat :=
  match dirEntry u.code with
  | none => some St.BAD_FIRING_CODE
  | some e =>
    let i := s.fireIn w u
    firstOf [
      badPar ((w.rawFields u).all (keyFieldForm (dPanRouted w.desc))),
      badPar (w.unusedKeyZero u),
      badPar (!(u.graph && e.layout = .key) || (byteAt u.params 6 = 0 && (slice u.params 14 10).all (· = 0))),
      (match w.panFor u with
       | .error st => some st
       | .ok _ => none),
      (match Ware.dataSpan u with
       | some (a, n) => badLen (hostRange a n)
       | none => none),
      formCheck i e (dPanRouted w.desc) u.recLen u.resultLen]

/-! ## Graph-wide checks (R207), row by row -/

/-- The first step that breaks a row, with the row's status. -/
def rowOf (w : Ware) (status : Nat) (bad : StepIn → Bool) : Option (Nat × Nat) :=
  (w.allSteps.find? bad).map fun u => (status, u.index)

def firstRow : List (Option (Nat × Nat)) → Option (Nat × Nat)
  | [] => none
  | some r :: _ => some r
  | none :: rest => firstRow rest

/-- The cells a step reads as keys. -/
def cellKeys (u : StepIn) : List Nat :=
  let fs := [seKeyA u.entry] ++ (match dirEntry u.code with
    | some e => if e.reqB.isSome then [leAt u.params 0 4] else []
    | none => [])
  fs.filterMap fun v => match keyRefOf true v with
    | .cell c => some c
    | _ => none

/-- The cells a step reads. -/
def cellReads (u : StepIn) : List Nat := cellKeys u ++ (if seBindEn u.entry then [seBindCell u.entry] else [])

/-- A step leaves a key in its cell (R200). -/
def makesKey (u : StepIn) : Bool := (dirEntry u.code).any (·.keyCell)

/-- What an earlier step writes into a cell: a key (`true`) or a value. -/
def writtenBefore (w : Ware) (i c : Nat) : Option Bool :=
  ((w.allSteps.take i).find? fun u => seOutEn u.entry && seOutCell u.entry = c).map makesKey

/-- The distinct keys a graph names, cell keys left out (R205). -/
def namedKeys (w : Ware) (upTo : Nat) : List KeyRef :=
  ((w.allSteps.take upTo).flatMap fun u => (w.fields u).map fun f => match f with
    | .anchor => .handle w.handle
    | f => f).eraseDups.filter fun f => match f with
      | .handle _ | .role _ => true
      | _ => false

def graphWide (w : Ware) : Option (Nat × Nat) :=
  let d := w.desc
  let n := w.steps
  let whole := fun (ok : Bool) (st : Nat) => if ok then none else some (st, stepGraph)
  firstRow [
    whole (decide (16 * n ≤ dExtLen d) && leAt d 50 2 = 0 && byteAt d 53 = 0) St.BAD_GRAPH,
    whole (match panOf (if dPanRouted d then some [] else none) (byteAt d 52) (slice d 54 10) with
      | .ok _ => byteAt d 52 ≠ 0 || (slice d 54 10).all (· = 0)
      | .error _ => false) St.BAD_PARAMETER,
    whole ((List.range 16).all fun i => i < n || shapeNibble d i = 0) St.BAD_GRAPH,
    (if dCode d = seCode (stepEntry w.ext 0) then none else some (St.BAD_GRAPH, 0)),
    rowOf w St.BAD_GRAPH fun u =>
      let e := u.entry
      decide (8 ≤ byteAt e 2) || decide (32 ≤ byteAt e 3) || decide (32 ≤ byteAt e 11) || leAt e 13 3 ≠ 0 ||
      (!(seOutEn e) && byteAt e 3 ≠ 0) || (!(seBindEn e) && (byteAt e 11 ≠ 0 || byteAt e 12 ≠ 0)),
    rowOf w St.BAD_GRAPH fun u =>
      decide (dExtLen d < seParamOff u.entry + 24) || decide (dExtLen d < seInOff u.entry + seInLen u.entry),
    rowOf w St.BAD_GRAPH fun u =>
      (dirEntry u.code).isSome && shapeNibble d u.index ≠ (sizeClass u.code u.params).getD 0,
    (match (List.range 16).find? fun i => bitAt (stateMask d) i !=
        (decide (i < n) && (dirEntry (w.stepIn i).code).any (·.state)) with
     | some i => some (St.STATE_FLAG_MISMATCH, i)
     | none => none),
    rowOf w St.BAD_GRAPH fun u =>
      (u.index = 0 && seKeyA u.entry ≠ 0x40000000) || (u.index ≠ 0 && u.code = 0x0410),
    rowOf w St.BAD_GRAPH fun u =>
      (cellReads u).any (fun c => (writtenBefore w u.index c).isNone) ||
      (seOutEn u.entry && (writtenBefore w u.index (seOutCell u.entry)).isSome),
    rowOf w St.BAD_GRAPH fun u =>
      makesKey u && (!(seOutEn u.entry) ||
        !((w.allSteps.drop (u.index + 1)).any fun x => (cellReads x).contains (seOutCell u.entry))),
    rowOf w St.BAD_GRAPH fun u =>
      (cellKeys u).any (fun c => writtenBefore w u.index c ≠ some true) ||
      (seBindEn u.entry && writtenBefore w u.index (seBindCell u.entry) ≠ some false) ||
      (!(cellKeys u).isEmpty && u.code / 256 = 7),
    rowOf w St.BAD_GRAPH fun u =>
      let r := stepResult u
      (dirEntry u.code).isSome && ((seEmit u.entry && (makesKey u || !(givesResult u.code))) ||
        (seOutEn u.entry && !(makesKey u) && !(r.1 && decide (1 ≤ r.2 ∧ r.2 ≤ 64)))),
    rowOf w St.BAD_GRAPH fun u =>
      seBindEn u.entry && (match (w.allSteps.take u.index).find? fun x => seOutEn x.entry &&
          seOutCell x.entry = seBindCell u.entry with
        | some x => decide (seInLen u.entry < seBindPos u.entry + (stepResult x).2)
        | none => false),
    rowOf w St.BAD_GRAPH fun u => decide (16 < (namedKeys w (u.index + 1)).length),
    whole (decide ((w.allSteps.map fun u => ((Ware.dataSpan u).map (·.2)).getD 0).sum ≤ 65536) &&
      (decide (emittedBound w ≤ 16) || decide (emittedBound w ≤ dResLen d))) St.BAD_LENGTH]

/-- Preparation of a graph as far as its extension allows: the graph-wide checks, then for each step the code, the policy and
step 1 of R161 (R206). (DESIGN CHOICE, log 36) -/
def graphForm (s : State) (w : Ware) : Option (Nat × Nat) :=
  match graphWide w with
  | some r => some r
  | none => firstRow (w.allSteps.map fun u =>
      let code := match dirEntry u.code with
        | none => some St.BAD_FIRING_CODE
        | some e => if e.step then none else some St.BAD_FIRING_CODE
      (firstOf [code, need (polAdmits (s.recordOf w) u.code (s.privileged w.fn w.saggar)) St.POLICY_FUNCTION,
        s.stepForm w u]).map fun st => (st, u.index))

/-! ## Input (R144) -/

/-- The host port issues reads for a function: no FLR of it runs and its port is up (R44, R59). -/
def fetchOk (s : State) (i : Nat) : Bool := s.answers i

/-- The fetch of the next data region, or the ware is startable. -/
def nextData (s : State) (tag : Nat) : State :=
  match s.ware tag with
  | none => s
  | some w =>
    match (w.allSteps.filterMap fun u => (Ware.dataSpan u).map fun x => (u.index, x)).drop w.data.length with
    | [] => s.modWare tag fun w => { w with phase := .ready, dataLeft := 0 }
    | (i, a, n) :: rest =>
      if s.fetchOk w.fn then
        (s.modWare tag fun w => { w with phase := .arriving, dataLeft := rest.length + 1 }).startFetch tag w a n
      else s.failWare tag St.EXT_FETCH_FAILED i

/-- The extension is complete, or there is none: the form checks, then the data regions. (DESIGN CHOICE, log 36) -/
def formStage (s : State) (tag : Nat) : State :=
  match s.ware tag with
  | none => s
  | some w =>
    if w.isGraph then
      let s := when_ ((graphWide w).isNone) (fun s => s.modWare tag fun w =>
        { w with inline := decide (emittedBound w ≤ 16) }) s
      match s.graphForm w with
      | some (st, i) => s.failWare tag st i
      | none => s.nextData tag
    else match s.stepForm w (w.stepIn 0) with
      | some st => s.failWare tag st 0
      | none => s.nextData tag

/-- A ware enters its kiln: kiln DMA fetches its extension, if it has one (R144). -/
def enterKiln (s : State) (tag : Nat) : State :=
  match s.ware tag with
  | none => s
  | some w =>
    if dExtension w.desc then
      if s.fetchOk w.fn then
        (s.modWare tag fun w => { w with phase := .arriving, ext := [], data := [], dataLeft := 0 }).startFetch
          tag w (dExtPtr w.desc) (dExtLen w.desc)
      else s.failWare tag St.EXT_FETCH_FAILED w.wholeStep
    else s.formStage tag

end State

/-! ## The commands -/

/-- The read of a placed ware's extension ends (R69, R144). -/
def execExtensionFetchDone (tag : Nat) (data : Option Bytes) (s : State) : Res :=
  onUnit s (decide (tag < 65536)) (match s.ware tag with
    | none => s
    | some w =>
      when_ (w.phase == .arriving && decide (w.dataLeft = 0) && dExtension w.desc && !s.readHeld w.fn (dExtPtr w.desc) &&
          s.fetchTurn w.kiln tag) (fun s =>
        let s := s.dropFetch w.kiln tag
        match data with
        | some bs => (s.modWare tag fun w => { w with ext := padTo (dExtLen w.desc) bs }).formStage tag
        | none => (s.failWare tag St.EXT_FETCH_FAILED w.wholeStep).violation w.fn violExtFetch) s)

/-- The read of a data region ends (R144, R159, R198). (DESIGN CHOICE, log 6) -/
def execDataFetchDone (tag : Nat) (data : Option Bytes) (s : State) : Res :=
  onUnit s (decide (tag < 65536)) (match s.ware tag with
    | none => s
    | some w =>
      when_ (w.phase == .arriving && decide (0 < w.dataLeft) && s.fetchTurn w.kiln tag) (fun s =>
        match (w.allSteps.filterMap fun u => (Ware.dataSpan u).map fun x => (u.index, x)).drop w.data.length with
        | [] => s
        | (i, a, n) :: _ =>
          if s.readHeld w.fn a then s
          else
          let s := s.dropFetch w.kiln tag
          match data with
          | some bs => (s.modWare tag fun w => { w with data := w.data ++ [padTo n bs] }).nextData tag
          | none => (s.failWare tag St.EXT_FETCH_FAILED i).violation w.fn violExtFetch) s)

end Sys2Proof.Machine
end

