-- ==== Sys2Proof/Machine/Setter.lean ====
section
/-! DEFINITION. The setter: classification (R84, R102, R103), dispatch (R105 to R107, R110), placement (R108, R109, R116, R120),
the replay lookup (R375, R376), originator counters (R187), policy epochs (R117 to R122) and snapshots (R123, R125). -/

namespace Sys2Proof.Machine

/-! ## The checks of R84 -/

/-- A code's state-changing property; for a graph, any bit of STATE_MASK (R194). (DESIGN CHOICE, log 31) -/
def wareChangesState (d : Bytes) : Bool :=
  if dGraph d then stateMask d ≠ 0 else (dirEntry (dCode d)).any (·.state)

/-- Check 3. -/
def flagsOk (d : Bytes) : Bool :=
  !(dFlag d 7) && field (dRoute d) 28 4 = 0 && leAt d 30 2 = 0 &&
  (!(dExtension d) || (slice d 74 54).all (· = 0)) && (!(dPanRouted d) || field (dKeyRef d) 16 16 = 0)

/-- Check 4. -/
def stepsOk (d : Bytes) : Bool :=
  if dGraph d then decide (2 ≤ dSteps d ∧ dSteps d ≤ 16) && dExtension d else dSteps d = 0

/-- Check 5. -/
def codeOk (d : Bytes) : Bool :=
  match dirEntry (dCode d) with
  | none => false
  | some e => dGraph d || e.single

/-- Check 8 (R81 to R83, R538, R539). (DESIGN CHOICE, log 27) -/
def lengthsOk (d : Bytes) : Bool :=
  let buffer := hostRange (dResPtr d) (dResLen d) && (dResLen d ≠ 0 || dResPtr d = 0)
  (if dGraph d then buffer
   else match resultSize (dCode d) (dParams d) with
     | .inline => true
     | .buffer n => decide (n ≤ dResLen d) && buffer
     | .fromData => dResLen d ≠ 0 && buffer) &&
  (!(dExtension d) || (decide (1 ≤ dExtLen d ∧ dExtLen d ≤ 384) && dExtPtr d % 64 = 0 && hostRange (dExtPtr d) (dExtLen d))) &&
  (!(dBlobFlag d) || hostRange (dBlobPtr d) 64)

/-- INLINE as the setter can know it (R540). -/
def inlineOf (d : Bytes) : Bool :=
  if dGraph d || (dirEntry (dCode d)).isNone then true
  else match resultSize (dCode d) (dParams d) with
    | .inline => true
    | _ => false

namespace State

/-- Check 2: the table of R89, with the drain of step 2 of R355 and the refusal of R385. -/
def modeCheck (s : State) (g : Nat) (changes : Bool) : Option Nat :=
  match s.sys.mode with
  | .drain => some St.DRAINING
  | .standby => some St.STANDBY_MODULE
  | .service =>
    if (s.saggar g).drained || (s.saggar g).state == .erasing || s.cus.cer.step = 1 then some St.DRAINING
    else if !changes then none
    else if s.mir.switchback.isSome then some St.NO_LEASE
    else if s.paired && !s.mir.lease then some St.NO_LEASE
    else if !(s.continues g) && !(s.paired && s.mirrored) then some St.UNMIRRORED_STRICT
    else none
  | _ => some St.NOT_SERVICE

/-- Check 10: the routing entry's key set, policy set and PAN, or the status (R246, R255). -/
def routeOf (s : State) (g : Nat) (w : Ware) : Except Nat (Bytes × Nat × Nat × List Nat) :=
  match (if (s.bank 8).fenced then none else panSpan w.desc) with
  | none => .error St.NO_ROUTE
  | some (o, n) =>
    let bytes := if dExtension w.desc then (w.panRead.getD none).map (padTo n) else some (slice (dInline w.desc) o n)
    match bytes with
    | none => .error St.EXT_FETCH_FAILED
    | some bs =>
      match panParse (panLenOf w.desc) bs with
      | none => .error St.NO_ROUTE
      | some digits =>
        match s.routeEntry g digits with
        | none => .error St.NO_ROUTE
        | some e =>
          let set := s.keySet (reKset e)
          let h := roleOf set (panRoleOf w.desc)
          if h = 0 then .error St.ROUTE_NO_KEY else .ok (set, rePset e, h, digits)

/-- The PAN of a routed ware is malformed (R246). -/
def panMalformed (w : Ware) : Bool :=
  match panSpan w.desc with
  | none => true
  | some (o, n) =>
    let bytes := if dExtension w.desc then (w.panRead.getD none).map (padTo n) else some (slice (dInline w.desc) o n)
    match bytes with
    | none => false
    | some bs => (panParse (panLenOf w.desc) bs).isNone

/-- The saggar of a ware: its function's, or the one on whose behalf Kazkel submits it (R84, R223). -/
def boundOf (s : State) (w : Ware) : Option Nat := if w.ceremony then some w.saggar else (s.fn w.fn).bound

/-- Checks 1 to 9; only ceremony firings run in CEREMONY (R223, R465). -/
def earlyChecks (s : State) (w : Ware) : Option Nat :=
  let d := w.desc
  match s.boundOf w with
  | none => some St.FUNCTION_UNBOUND
  | some g =>
    if (s.saggar g).state == .none then some St.FUNCTION_UNBOUND
    else firstOf [
      (if w.ceremony then need (s.sys.mode == .ceremony) St.NOT_SERVICE else s.modeCheck g (dStateChanging d)),
      need (flagsOk d) St.BAD_FLAGS,
      need (stepsOk d) St.BAD_STEP_COUNT,
      need (codeOk d) St.BAD_FIRING_CODE,
      need (dStateChanging d == wareChangesState d) St.STATE_FLAG_MISMATCH,
      need (!(dStateChanging d) || dReplay d ≠ 0) St.REPLAY_ID_ZERO,
      need (lengthsOk d) St.BAD_LENGTH,
      need ((polGroups (s.policyOf g)).testBit (dGroup d)) St.BAD_GROUP]

/-- A ware refused by the setter waits for its place in its flow (R84, R91). -/
def refuse (s : State) (tag status : Nat) : State :=
  s.modWare tag fun w => { w with phase := .refused, status := status, step := stepRefused, result := [] }

/-- The cost of a ware (R102, R160, R194). -/
def costOf (s : State) (d : Bytes) : Nat :=
  let cost := fun z => s.setter.costs.getD z 0
  if dGraph d then ((List.range (dSteps d)).map fun i => cost (shapeNibble d i)).sum
  else cost ((sizeClass (dCode d) (dParams d)).getD 0)

def pushQueue (s : State) (tag : Nat) (w : Ware) : State :=
  s.modSetter fun t => { t with queues := mmod [] t.queues (64 * w.cls + w.group) (· ++ [tag]) }

/-- A ware that passed checks 1 to 10: check 11, then the items of R102 and R103. -/
def admitWare (s : State) (tag g : Nat) (w : Ware) : State :=
  let pol := (s.saggar g).pol.record w.pset
  if !(polAdmits pol (dCode w.desc) (s.privileged w.fn g)) then s.refuse tag St.POLICY_FUNCTION
  else
    let asked := if dPrioOverride w.desc then dClass w.desc else (s.ring w.fn w.ring).prio
    let ceiling := polCeiling (s.policyOf g)
    let s := when_ (decide (asked < ceiling)) (fun s => s.modSaggar g fun x => { x with demoted := satInc x.demoted }) s
    let w := { w with phase := .queued, cls := max asked ceiling, group := dGroup w.desc, cost := s.costOf w.desc }
    (s.setWare tag (some w)).pushQueue tag w

/-- Classification of one ware (R102). (DESIGN CHOICE, log 31) -/
def classify (s : State) (tag : Nat) (w : Ware) : State :=
  let g := (s.boundOf w).getD 256
  let w := { w with saggar := g, inline := inlineOf w.desc, handle := field (dKeyRef w.desc) 0 22 }
  let s := s.setWare tag (some w)
  match s.earlyChecks w with
  | some st => s.refuse tag st
  | none =>
    if !(dPanRouted w.desc) then s.admitWare tag g w
    else match s.routeOf g w with
      | .error st =>
        let s := s.modRouting fun r =>
          { r with
            noRoute := if st = St.NO_ROUTE then satInc r.noRoute else r.noRoute,
            malformed := if st = St.NO_ROUTE && panMalformed w then satInc r.malformed else r.malformed,
            routed := if st = St.ROUTE_NO_KEY then satInc r.routed else r.routed }
        s.refuse tag st
      | .ok (set, pset, h, digits) =>
        let s := s.modRouting fun r => { r with routed := satInc r.routed }
        s.admitWare tag g { w with keySet := set, pset := pset, handle := h, routedPan := some digits }

/-! ## Kilns as the setter sees them (R108, R109) -/

/-- R108, as SET_KLN_n_LOAD.ELIGIBLE shows it. -/
def eligible (s : State) (k : Nat) : Bool :=
  let kl := s.kiln k
  kl.state == .inService && !kl.hold && decide (kl.queue.length < s.setter.kqLimit) && !(s.bank 1).fenced

def allKilns : List Nat := List.range Config.kilnCount

def eligibleKilns (s : State) : List Nat := allKilns.filter s.eligible

/-- SET_KLN_n_LOAD.FIRING: wares held by an engine. -/
def firingCount (s : State) (k : Nat) : Nat := (s.heldIn k).length

def loadOf (s : State) (k : Nat) : Nat := (s.kiln k).queue.length + s.firingCount k

/-- The home set: the first SIZE in-service kilns at or after BASE, wrapping (R109). -/
def homeSet (s : State) (g : Nat) : List Nat :=
  let p := s.policyOf g
  (((List.range 68).map fun i => (polHomeBase p + i) % 68).filter fun k => (s.kiln k).state == .inService).take (polHomeSize p)

/-- The kiln holds the key in a hot slot. -/
def warm (s : State) (k g h : Nat) : Bool := (s.kiln k).slots.any fun t => t.saggar = g && t.key.handle = h && !t.doomed

/-- The first of the least loaded candidates at or after the pointer (R109). -/
def leastLoaded (s : State) (ks : List Nat) : Option Nat :=
  let least := (ks.map s.loadOf).foldl min 1000000
  ((List.range 68).map fun i => (s.setter.placePtr + i) % 68).find? fun k => ks.contains k && s.loadOf k = least

/-- R109. -/
def choosePlace (s : State) (w : Ware) : Option Nat :=
  let el := s.eligibleKilns
  let least := (el.map s.loadOf).foldl min 1000000
  let near := el.filter fun k => decide (s.loadOf k ≤ least + s.setter.slack.toNat)
  match s.leastLoaded (near.filter fun k => s.warm k w.saggar w.handle) with
  | some k => some k
  | none => match s.leastLoaded (near.filter fun k => (s.homeSet w.saggar).contains k) with
    | some k => some k
    | none => s.leastLoaded el

/-- A ware is firing: an engine has it, or holds it suspended. -/
def isFiring (w : Ware) : Bool := w.phase == .preparing || w.phase == .firing || w.phase == .suspended

/-- R120: an earlier ware of the same flow still fires under the epoch before. (DESIGN CHOICE, log 35) -/
def flowBarred (s : State) (w : Ware) : Bool :=
  match w.flow with
  | none => false
  | some f => !(s.tagsWhere fun x => x.fn = w.fn && x.flow = some f && decide (x.seq < w.seq) && isFiring x &&
      decide (x.epoch ≠ (s.saggar w.saggar).epoch)).isEmpty

/-- The setter keeps the ware until the firing that bars it has ended (R120). -/
def kept (s : State) (tag : Nat) : Bool := (s.ware tag).any s.flowBarred

/-! ## Placement (R109, R116, R118, R187, R375, R376) -/

/-- The next counter above `n` with at most 16 one-bits (R187); none when the 32-bit space is exhausted. -/
def nextKsn : Nat → Nat → Option Nat
  | 0, _ => none
  | fuel + 1, c =>
    if 2 ^ 32 ≤ c then none
    else if popCount c 32 ≤ 16 then some c
    else nextKsn fuel (c + (c &&& (2 ^ 32 - c)))

/-- The originator's allocation ceiling in NOR flash, in steps of 4,096 counters (R382). -/
def raiseCeiling (s : State) (g serial c : Nat) : State :=
  s.modMir fun m =>
    let cur := ((m.ceilings.find? fun e => e.1 == (g, serial)).map (·.2)).getD 0
    if c < cur then m
    else { m with ceilings := ((g, serial), (c / 4096 + 1) * 4096) :: m.ceilings.filter fun e => e.1 != (g, serial) }

/-- The next counter of one enrolled initial key, recorded in the ware's entry; no counter where none remains (R187). -/
def takeCounter (s : State) (tag : Nat) (w : Ware) (o : Originator) : State :=
  match nextKsn 40 (o.allocated + 1) with
  | none => s.modWare tag fun w => { w with counter := 0, counterOf := o.serial }
  | some c =>
    let s := s.modSaggar w.saggar fun g => { g with origs := g.origs.map fun x => if x = o then { x with allocated := c } else x }
    (s.raiseCeiling w.saggar o.serial c).modWare tag fun w => { w with counter := c, counterOf := o.serial }

/-- The enrolment of the initial key that a handle names at placement: by the serial of the resident key, or the only one known of the
handle. (DESIGN CHOICE, log 133) -/
def originOf (s : State) (g h : Nat) : Option Originator :=
  let serial := match s.cache h with
    | some e => if e.owner = g then some e.key.serial else none
    | none => none
  (s.saggar g).origs.find? fun o => o.handle = h && serial.all fun n => o.serial = n

/-- R187: the counter of a 0x0410 ware, recorded in its entry. -/
def allocateCounter (s : State) (tag : Nat) (w : Ware) : State :=
  if dCode w.desc ≠ 0x0410 || w.counter ≠ 0 then s
  else match s.originOf w.saggar w.handle with
    | none => s
    | some o => s.takeCounter tag w o

/-- The replay window holds 2,097,152 entries (R372). -/
def replayRoom (s : State) : Bool := decide (s.mir.replay.length < 2097152)

/-- Stamps the epoch and puts the ware into a kiln: its shelf lines there carry its saggar's owner tag (R116, R143). -/
def placeIn (s : State) (tag k : Nat) (w : Ware) : State :=
  let s := s.allocateCounter tag w
  let s := s.modWare tag fun w => { w with kiln := k, epoch := (s.saggar w.saggar).epoch, lineTag := some w.saggar }
  let s := s.modKiln k fun kl => { kl with queue := kl.queue ++ [tag] }
  let s := s.modSetter fun t => { t with placePtr := (t.placePtr + 1) % 68 }
  s.enterKiln tag

/-- A replayed ware ends with the stored outcome (R376). -/
def replayed (s : State) (tag : Nat) (e : ReplayEntry) : State :=
  s.modWare tag fun w =>
    { w with phase := .ended, status := e.status, step := e.step, result := e.result, inline := e.inline,
             unmirrored := e.unmirrored, relearned := false, replayed := true, attachedTo := none, staged := false }

/-- The replay lookup, then the kiln (R375, R376). -/
def lookupPlace (s : State) (tag k : Nat) (w : Ware) : State :=
  if !(dStateChanging w.desc) then s.placeIn tag k w
  else match s.replayOf w.saggar (dReplay w.desc) with
    | none =>
      if s.replayRoom then
        (s.setReplay w.saggar (dReplay w.desc)
          (some { code := dCode w.desc, digest := replayDigest w.desc, owner := tag, inline := w.inline })).placeIn tag k w
      else s.refuse tag St.REPLAY_WINDOW_FULL
    | some e =>
      if !e.complete && e.owner = tag then s.placeIn tag k w
      else if e.digest ≠ replayDigest w.desc then s.refuse tag St.BAD_PARAMETER
      else if e.complete then s.replayed tag e
      else
        (s.setReplay w.saggar (dReplay w.desc) (some { e with attached := e.attached ++ [tag] })).modWare tag fun w =>
          { w with phase := .attached, attachedTo := some e.owner }

/-- R118: checks 5, 6 and 11 again for a returned ware under a new epoch. -/
def recheck (s : State) (w : Ware) : Option Nat :=
  if w.epoch = (s.saggar w.saggar).epoch then none
  else firstOf [need (codeOk w.desc) St.BAD_FIRING_CODE,
    need (dStateChanging w.desc == wareChangesState w.desc) St.STATE_FLAG_MISMATCH,
    need (polAdmits ((s.saggar w.saggar).pol.record w.pset) (dCode w.desc) (s.privileged w.fn w.saggar)) St.POLICY_FUNCTION]

/-- Places a dispatched or returned ware. -/
def place (s : State) (tag : Nat) : State :=
  match s.ware tag with
  | none => s
  | some w =>
    match s.choosePlace w with
    | none => s
    | some k =>
      let again := w.phase == .returned && w.placed.isSome
      match (if again then s.recheck w else none) with
      | some st => (s.refuse tag st).handOver tag
      | none =>
        let s := if w.placed.isSome then s else
          (s.modWare tag fun w => { w with placed := some s.setter.nextPlaced }).modSetter fun t =>
            { t with nextPlaced := t.nextPlaced + 1 }
        s.lookupPlace tag k w

/-! ## Dispatch (R105 to R107, R110) -/

def queueOf (t : Setter) (c g : Nat) : List Nat := mget [] t.queues (64 * c + g)

def weightOf (t : Setter) (g : Nat) : Nat := mget 1 t.weights g

/-- The wares of a queue that the setter does not keep under R120, head first. -/
def openQueue (kept : Nat → Bool) (t : Setter) (c g : Nat) : List Nat := (queueOf t c g).filter fun x => !(kept x)

/-- The next group of the class with a queue that is not empty, after `g`, wrapping (R106). -/
def nextGroup (kept : Nat → Bool) (t : Setter) (c g : Nat) : Option Nat :=
  ((List.range 64).map fun i => (g + 1 + i) % 64).find? fun x => !(openQueue kept t c x).isEmpty

def setVisit (t : Setter) (c : Nat) (v : Visit) : Setter := { t with visits := t.visits.set c v }

/-- Runs the visits of class `c` until a head ware may be dispatched: the setter with that visit open (R106, R107). A ware `kept`
under R120 stands aside. -/
def runVisits (kept : Nat → Bool) (cost : Nat → Nat) (c : Nat) : Nat → Setter → Setter × Option Nat
  | 0, t => (t, none)
  | fuel + 1, t =>
    let v := t.visits.getD c {}
    match (if v.active then (openQueue kept t c v.group).head? else none) with
    | some tag =>
      if cost tag ≤ mget 0 t.deficits (64 * c + v.group) then (t, some tag)
      else runVisits kept cost c fuel (setVisit t c { v with active := false })
    | none =>
      match nextGroup kept t c v.group with
      | none => (t, none)
      | some g =>
        let t := { t with deficits := mmod 0 t.deficits (64 * c + g) (· + weightOf t g * t.quantum.toNat) }
        runVisits kept cost c fuel (setVisit t c { group := g, active := true })

def costIn (s : State) (tag : Nat) : Nat := match s.ware tag with
  | some w => w.cost
  | none => 0

/-- The dispatch of the head ware of the open visit (R106 step 3). -/
def takeHead (s : State) (c tag : Nat) : State :=
  s.modSetter fun t =>
    let v := t.visits.getD c {}
    let key := 64 * c + v.group
    let q := (queueOf t c v.group).filter (· ≠ tag)
    let t := { t with
      queues := mset [] t.queues key q,
      deficits := mset 0 t.deficits key (if q.isEmpty then 0 else mget 0 t.deficits key - s.costIn tag),
      live := mmod {} t.live v.group fun f => { f with disp := satInc f.disp } }
    setVisit t c { v with active := !q.isEmpty }

/-- The ware of class `c` returned from a kiln that was placed first, of those not kept under R120 (R110). (DESIGN CHOICE, log 35) -/
def oldestReturned (s : State) (c : Nat) : Option Nat :=
  let rs := s.tagsWhere fun w => w.phase == .returned && w.cls = c && !(s.flowBarred w)
  let key : Nat → Nat := fun t => match s.ware t with
    | some w => w.placed.getD 0
    | none => 0
  rs.foldl (fun b t => match b with
    | none => some t
    | some x => if key t < key x then some t else some x) none

/-- The largest number of visits before a head ware's cost is reached: 65,520 rounds of 64 groups, each opened and closed (R107). -/
def visitFuel : Nat := 65522 * 64 * 2

/-- Dispatches from the lowest-numbered class that has a dispatchable ware (R105): whether a kiln is eligible does not depend on the
ware (R108). A ware kept under R120 is no candidate, and bars no other. (DESIGN CHOICE, log 35) -/
def dispatchFrom (s : State) : List Nat → State
  | [] => s
  | c :: rest =>
    if s.eligibleKilns.isEmpty then s
    else match s.oldestReturned c with
      | some tag => s.place tag
      | none =>
        let r := runVisits s.kept s.costIn c visitFuel s.setter
        let s' := s.modSetter fun _ => r.1
        match r.2 with
        | none => s'.dispatchFrom rest
        | some tag => (s'.takeHead c tag).place tag

/-! ## Policy epochs (R116 to R122) -/

/-- MIXED and BUSY fall when the last kiln has confirmed and the last firing under the old epoch has ended (R117 steps 5, 6). (DESIGN CHOICE, log 39) -/
def settleEpoch (s : State) (g : Nat) : State :=
  let x := s.saggar g
  if !x.busy then s
  else
    let mixed := !x.awaiting.isEmpty
    let old := !(s.tagsWhere fun w => w.saggar = g && isFiring w && decide (w.epoch ≠ x.epoch)).isEmpty
    if mixed || old then s.modSaggar g fun x => { x with mixed := mixed }
    else s.modSaggar g fun x => { x with mixed := false, busy := false, polOld := x.pol, glazeFrom := none }

/-- Every saggar that has a state. -/
def listedSaggars (s : State) : List Nat := s.keys.saggars.map (·.1)

def settleEpochs (s : State) : State := forEach s.listedSaggars (fun g s => s.settleEpoch g) s

/-- R117 step 1: the epoch advances with a new policy; `before`: the glaze level before, for a change of it (R434). (DESIGN CHOICE, log 39) -/
def beginEpoch (s : State) (g : Nat) (f : PolicyView → PolicyView) (before : Option (BitVec 16)) : State :=
  let kilns := allKilns.filter fun k => (s.kiln k).state == .inService || (s.kiln k).state == .draining
  let s := s.modSaggar g fun x =>
    { x with epoch := x.epoch + 1, busy := true, mixed := true, polOld := x.pol, pol := f x.pol, awaiting := kilns, glazeFrom := before }
  (s.saggarRecord g 0x0302 (leBytes (s.saggar g).epoch.toNat 2 ++ [byte (b2n before.isSome)])).settleEpoch g

/-- A kiln has confirmed every notice it was sent; HOLD clears with the last (R119). -/
def confirmEpoch (s : State) (g k : Nat) : State :=
  let s := s.modSaggar g fun x => { x with awaiting := x.awaiting.filter (· ≠ k) }
  let waits := s.listedSaggars.any fun i => (s.saggar i).awaiting.contains k
  let s := when_ (!waits) (fun s => s.modKiln k fun kl => { kl with hold := false }) s
  s.settleEpoch g

/-- A kiln that holds no ware any more has confirmed every notice (R122). -/
def confirmAll (s : State) (k : Nat) : State := forEach s.listedSaggars (fun g s => s.confirmEpoch g k) s

/-- Wares of a kiln whose firing has not started: a ware that an engine still prepares is one of them. (DESIGN CHOICE, log 31) -/
def notStarted (s : State) (k : Nat) (p : Ware → Bool) : List Nat :=
  s.tagsWhere fun w => w.kiln = k && w.placed.isSome && (w.phase.queuedInKiln || w.phase == .preparing) && p w

end State

/-! ## The commands -/

/-- Classification of a stamped ware, in ring order (R84, R90, R102). -/
def execWareClassify (tag : Nat) (s : State) : Res :=
  onUnit s (decide (tag < 65536)) (match s.ware tag with
    | none => s
    | some w =>
      when_ (w.phase == .stamped && w.panRead.isSome &&
          (s.tagsWhere fun x => x.phase == .stamped && x.fn = w.fn && x.ring = w.ring && decide (x.seq < w.seq)).isEmpty)
        (fun s => s.classify tag w) s)

/-- The setter chooses the next ware to place (R105 to R110). -/
def execDispatch (s : State) : Res := onUnit s true (s.dispatchFrom [0, 1, 2, 3])

/-- A change of policy or, for no saggar, of glaze level: EPOCH advances (R117 step 1). The level that every in-service kiln holds
in a valid bank comes into force (R133); a draining kiln counts with them, since its drain may be abandoned. -/
def execEpochChange (saggar : Option Nat) (s : State) : Res :=
  match saggar with
  | some g => onUnit s (decide (g < 256)) (when_ ((s.saggar g).state == .active && !(s.saggar g).busy && s.mir.controls.isEmpty)
      (fun s => s.beginEpoch g id none) s)
  | none =>
    onUnit s true (match s.fw.glazeNext with
      | none => s
      | some lvl =>
        let holds := fun (b : Bank) => b.valid && b.level = lvl
        let ready := State.allKilns.all fun k =>
          !((s.kiln k).state == .inService || (s.kiln k).state == .draining) || holds (s.kiln k).bankA || holds (s.kiln k).bankB
        when_ (ready && s.mir.controls.isEmpty && s.listedSaggars.all fun g => !(s.saggar g).busy) (fun s =>
          let before := s.fw.glazeLevel
          let trial := fun (x : Image) => { x with state := .trial, attempts := 0 : Image }
          let s := s.modFw fun f =>
            { f with glazeLevel := lvl, glazeNext := none,
                     glaze := if f.glazeNextB then { f.glaze with b := trial f.glaze.b } else { f.glaze with a := trial f.glaze.a } }
          let s := s.modSetter fun t => { t with costs := (List.range 16).map shapeCost }
          forEach (s.listedSaggars.filter fun g => (s.saggar g).state != .none) (fun g s => s.beginEpoch g id (some before)) s) s)

/-- A kiln returns the saggar's wares of the old epoch that have not started, and confirms (R117 steps 3 and 4). -/
def State.takeNotice (s : State) (saggar kiln : Nat) : State :=
  let old := s.notStarted kiln fun w => w.saggar = saggar && decide (w.epoch ≠ (s.saggar saggar).epoch)
  (forEach old (fun t s => s.returnWare t) s).confirmEpoch saggar kiln

/-- The saggars that a kiln's notice of saggar `g` covers: a glaze level change has one notice per kiln for all (R117). -/
def State.noticed (s : State) (g kiln : Nat) : List Nat :=
  if (s.saggar g).glazeFrom.isSome then
    s.listedSaggars.filter fun i => (s.saggar i).glazeFrom.isSome && (s.saggar i).awaiting.contains kiln
  else [g]

/-- A kiln's notice (R117 steps 2 to 4). -/
def execEpochNotice (saggar kiln : Nat) (s : State) : Res :=
  onUnit s (decide (saggar < 256 ∧ kiln < 68)) (when_ ((s.saggar saggar).awaiting.contains kiln)
    (fun s => forEach (s.noticed saggar kiln) (fun g s => s.takeNotice g kiln) s) s)

/-- 1 ms without a confirmation: HOLD (R119). -/
def execEpochConfirmTimeout (saggar kiln : Nat) (s : State) : Res :=
  onUnit s (decide (saggar < 256 ∧ kiln < 68)) (when_ ((s.saggar saggar).awaiting.contains kiln) (fun s =>
    s.modKiln kiln fun k => { k with hold := true }) s)

/-- The snapshot of R125: DEPTH counts wares classified and not yet started (R123). -/
def State.figuresNow (s : State) : SMap GroupFig :=
  let waiting := (s.setter.wares.filterMap (·.2)).filter fun w =>
    !w.started && (w.phase == .queued || w.phase == .returned || w.phase == .preparing || w.phase == .attached ||
      w.phase.queuedInKiln)
  (List.range 64).foldl (fun m g =>
    let f := mget {} s.setter.live g
    let depth := (List.range 4).map fun c => (waiting.filter fun w => w.group = g && w.cls = c).length
    mset {} m g { f with depth := depth }) []

/-- A write of 1 to SET_SNAP_CTL.TAKE (R125). -/
def State.takeSnapshot (s : State) : State :=
  when_ s.setter.snapDone (fun s =>
    let f := s.figuresNow
    s.modSetter fun t => { t with snapDone := false, snapshot := f }) s

/-- A PF writes SET_SNAP_CTL.TAKE. -/
def execSnapshotTake (fn : Nat) (s : State) : Res :=
  onUnit s (decide (fn < 1024)) (s.globalWrite fn State.takeSnapshot)

/-- The copy is complete (R125). -/
def execSnapshotDone (s : State) : Res :=
  onUnit s true (when_ (!s.setter.snapDone) (fun s =>
    s.modSetter fun t => { t with snapDone := true, snapSeq := t.snapSeq + 1 }) s)

/-- The 1 s window of the attempt budgets begins again (R177). -/
def execAttemptWindowReset (s : State) : Res :=
  onUnit s true (s.modKeys fun k => { k with saggars := mmap {} (fun _ g => { g with attempts := 0 }) k.saggars })

end Sys2Proof.Machine
end

