-- ==== Sys2Proof/Machine/Replicate.lean ====
section
/-! DEFINITION. Delta groups (R368, R371), the rule for a change that must be replicated first (R229, R328, R370, R377, R378), and
the automatic advance of a blob epoch (R231). -/

namespace Sys2Proof.Machine

/-- How a change that must be replicated proceeds (R377). -/
inductive Replication where
  /-- at once: nothing to replicate to, and the policy continues -/
  | now
  /-- after the acknowledgement of its CONTROL group -/
  | wait
  /-- refused: UNMIRRORED -/
  | refused
  deriving DecidableEq, Repr

namespace State

/-- A delta group takes the next SEQ; a paired module keeps it in the delta log (R368, R370). (DESIGN CHOICE, log 55) -/
def logGroup (s : State) (tag : Option Nat) (ds : List Delta) : State :=
  s.modMir fun m =>
    { m with seq := m.seq + 1, dlog := if m.pair.isSome then m.dlog ++ [{ seq := m.seq + 1, tag := tag, deltas := ds }] else m.dlog }

/-! ## The link as every part sees it (R367, R386, R388) -/

/-- The bits of MIR_IRQ (R388). -/
abbrev mirLinkDown : Nat := 0
abbrev mirMirrored : Nat := 1
abbrev mirLeaseLost : Nat := 2
abbrev mirLeaseBack : Nat := 3
abbrev mirPromoted : Nat := 4
abbrev mirDemoted : Nat := 5
abbrev mirGenRaised : Nat := 6
abbrev mirPeerViol : Nat := 7
abbrev mirWitViol : Nat := 8

/-- A bit of MIR_IRQ; its rise raises vector 19 (R56). -/
def mirIrq (s : State) (bit : Nat) : State :=
  if s.mir.irq.getLsbD bit then s else (s.modMir fun m => { m with irq := setBit m.irq bit }).raiseDevice 19

/-- An event of the mirror or the witness, with its MIRROR record (R434). -/
def mirEvent (s : State) (bit : Nat) : State :=
  (s.kazkelRecord 0x0601 ([byte bit, byte (linkCode s.mir.link), 0, 0] ++ leBytes s.mir.term.toNat 4)).mirIrq bit

/-- A violation of R386 by the peer (field 0 BADTAG, 1 ORDER, 2 NACK, 3 PEER) or the witness (0 BADMAC, 1 OLDSEQ, 2 STRAY,
3 REFUSED): its count, its record and its bit. (DESIGN CHOICE, log 94) -/
def partnerViol (s : State) (witness : Bool) (i : Nat) : State :=
  let up := fun (j : Nat) (x : BitVec 8) => if i = j then satInc x else x
  let s := if witness then
      s.modMir fun m => { m with badMac := up 0 m.badMac, oldSeq := up 1 m.oldSeq, stray := up 2 m.stray, refusedErr := up 3 m.refusedErr }
    else
      s.modMir fun m =>
        { m with badTag := up 0 m.badTag, order := up 1 m.order, nack := up 2 m.nack, peerErr := up 3 m.peerErr, lossOnly := false }
  (s.kazkelRecord 0x0602 [byte (b2n witness), byte i]).mirIrq (if witness then mirWitViol else mirPeerViol)

/-- LINK goes to DOWN, or stays UNPAIRED: the session keys are dropped (R366, R367). `loss`: only frames were lost (R382). -/
def linkDown (s : State) (loss : Bool) : State :=
  let was := s.mir.link
  let s := s.modMir fun m =>
    { m with
      link := if m.link == .unpaired then .unpaired else .down, lanes := 0, session := [], nonceOwn := [], noncePeer := [],
      fcountTx := 0, fcountRx := 0, resyncFull := false, resyncSource := false, resyncAsked := false, snapSeen := [],
      pairing := {},
      lossOnly := if m.link == .mirrored then loss else m.lossOnly && loss }
  if was == .mirrored then s.mirEvent mirLinkDown else s

/-- A MIRROR reset (R367). -/
def mirrorReset (s : State) : State := s.linkDown false

/-- LINK enters MIRRORED (R367, R378). -/
def linkMirrored (s : State) : State :=
  (s.modMir fun m =>
    { m with
      link := .mirrored, genRaised := false, genGranted := false, resyncFull := false, resyncSource := false, resyncAsked := false,
      snapSeen := [], peerBoot := if m.resyncSource then m.askBoot else none }).mirEvent mirMirrored

/-- GEN rises once between two periods of MIRRORED, before anything goes unacknowledged (R378). -/
def raiseGen (s : State) : State :=
  if s.paired && !s.mirrored && !s.mir.genRaised then
    (s.modMir fun m => { m with gen := m.gen + 1, genRaised := true, genGranted := false }).mirEvent mirGenRaised
  else s

/-- A release or a change may go without acknowledgement now: an unpaired module, or the GRANT of R378 has come. -/
def unmirroredGo (s : State) : Bool := !s.paired || s.mir.genGranted

/-- How a replicated change of saggar `sag` (none: a device matter) proceeds now (R377); an unpaired module applies it at once under
either policy (R325, R361). -/
def replication (s : State) (sag : Option Nat) : Replication :=
  if s.mirrored then .wait
  else if !s.paired then .now
  else match sag with
    | none => .now
    | some g => if s.continues g then .now else .refused

/-- Sends a CONTROL group and waits for its acknowledgement (R370). -/
def sendControl (s : State) (code : Nat) (payload : Bytes) (c : Control) : State :=
  let s := s.logGroup none [.control code payload]
  s.modMir fun m => { m with controls := m.controls ++ [(m.seq, c)] }

/-- A change applied unmirrored on a paired module stays in the delta log, for resynchronisation (R377). -/
def noteControl (s : State) (code : Nat) (payload : Bytes) : State :=
  if s.paired then s.logGroup none [.control code payload] else s

/-- CODE of the CONTROL delta of an automatic advance: the spec gives it no mailbox command (DESIGN CHOICE, log 20). -/
abbrev autoAdvanceCode : Nat := 0xFFFF

/-! ## Blob epochs (R229, R231) -/

/-- CURRENT + 1, as a policy change; the wrap count starts again. -/
def advanceBepoch (s : State) (g : Nat) : State :=
  (s.beginEpoch g (fun v => { v with bepochs := { v.bepochs with current := v.bepochs.current + 1 } }) none).modSaggar g fun x =>
    { x with wraps := 0 }

/-- R231: the advance itself, with its record. (DESIGN CHOICE, log 49) -/
def autoAdvance (s : State) (g : Nat) : State :=
  if (s.saggar g).busy || decide (4 ≤ (s.saggar g).pol.bepochs.size) then s
  else
    let s := s.advanceBepoch g
    s.saggarRecord g 0x0403 (leBytes (s.saggar g).pol.bepochs.current.toNat 2)

/-- A wrap under CURRENT is counted; from 2^30 on Kazkel advances CURRENT if the range has room (R231). A wrap under the epoch before
counts no more. (DESIGN CHOICE, log 49) -/
def countWrap (s : State) (g : Nat) (under : BitVec 16) : State :=
  if under ≠ (s.saggar g).pol.bepochs.current then s else
  let s := s.modSaggar g fun x => { x with wraps := satInc x.wraps }
  let waiting := s.mir.controls.any fun c => c.2 == .advance g
  if decide ((s.saggar g).wraps.toNat < 2 ^ 30) || waiting || (s.saggar g).busy || decide (4 ≤ (s.saggar g).pol.bepochs.size) then s
  else match s.replication (some g) with
    | .wait => s.sendControl autoAdvanceCode [byte g] (.advance g)
    | .now =>
      let s := s.raiseGen
      if s.unmirroredGo then (s.noteControl autoAdvanceCode [byte g]).autoAdvance g else s
    | .refused => s

end State

end Sys2Proof.Machine
end

