-- ==== Sys2Proof/Machine/WheelOps.lean ====
section
/-! DEFINITION. Wheel operations as engine and wheel hand them over (R270 to R272): the operand descriptor, its rules, and the operands a
firing code puts into its page. -/

namespace Sys2Proof.Machine

/-! ## The operand descriptor (R270, R271) -/

/-- The wheel operation of a code (R270): on the NIST curves a key agreement is a scalar multiplication, and the pair generation of a
Montgomery-form key runs the ladder, of an Edwards-form key the Edwards multiplication. (DESIGN CHOICE, log 48) -/
def wopOf (code : Nat) (usage size : Nat) : Nat :=
  let nist := size = 256 || size = 384 || size = 521
  match code with
  | 0x0830 => 0x01
  | 0x0810 | 0x0813 => 0x02
  | 0x0811 | 0x0812 | 0x0802 => 0x03
  | 0x0801 => 0x04
  | 0x0820 => if nist then 0x10 else if usage = Us.K3 then 0x20 else 0x30
  | 0x0822 => 0x10
  | 0x0823 => 0x11
  | 0x0821 => 0x12
  | 0x0826 => if nist then 0x10 else 0x20
  | 0x0824 => 0x30
  | 0x0825 => 0x31
  | 0x0A01 | 0x0A02 | 0x0A03 | 0x0A04 => 0x40
  | _ => 0x48

/-- PSET (R270). -/
def psetOf (code : Nat) (usage size : Nat) : Nat :=
  if code = 0x0830 ∨ code / 16 = 0x080 ∨ code / 16 = 0x081 then 0x00
  else if size = 256 then 0x01 else if size = 384 then 0x02 else if size = 521 then 0x03
  else if size = 255 then (if usage = Us.K3 then 0x04 else 0x06)
  else if size = 448 then (if usage = Us.K3 then 0x05 else 0x07)
  else if size = 512 then 0x11 else if size = 768 then 0x12 else if size = 1024 then 0x13
  else if size = 44 then 0x21 else if size = 65 then 0x22 else 0x23

/-- A region entry: offset, two zero bytes, length; all zero where unused (R270). -/
def regionEntry (off len : Nat) : Bytes := if len = 0 then zeros 8 else leBytes off 2 ++ zeros 2 ++ leBytes len 4

def regionOff (d : Bytes) (at_ : Nat) : Nat := leAt d at_ 2
def regionLen (d : Bytes) (at_ : Nat) : Nat := leAt d (at_ + 4) 4

/-- The next offset that a region may take after `n` bytes at `off`. -/
def nextRegion (off n : Nat) : Nat := 64 * ceilDiv (off + n) 64

/-- Regions one after another from `off`: the entries and the offset after them. (DESIGN CHOICE, log 139) -/
def placeRegions : Nat → List Nat → List (Nat × Nat)
  | _, [] => []
  | off, n :: ns => (off, n) :: placeRegions (nextRegion off n) ns

/-- A region entry keeps the rules of R271: a multiple of 64, at least 64, within the page. -/
def regionOk (d : Bytes) (at_ : Nat) : Bool :=
  regionLen d at_ = 0 || (regionOff d at_ % 64 = 0 && decide (64 ≤ regionOff d at_ ∧ regionOff d at_ + regionLen d at_ ≤ 65536))

/-- OUT overlaps no input region (R271). -/
def outClear (d : Bytes) : Bool :=
  (List.range 4).all fun j =>
    let a := 16 + 8 * j
    regionLen d a = 0 || regionLen d 48 = 0 || decide (regionOff d 48 + regionLen d 48 ≤ regionOff d a) ||
      decide (regionOff d a + regionLen d a ≤ regionOff d 48)

/-- The rules of R270 and R271 on a descriptor: reserved bytes, KFLAGS, KEYEXT, and its regions. -/
def descOk (d : Bytes) : Bool :=
  d.length = 64 && decide (byteAt d 4 < 4) && (slice d 5 3 ++ slice d 56 8).all (· = 0) && (bitAt (byteAt d 4) 1 || leAt d 8 8 = 0) &&
  [16, 24, 32, 40, 48].all (regionOk d) && outClear d

/-! ## What a firing puts into its page -/

/-- The inputs that the engine writes to the page before the shape: public operands of the data region. What the glaze program computes
passes through the port between engine and wheel, and keys by the key fetch path (R271, R272). (DESIGN CHOICE, log 139) -/
def wheelInputs (i : FireIn) : List Bytes :=
  let d := dataOf i
  let k := selDdata i / 8
  match i.code with
  | 0x0830 => [d.take k, slice d k k, slice d (2 * k) (auxLen i)]
  | 0x0813 => [d.drop (auxLen i)]
  | 0x0811 => [d.take k]
  | 0x0821 => [d]
  | 0x0823 => [d.take (2 * fieldLen (selDdata i))]
  | 0x0825 => [d.take (sigLen Alg.EDW (selDdata i))]
  | 0x0826 => [d.take (peerLen i)]
  | 0x0A04 => [d]
  | 0x0A13 => [d.take (sigLen Alg.MLDSA (selDdata i))]
  | _ => []

/-- The longest result a code returns through OUT (R271, R274). -/
def outLen (i : FireIn) : Nat :=
  match resultSize i.code i.params with
  | .fromData => selDdata i / 8
  | .buffer n => max n (largestResult i 0)
  | .inline => match i.code with
    | 0x0830 | 0x0810 | 0x0812 => selDdata i / 8
    | _ => 0

/-- The key of a code reaches the wheel by the key fetch path, or from its key extension where its material takes more than 192 bytes
(R272): KFLAGS. -/
def keyFlags (i : FireIn) : Nat := if i.keyA.material.isEmpty then 0 else if 192 < i.keyA.material.length then 2 else 1

/-- The operand descriptor (R270): inputs from offset 64, OUT after them. -/
def opDesc (i : FireIn) (ext : Nat) : Bytes :=
  let u := attrUsage (if createsKey i.code && i.keyA.material.isEmpty then template i else i.keyA.attr)
  let ins := wheelInputs i
  let rs := placeRegions 64 (ins.map (·.length) ++ [outLen i])
  let entry := fun (j : Nat) => match rs[j]? with
    | some r => regionEntry r.1 r.2
    | none => zeros 8
  [byte (wopOf i.code u (selDdata i)), byte (psetOf i.code u (selDdata i))] ++ leBytes (if i.code / 256 = 0x0A then 0 else selDdata i) 2 ++
  [byte (keyFlags i)] ++ zeros 3 ++ leBytes (if keyFlags i = 2 then ext else 0) 8 ++
  ((List.range 4).flatMap fun j => if j < ins.length then entry j else zeros 8) ++ entry ins.length ++ zeros 8

namespace State

/-! ## The operand load (R271) -/

/-- Every line of `n` bytes at a store offset verifies under an owner tag. -/
def linesVerify (s : State) (owner a n : Nat) : Bool :=
  (List.range (ceilDiv (a % 64 + n) 64)).all fun k => s.verifies owner (a / 64 + k)

/-- Where the extension of a key lies (R261, R272). -/
def extAt (s : State) (h : Nat) : Option Nat := (s.cache h).bind (·.ext)

/-- The engine writes inputs and descriptor into the page. -/
def writeOperands (s : State) (g p : Nat) (d : Bytes) (ins : List Bytes) : State :=
  let s := (List.range ins.length).foldl (fun s j =>
    s.memWriteAll g (pageAddr p + regionOff d (16 + 8 * j)) (ins.getD j [])) s
  s.memWriteAll g (pageAddr p) d

/-- The operand DMA reads descriptor, inputs and any key extension into the scratch of wheel `m`, under the firing's owner tag: whether
the load passes the rules of R271. -/
def loadOperands (s : State) (g p m : Nat) (i : FireIn) : State × Bool :=
  let ext := s.extAt i.keyA.handle
  let d := opDesc i (ext.getD 0)
  let ins := wheelInputs i
  let s := s.writeOperands g p d ins
  let lines := s.linesVerify g (pageAddr p) 64 &&
    ((List.range ins.length).all fun j => s.linesVerify g (pageAddr p + regionOff d (16 + 8 * j)) (ins.getD j []).length) &&
    (keyFlags i ≠ 2 || ext.any fun o => s.linesVerify g o i.keyA.material.length)
  if descOk d && lines then
    (s.modWheel m fun x => { x with scratch := d ++ ins.flatten ++ i.keyA.material, lastWop := BitVec.ofNat 8 (byteAt d 0) }, true)
  else (s, false)

/-- The write-back after an operation that ended with a class 0x00 outcome: OUT of the page (R271). -/
def writeOut (s : State) (g p : Nat) (result : Bytes) : State :=
  let d := (List.range 64).map fun k => mget 0 s.mem (pageAddr p + k)
  s.memWriteAll g (pageAddr p + regionOff d 48) (result.take (regionLen d 48))

end State

end Sys2Proof.Machine
end

