-- ==== Sys2Proof/Machine/Engine.lean ====
section
/-! DEFINITION. Engines: taking a ware (R111 to R113), preparation (R22, R161 steps 3 to 8, R206, R228, R241, R267, R304, R308) and
the end of shapes (R135, R146, R208 to R210, R281). -/

namespace Sys2Proof.Machine

/-- Whether a preparation goes on after a part of it, or has ended, waits or gave the engine up. -/
inductive Prep where
  | go
  | halt
  deriving DecidableEq, Repr

/-- Lines of 64 bytes that a result takes in result staging (R145). (DESIGN CHOICE, log 141) -/
def stageLines (n : Nat) : Nat := ceilDiv n 64

/-- Result staging holds 32,768 lines (R154). -/
def stageRoom : Nat := 32768

namespace State

/-! ## Result staging (R145) -/

/-- KLN_n_STAGE.USED. -/
def stageUsed (s : State) (k : Nat) : Nat :=
  ((s.setter.wares.filterMap (·.2)).map fun w =>
    if w.kiln = k && w.staged && w.phase == .ended then stageLines w.result.length else 0).sum

/-- The largest result of a ware of the kiln's queue, in lines. -/
def largestQueued (s : State) (k : Nat) : Nat :=
  ((s.kiln k).queue.map fun t => match s.ware t with
    | some w => if w.stagedBound ≤ 16 then 0 else stageLines w.stagedBound
    | none => 0).foldl max 0

/-- KLN_n_STAT.STAGE_FULL. -/
def stageFull (s : State) (k : Nat) : Bool := decide (stageRoom - s.stageUsed k < s.largestQueued k)

/-! ## Endings -/

/-- The ware ends before its shape, or is ended by an abort; its engine is free and the epoch change it held up may go on. (DESIGN CHOICE, log 36) -/
def endFiring (s : State) (tag status step : Nat) : State :=
  match s.ware tag with
  | none => s
  | some w => (s.failWare tag status step).settleEpoch w.saggar

/-- A firing is aborted (R136 class 0x06, R288): the kiln's and the wheel's counts. -/
def abortFiring (s : State) (tag status : Nat) : State :=
  match s.ware tag with
  | none => s
  | some w =>
    let s := when_ (w.phase == .firing || w.phase == .suspended) (fun s =>
      let s := s.modKiln w.kiln fun k => { k with aborts := k.aborts + 1 }
      match w.wheel with
      | some m => s.modWheel m fun x => { x with scratch := [], aborts := x.aborts + 1 }
      | none => s) s
    s.endFiring tag status (if w.isGraph then w.graphStep else 0)

/-- A firing meets a source of its kiln's bank. -/
def faultDue (s : State) (k i tag : Nat) : State := s.modFlt fun f => { f with due := f.due ++ [(32 + k, i, tag)] }

/-- Its engine reads a line of the shelf under another owner tag than the line's: no data, ACCESS in the kiln's bank, and the firing ends
(R36, R143). -/
def foreignLine (s : State) (tag : Nat) (w : Ware) : State := (s.endFiring tag St.ACCESS_VIOLATION 0).faultDue w.kiln 0 tag

/-! ## Key lookup (R22, R157, R161 step 3, R197) -/

/-- Puts the key of field `j` of step `u`. -/
def setKey (s : State) (tag u j : Nat) (k : KeyVal) : State :=
  s.modWare tag fun w => { w with keys := mset none w.keys (3 * u + j) (some k) }

/-- The attributes a producing step gives the key of its cell (R201). -/
def cellKeyOf (s : State) (w : Ware) (u : StepIn) (c : Nat) : KeyVal :=
  match (w.allSteps.take u.index).find? fun x => seOutEn x.entry && seOutCell x.entry = c with
  | none => {}
  | some x =>
    if x.code = 0x0301 then { attr := (w.keyAt x.index 0).attr }
    else match (fireCode (s.fireIn w x)).bind (·.cellKey) with
      | some k => { attr := k.attr }
      | none => {}

/-- The lookup of a handle: hot key slots, key cache, then the blob of KEY_REF or of the anchor (R22, R265). -/
def lookupHandle (s : State) (tag : Nat) (w : Ware) (u : StepIn) (j h : Nat) (first : Bool) : State × Prep :=
  if !((s.saggar w.saggar).inRange h) then (s.endFiring tag St.KEY_HANDLE_INVALID u.index, .halt)
  else match s.slotHit w h with
    | some t => ((s.pinSlot tag t).setKey tag u.index j t.key, .go)
    | none => match s.cacheHit w h with
      | some _ =>
        (((s.modKeys fun k => { k with hit := satInc k.hit }).pinEntry tag h).modWare tag fun w =>
          { w with waits := .cacheFetch }, .halt)
      | none =>
        let s := s.modKeys fun k => { k with miss := satInc k.miss }
        if !(first && dBlobFlag w.desc) then (s.endFiring tag St.KEY_NOT_RESIDENT u.index, .halt)
        else if s.fetchOk w.fn then
          ((s.modWare tag fun w => { w with waits := .blobHeader }).startFetch tag w (dBlobPtr w.desc) 48, .halt)
        else (s.endFiring tag St.BLOB_FETCH_FAILED u.index, .halt)

/-- The lookup of one key field. -/
def lookupField (s : State) (tag : Nat) (w : Ware) (u : StepIn) (j : Nat) (r : KeyRef) : State × Prep :=
  match r with
  | .none => (s, .go)
  | .bad => (s.endFiring tag St.KEY_HANDLE_INVALID u.index, .halt)
  | .cell c => (s.setKey tag u.index j (s.cellKeyOf w u c), .go)
  | .slot n =>
    match mget none (s.saggar w.saggar).slots n with
    | some k => (s.setKey tag u.index j k, .go)
    | none => (s.endFiring tag St.KEY_NOT_RESIDENT u.index, .halt)
  | .anchor =>
    if u.index = 0 then
      if w.badAnchor then (s.endFiring tag St.KEY_HANDLE_INVALID u.index, .halt) else s.lookupHandle tag w u j w.handle true
    else (s.setKey tag u.index j (w.keyAt 0 0), .go)
  | .role n =>
    let h := roleOf w.keySet n
    if h = 0 then (s.endFiring tag St.ROUTE_NO_KEY u.index, .halt) else s.lookupHandle tag w u j h false
  | .handle h => s.lookupHandle tag w u j h (!(u.graph) && j = 0)

/-- The key fields of a step that are not yet found, in order. -/
def lookupFields (tag : Nat) (u : StepIn) : List (Nat × KeyRef) → State → State × Prep
  | [], s => (s, .go)
  | (j, r) :: rest, s =>
    match s.ware tag with
    | none => (s, .halt)
    | some w =>
      if (mget none w.keys (3 * u.index + j)).isSome then lookupFields tag u rest s
      else match s.lookupField tag w u j r with
        | (s, .go) => lookupFields tag u rest s
        | (s, .halt) => (s, .halt)

/-! ## Checks after the lookup (R161 steps 4 to 7) -/

/-- Step 4 for key `j`. -/
def keyCheck (s : State) (w : Ware) (u : StepIn) (i : FireIn) (kp : KeyPolicy) (j : Nat) (req : Option KeyReq) (r : KeyRef)
    (k : KeyVal) : Option Nat :=
  match req, r with
  | none, _ => none
  | some _, .none => none
  | some q, r =>
    let stored := match r with
      | .cell _ => false
      | .slot _ => false
      | _ => true
    let g := s.saggar w.saggar
    if !(declaredKey i j) then some St.KEY_USAGE
    else keyChecks kp q (u.code / 256) k.attr (stored && g.isRevoked k.serial) (stored && g.enrolled k.handle k.serial)

/-- Steps 3 (NEW_HANDLE) to 7, but for the claim of step 6: the status the ware ends with. -/
def stepChecks (s : State) (w : Ware) (u : StepIn) : Option Nat :=
  match dirEntry u.code with
  | none => some St.BAD_FIRING_CODE
  | some e =>
    let i := s.fireIn w u
    let kp := keyPolicy i.pol (lcKeyBit s.lcc.state) w.ceremony
    let refs := w.fields u
    let one := fun j req k => s.keyCheck w u i kp j req (refs.getD j .none) k
    let budget := polBudget i.pol
    firstOf [
      badLen (u.code ≠ 0x0710 || resultFits i u.resultLen i.keyA.material.length),
      need (!(createsKey u.code) || (s.saggar w.saggar).inRange (createdHandle i)) St.KEY_HANDLE_INVALID,
      one 0 e.reqA i.keyA, one 1 e.reqB i.keyB, one 2 e.reqC i.keyC,
      afterKeys i e kp,
      need (!(countsAttempt u.code) || budget = 0 || decide ((s.saggar w.saggar).attempts < budget)) St.POLICY_ATTEMPTS]

/-- Step 7: an originator counter, and the wrap limit of R231. -/
def lastChecks (s : State) (w : Ware) (u : StepIn) : Option Nat :=
  let g := s.saggar w.saggar
  firstOf [
    need (u.code ≠ 0x0410 || w.counter ≠ 0) St.KSN_EXHAUSTED,
    need (!(wrapsBlob u.code) || (s.viewOf w).bepochs.current ≠ g.pol.bepochs.current || decide (g.wraps.toNat < 2 ^ 31))
      St.BLOB_EPOCH_RETIRED]

/-- Step 7 for 0x0410: the counter is that of the key found; one taken at placement for another serial of the handle stays used.
(DESIGN CHOICE, log 133) -/
def settleCounter (s : State) (tag : Nat) (w : Ware) (u : StepIn) : State :=
  let k := w.keyAt u.index 0
  if u.code ≠ 0x0410 || (w.counterOf = k.serial && w.counter ≠ 0) then s
  else match (s.saggar w.saggar).origs.find? fun o => o.handle = k.handle && o.serial = k.serial with
    | none => s
    | some o => s.takeCounter tag w o

/-- Sending hosts that claims would add to the saggar's table. -/
def newHosts (s : State) (g : Nat) : List Nat :=
  (((s.setter.wares.filterMap (·.2)).filterMap fun w => if w.saggar = g then w.claim else none).filter fun n =>
    !((s.saggar g).hosts.any fun h => h.1 = n)).eraseDups

/-- The claim of a TR-34 timestamp (R241). A new host for which only claims leave no place in the table asks again. (DESIGN CHOICE, log 136) -/
def claimTimestamp (s : State) (tag : Nat) (w : Ware) (u : StepIn) : State × Prep :=
  let i := s.fireIn w u
  let serial := i.keyC.serial
  let known := (s.saggar w.saggar).hosts.find? fun h => h.1 = serial
  match Config.tr34Timestamp (dataOf i) with
  | none => (s.endFiring tag St.KEY_BLOCK_INVALID u.index, .halt)
  | some ts =>
    let late := match known with
      | some h => decide (h.2 < ts)
      | none => true
    if !late || decide (i.rtcSeconds + polTr34Skew i.pol < ts) then (s.endFiring tag St.KEY_BLOCK_INVALID u.index, .halt)
    else if known.isNone && decide (64 ≤ (s.saggar w.saggar).hosts.length) then
      (s.endFiring tag St.REPLAY_WINDOW_FULL u.index, .halt)
    else if known.isNone && decide (64 ≤ (s.saggar w.saggar).hosts.length + (s.newHosts w.saggar).length) &&
        !((s.newHosts w.saggar).contains serial) then (s.backOff tag, .halt)
    else if !(s.tagsWhere fun x => x.saggar = w.saggar && x.claim = some serial).isEmpty then (s.backOff tag, .halt)
    else (s.modWare tag fun w => { w with claim := some serial }, .go)

/-- Steps 3 to 7 of one step. -/
def prepareStep (s : State) (tag : Nat) (u : StepIn) : State × Prep :=
  match s.ware tag with
  | none => (s, .halt)
  | some w =>
    if (u.code = 0x0720 && !(resultFits (s.fireIn w u) u.resultLen 0)) || (u.code = 0x0826 && !(peerFits (s.fireIn w u))) then
      (s.endFiring tag St.BAD_LENGTH u.index, .halt)
    else match lookupFields tag u ((List.range 3).zip (w.fields u)) s with
      | (s, .halt) => (s, .halt)
      | (s, .go) =>
        match s.ware tag with
        | none => (s, .halt)
        | some w =>
          match s.stepChecks w u with
          | some st => (s.endFiring tag st u.index, .halt)
          | none =>
            match (if u.code = 0x0722 then s.claimTimestamp tag w u else (s, .go)) with
            | (s, .halt) => (s, .halt)
            | (s, .go) =>
              let s := s.settleCounter tag w u
              match s.lastChecks ((s.ware tag).getD w) u with
              | some st => (s.endFiring tag st u.index, .halt)
              | none => (s.modWare tag fun w => { w with prepared := u.index + 1 }, .go)

/-- The steps in turn (R206). -/
def prepareSteps (tag : Nat) : List StepIn → State → State × Prep
  | [], s => (s, .go)
  | u :: rest, s =>
    match s.prepareStep tag u with
    | (s, .go) => prepareSteps tag rest s
    | (s, .halt) => (s, .halt)

/-! ## Random values, wheel and page (R161 step 8, R267, R304, R308) -/

/-- The bytes each step reserves. -/
def randomOf (s : State) (w : Ware) : List Nat := w.allSteps.map fun u => randomLen (s.fireIn w u)

/-- The first index of a list of numbers that is not zero. -/
def firstNonzero (ns : List Nat) : Nat := ns.findIdx (· ≠ 0)

/-- R308: the kiln's DRBG refused. -/
def entropyRefused (s : State) (tag : Nat) (w : Ware) (step : Nat) : State :=
  if s.ent.waitMs = 0 || w.entLate then
    (s.modEnt fun e => { e with refused := satInc e.refused }).endFiring tag St.ENTROPY_UNAVAILABLE step
  else
    let s := when_ (!w.entWaits) (fun s => s.modEnt fun e => { e with waits := satInc e.waits }) s
    (s.modWare tag fun w => { w with entWaits := true }).backOff tag

/-- The bytes of the reservation that belong to step `i`. -/
def randFor (s : State) (w : Ware) (i : Nat) : Bytes :=
  let ns := s.randomOf w
  slice w.rand (ns.take i).sum (ns.getD i 0)

/-- A key field of a step as it fires: a cell's key, or the key found. -/
def cellOr (w : Ware) (r : KeyRef) (k : KeyVal) : KeyVal :=
  match r with
  | .cell c => match mget none w.cells c with
    | some (.key v) => v
    | _ => k
  | _ => k

/-- What a graph step fires on: cell keys, its binding and its random bytes (R201, R202). -/
def stepFireIn (s : State) (w : Ware) (u : StepIn) : FireIn :=
  let i := s.fireIn w u
  let refs := w.fields u
  let inp := if seBindEn u.entry then
      match mget none w.cells (seBindCell u.entry) with
      | some (.value b) => u.inp.take (seBindPos u.entry) ++ b ++ u.inp.drop (seBindPos u.entry + b.length)
      | _ => u.inp
    else u.inp
  { i with inp := inp, rand := s.randFor w u.index, keyA := cellOr w (refs.getD 0 .none) i.keyA,
           keyB := cellOr w (refs.getD 1 .none) i.keyB }

/-- The operand load of the step whose shape is to start, and whether it may (R271); a blank shape has none (R209, R289). -/
def operandLoad (s : State) (tag : Nat) : State × Bool :=
  match s.ware tag with
  | none => (s, true)
  | some w =>
    let u := w.stepIn w.graphStep
    match w.wheel, w.page with
    | some m, some p =>
      if usesWheel u.code u.params && w.graphFail.isNone then s.loadOperands w.saggar p m (s.stepFireIn w u) else (s, true)
    | _, _ => (s, true)

/-- An operand load failed: ABORTED_FAULT before the shape, and a bit in the kiln's bank (R271, R288, R419). -/
def loadFails (s : State) (tag : Nat) : State :=
  match s.ware tag with
  | none => s
  | some w => ((s.modWare tag fun w => { w with phase := .firing }).abortFiring tag St.ABORTED_FAULT).faultDue w.kiln 9 tag

/-- The operand load of a step, where it has one, and its failure. -/
def beginStep (s : State) (tag : Nat) : State :=
  match s.operandLoad tag with
  | (s, true) => s
  | (s, false) => s.loadFails tag

/-- The glaze level of the epoch a ware is stamped with (R116, R132). -/
def glazeOf (s : State) (w : Ware) : BitVec 16 :=
  let g := s.saggar w.saggar
  if g.epoch = w.epoch then s.fw.glazeLevel else g.glazeFrom.getD s.fw.glazeLevel

/-- The bank that the policy entry of the ware's epoch names: the one that holds the epoch's glaze level (R132). -/
def firingBank (s : State) (w : Ware) : Option Bool :=
  let k := s.kiln w.kiln
  let lvl := s.glazeOf w
  if k.bankA.valid && k.bankA.level = lvl then some false
  else if k.bankB.valid && k.bankB.level = lvl then some true
  else none

/-- The shape starts: started wares leave DEPTH, and their waiting time enters the histogram (R123; which class of it, the
model leaves free). -/
def startShape (s : State) (tag : Nat) (w : Ware) : State :=
  let first := !w.started
  let s := s.modWare tag fun w =>
    { w with phase := .firing, started := true, rounds := 0, primes := [], graphStep := 0, entWaits := false, entLate := false,
             bank := s.firingBank w }
  let s := s.modKiln w.kiln fun k =>
    { k with engines := mmod {} k.engines w.engine fun x => { x with fgRun := if x.fg = some tag && x.bg.isSome then x.fgRun + 1 else x.fgRun } }
  if first then
    let b := Config.freeChoice s.freeCtr 16 % 16
    (s.drew 1).modSetter fun t =>
      { t with live := mmod {} t.live w.group fun f => { f with hist := f.hist.set b (satInc (f.hist.getD b 0)) } }
  else s

/-- The claim of a wheel and an operand page and the operand load, then the shape (R267, R271). -/
def claimWheel (s : State) (tag : Nat) (w : Ware) (rand : Bytes) : State :=
  let s := s.modWare tag fun w => { w with rand := rand, graphStep := 0 }
  match w.allSteps.find? fun u => usesWheel u.code u.params with
  | none => s.startShape tag w
  | some u =>
    let k := s.kiln w.kiln
    if polPageQuota (s.recordOf w) = 0 then s.endFiring tag St.OPERAND_PAGES u.index
    else match (if k.wheelA.isSome && k.wheelB.isSome then none else s.idlePage w.saggar) with
      | none => s.backOff tag
      | some p =>
        let s := s.modKiln w.kiln fun k =>
          if k.wheelA.isNone then { k with wheelA := some tag } else { k with wheelB := some tag }
        let s := s.setPage p (some { saggar := w.saggar, tag := some tag })
        let s := s.modWare tag fun w => { w with wheel := some (2 * w.kiln + b2n k.wheelA.isSome), page := some p }
        match s.operandLoad tag with
        | (s, true) => s.startShape tag w
        | (s, false) => s.loadFails tag

/-- Step 8 and the claims after it. (DESIGN CHOICE, log 43) -/
def reserve (s : State) (tag : Nat) : State :=
  match s.ware tag with
  | none => s
  | some w =>
    let need := s.randomOf w
    if need.sum = 0 then s.claimWheel tag w []
    else match s.drbgBytes w.kiln need.sum (callInput w tag w.code) with
      | (s, some r) => s.claimWheel tag w r
      | (s, none) => s.entropyRefused tag w (firstNonzero need)

/-- Preparation as far as it can go (R161, R206). (DESIGN CHOICE, log 43) -/
def prepare (s : State) (tag : Nat) : State :=
  match s.ware tag with
  | none => s
  | some w =>
    match prepareSteps tag (w.allSteps.drop w.prepared) s with
    | (s, .go) => s.reserve tag
    | (s, .halt) => s

/-! ## Taking a ware (R111 to R113) -/

/-- The engine executes nothing: its foreground is empty, and its background empty or suspended. -/
def engineFree (s : State) (k e : Nat) : Bool :=
  let x := mget {} (s.kiln k).engines e
  x.fg.isNone && (match x.bg with
    | none => true
    | some t => (s.ware t).any fun w => w.phase == .suspended)

/-- R120: an earlier ware of the same flow fires under another epoch than the one this ware is stamped with. -/
def epochBarred (s : State) (w : Ware) : Bool :=
  match w.flow with
  | none => false
  | some f => !(s.tagsWhere fun x => x.fn = w.fn && x.flow = some f && decide (x.seq < w.seq) && isFiring x &&
      decide (x.epoch ≠ w.epoch)).isEmpty

/-- A startable ware of class `c` may be taken (R111, R120, R145). -/
def takeable (s : State) (k : Nat) (p : Nat → Bool) (t : Nat) : Bool :=
  (s.ware t).any fun w => w.phase == .ready && p w.cls && (decide (w.stagedBound ≤ 16) || !(s.stageFull k)) && !(s.epochBarred w)

/-- The first queued ware of the lowest class among `cs`. -/
def oldestOf (s : State) (k : Nat) (cs : List Nat) : Option Nat :=
  (cs.filterMap fun c => (s.kiln k).queue.find? fun t => s.takeable k (· = c) t).head?

/-- The engine takes a queued ware and prepares it. -/
def takeWare (s : State) (k e tag : Nat) : State :=
  match s.ware tag with
  | none => s
  | some w =>
    let back := decide (w.cls = 3)
    let s := s.modKiln k fun kl =>
      { kl with
        queue := kl.queue.filter (· ≠ tag),
        engines := mmod {} kl.engines e fun x =>
          if back then { x with bg := some tag } else { x with fg := some tag, fgRun := if x.bg.isSome then x.fgRun else 0 } }
    let s := s.modWare tag fun w => { w with phase := .preparing, engine := e }
    if w.lineTag = some w.saggar then s.prepare tag else s.foreignLine tag w

/-- The engine resumes its suspended graph (R113). -/
def resume (s : State) (k e tag : Nat) : State :=
  ((s.modKiln k fun kl => { kl with engines := mmod {} kl.engines e fun x => { x with fgRun := 0 } }).modWare tag fun w =>
    { w with phase := .firing }).beginStep tag

/-- R111, R113. -/
def engineTakes (s : State) (k e : Nat) : State :=
  let kl := s.kiln k
  let x := mget {} kl.engines e
  let serving := kl.state == .inService && !kl.hold
  if !(s.engineFree k e) || kl.blocked then s
  else match x.bg with
    | some t =>
      if !serving then (if kl.state == .draining then s.resume k e t else s)
      else if s.setter.preemptMax ≤ x.fgRun then s.resume k e t
      else match s.oldestOf k [0, 1, 2] with
        | some u => s.takeWare k e u
        | none => s.resume k e t
    | none =>
      if !serving then s
      else match s.oldestOf k [0, 1, 2, 3] with
        | some u => s.takeWare k e u
        | none => s

/-! ## The end of a firing (R135, R146, R210) -/

/-- The deltas of a state-changing ware that ended OK (R368), and what they change here (R241, R187). (DESIGN CHOICE, log 55) -/
def writeDelta (s : State) (tag : Nat) (w : Ware) (result : Bytes) : State :=
  let rid := dReplay w.desc
  let key := w.keyAt 0 0
  let unm := !(s.mirrored) && (!(s.paired) || s.continues w.saggar)
  let ts := match w.claim with
    | some serial => (Config.tr34Timestamp (dataOf (s.fireIn w (w.stepIn 0)))).map fun t => (serial, t)
    | none => none
  let s := match ts with
    | some (serial, t) => s.modSaggar w.saggar fun g => { g with hosts := (serial, t) :: g.hosts.filter fun h => h.1 ≠ serial }
    | none => s
  let ds : List Delta := [.replay w.saggar rid (dCode w.desc) (replayDigest w.desc) 0 0 w.inline unm result] ++
    (if dCode w.desc = 0x0410 then [.counter w.saggar key.handle key.serial w.counter] else []) ++
    (match ts with
     | some (serial, t) => [.timestamp w.saggar serial t]
     | none => [])
  let s := s.logGroup (some tag) ds
  let s := s.modWare tag fun w => { w with delta := some s.mir.seq }
  match s.replayOf w.saggar rid with
  | some e => s.setReplay w.saggar rid (some { e with status := 0, step := 0, result := result, inline := w.inline })
  | none => s

/-- The last shape of a ware ended: outcome, delta, and everything it held is released. -/
def endOk (s : State) (tag : Nat) (result : Bytes) : State :=
  match s.ware tag with
  | none => s
  | some w =>
    let s := when_ (wareChangesState w.desc) (fun s => s.writeDelta tag w result) s
    let s := (s.leaveKiln tag).modWare tag fun w =>
      { w with phase := .ended, status := St.OK, step := 0, result := result, staged := decide (16 < result.length),
               lineTag := if 16 < result.length then some w.saggar else none, emitted := [], cells := [], rand := [], keys := [],
               data := [], ext := [] }
    s.settleEpoch w.saggar

/-- A shape ended in the kiln with `out`. (DESIGN CHOICE, log 48) -/
def countShape (s : State) (w : Ware) (u : StepIn) (blank : Bool) (out : FireOut) : State :=
  let s := s.modKiln w.kiln fun k => { k with firings := k.firings + 1 }
  let s := when_ (!blank && countsAttempt u.code && statusClass out.status = 4) (fun s =>
    s.modSaggar w.saggar fun g => { g with attempts := g.attempts + 1 }) s
  match w.wheel with
  | some m =>
    if blank || !(usesWheel u.code u.params) then s
    else s.modWheel m fun x =>
      { x with scratch := [], ops := x.ops + 1,
               degenerate := if statusClass out.status = 8 then satInc x.degenerate else x.degenerate,
               faultChk := if out.faulty then satInc x.faultChk else x.faultChk }
  | none => s

/-- The wheel writes OUT of the ware's page after a wheel step that ended OK (R271). -/
def wheelWrites (s : State) (w : Ware) (u : StepIn) (out : FireOut) : State :=
  match w.page with
  | some p => when_ (out.status = St.OK && usesWheel u.code u.params) (fun s => s.writeOut w.saggar p out.result) s
  | none => s

/-- Codes that may run several shapes, and their limit (R281). (DESIGN CHOICE, log 48) -/
def roundLimit (code : Nat) : Nat := if code = 0x0801 then 4096 else 1000

/-- A round that gave no result: one more DRBG call for the step and one more shape, or the limit (R281, R304). -/
def anotherRound (s : State) (tag : Nat) (w : Ware) (u : StepIn) (out : FireOut) : State :=
  if roundLimit u.code ≤ w.rounds + 1 then s.abortFiring tag St.ABORTED_FAULT
  else
    let ns := s.randomOf w
    let n := ns.getD u.index 0
    let off := (ns.take u.index).sum
    match s.drbgBytes w.kiln n (callInput w tag w.code) with
    | (s, some r) => (s.modWare tag fun w =>
        { w with rounds := w.rounds + 1, rand := w.rand.take off ++ r ++ w.rand.drop (off + n),
                 primes := w.primes ++ out.prime.toList }).beginStep tag
    | (s, none) => (s.modEnt fun e => { e with refused := satInc e.refused }).endFiring tag St.ENTROPY_UNAVAILABLE u.index

/-- The check of R286 failed: ABORTED_FAULT, no output, and a bit in the kiln's bank (R288, R419). -/
def checkFails (s : State) (tag : Nat) (w : Ware) : State := (s.abortFiring tag St.ABORTED_FAULT).faultDue w.kiln 10 tag

/-- The end of a single ware's shape. -/
def endSingle (s : State) (tag : Nat) (w : Ware) : State :=
  let u := w.stepIn 0
  let out := (fireCode { s.fireIn w u with rand := w.rand, primes := w.primes }).getD (fireErr St.BAD_FIRING_CODE)
  let s := s.countShape w u false out
  if out.again then s.anotherRound tag w u out
  else if out.faulty then s.checkFails tag w
  else if out.status = St.OK then
    (when_ (wrapsBlob u.code) (fun s => s.countWrap w.saggar (s.viewOf w).bepochs.current) (s.wheelWrites w u out)).endOk tag out.result
  else s.endFiring tag out.status 0

/-! ## Graph steps (R200 to R204, R208, R209) -/

/-- Step `u` has ended with `out`: its cell and its part of the graph result, or the graph's status. -/
def stepOutcome (w : Ware) (u : StepIn) (out : FireOut) : Ware :=
  if out.status = St.OK then
    let cell := match out.cellKey with
      | some k => Cell.key k
      | none => Cell.value out.result
    { w with cells := if seOutEn u.entry then mset none w.cells (seOutCell u.entry) (some cell) else w.cells,
             emitted := if seEmit u.entry then w.emitted ++ out.result else w.emitted }
  else { w with graphFail := some (out.status, u.index) }

/-- R112: an urgent ware waits and no engine is free. -/
def mustYield (s : State) (k : Nat) : Bool :=
  (s.oldestOf k [0]).isSome && (List.range 16).all fun e => !(s.engineFree k e)

/-- The wheel is held until the last wheel step has ended (R206). -/
def wheelOver (w : Ware) (i : Nat) : Bool := !((w.allSteps.drop (i + 1)).any fun x => usesWheel x.code x.params)

/-- The end of a graph step's shape. -/
def endStep (s : State) (tag : Nat) (w : Ware) : State :=
  let u := w.stepIn w.graphStep
  let blank := w.graphFail.isSome
  let out := if blank then {} else (fireCode (s.stepFireIn w u)).getD (fireErr St.BAD_FIRING_CODE)
  let s := s.countShape w u blank out
  if out.again then s.anotherRound tag w u out
  else if out.faulty then s.checkFails tag w
  else
  let s := when_ (!blank) (fun s => (s.wheelWrites w u out).modWare tag fun w => stepOutcome w u out) s
  let s := when_ (w.wheel.isSome && wheelOver w u.index) (fun s => s.freeWheel tag) s
  if u.index + 1 < w.steps then
    let s := s.modWare tag fun w => { w with graphStep := u.index + 1, rounds := 0 }
    if w.cls = 3 && s.mustYield w.kiln then s.modWare tag fun w => { w with phase := .suspended } else s.beginStep tag
  else match s.ware tag with
    | none => s
    | some w => match w.graphFail with
      | some (st, i) => s.endFiring tag st i
      | none => s.endOk tag w.emitted

/-! ## Blob opens (R228) -/

/-- The field a preparing ware waits on: the first not yet found. -/
def pendingField (w : Ware) : Option (StepIn × Nat × KeyRef) :=
  (((w.allSteps.drop w.prepared).flatMap fun u => ((List.range 3).zip (w.fields u)).map fun f => (u, f.1, f.2)).find? fun x =>
    x.2.2 != .none && (mget none w.keys (3 * x.1.index + x.2.1)).isNone)

/-- Checks 2 to 5 of a blob open. -/
def headerCheck (s : State) (w : Ware) (h : Bytes) : Option Nat :=
  let b := blobFields h
  firstOf [
    need (b.magicOk && b.fmt = 1 && decide (8 ≤ b.matLen ∧ b.matLen ≤ 8192) && b.reservedOk) St.BLOB_AUTH_FAILED,
    badLen (hostRange (dBlobPtr w.desc) (64 + b.matLen)),
    need (b.saggar = w.saggar) St.BLOB_WRONG_SAGGAR,
    need ((s.viewOf w).bepochs.has b.bepoch) St.BLOB_EPOCH_RETIRED,
    need (b.handle = w.handle) St.KEY_HANDLE_INVALID]

/-- The key of a blob whose tag verifies: check 7. -/
def openedKey (s : State) (w : Ware) (body : Bytes) : Option KeyVal :=
  let b := blobFields w.blobHeader
  match mget none (s.saggar w.saggar).slots 0 with
  | none => none
  | some ssk => (openBlob (blobKeyOf ssk.material w.saggar b.bepoch) w.blobHeader body).map fun mat =>
      { handle := b.handle, attr := b.attr, material := mat, serial := b.serial, bepoch := b.bepoch }

end State

/-! ## The commands that start no shape -/

/-- The read of a blob's header ends (R228 checks 1 to 5). -/
def execBlobHeaderReadDone (tag : Nat) (data : Option Bytes) (s : State) : Res :=
  onUnit s (decide (tag < 65536)) (match s.ware tag with
    | none => s
    | some w =>
      when_ (w.phase == .preparing && w.waits == .blobHeader && !s.readHeld w.fn (dBlobPtr w.desc) &&
          s.fetchTurn w.kiln tag) (fun s =>
        let s := (s.dropFetch w.kiln tag).modWare tag fun w => { w with waits := .none }
        match data with
        | none => s.endFiring tag St.BLOB_FETCH_FAILED 0
        | some bs =>
          let h := padTo 48 bs
          match s.headerCheck w h with
          | some st => s.endFiring tag st 0
          | none =>
            if s.fetchOk w.fn then
              (s.modWare tag fun w => { w with waits := .blobBody, blobHeader := h }).startFetch
                tag w (dBlobPtr w.desc + 48) ((blobFields h).matLen + 16)
            else s.endFiring tag St.BLOB_FETCH_FAILED 0) s)

/-- 1 µs has passed since a ware returned to its kiln queue (R542). -/
def execReturnBackoffExpire (tag : Nat) (s : State) : Res :=
  onUnit s (decide (tag < 65536)) (match s.ware tag with
    | none => s
    | some w => when_ (w.phase == .backoff) (fun s => s.modWare tag fun w => { w with phase := .ready }) s)

/-- ENT_CFG.WAIT_MS has passed since a ware's first refusal (R308): it ends if its DRBG still refuses, or at the next refusal. -/
def execEntropyWaitTimeout (tag : Nat) (s : State) : Res :=
  onUnit s (decide (tag < 65536)) (match s.ware tag with
    | none => s
    | some w =>
      when_ (w.entWaits && (w.phase == .ready || w.phase == .backoff)) (fun s =>
        if s.drbgRefuses w.kiln then
          (s.modEnt fun e => { e with refused := satInc e.refused }).endFiring tag St.ENTROPY_UNAVAILABLE
            (State.firstNonzero (s.randomOf w))
        else s.modWare tag fun w => { w with entLate := true }) s)

end Sys2Proof.Machine
end

