-- ==== Sys2Proof/Machine/Release.lean ====
section
/-! DEFINITION. Release of wares (R19, R20, R57, R86, R93, R100, R375, R376, R378). -/

namespace Sys2Proof.Machine

/-- FLAGS of a completion record (R86). -/
def recordFlags (w : Ware) (phase unmirrored : Bool) : Nat :=
  b2n phase + 2 * b2n w.inline + 4 * b2n w.replayed + 8 * b2n unmirrored + 16 * b2n (w.relearned && !w.replayed)

/-- Bytes 16 to 31 of a completion record (R86). -/
def recordResult (w : Ware) : Bytes :=
  if statusClass w.status ≠ 0 then zeros 16
  else if w.inline then padTo 16 w.result
  else leBytes w.result.length 4 ++ zeros 12

/-- The 32-byte completion record (R86). -/
def completion (tag : Nat) (w : Ware) (unmirrored phase : Bool) : Bytes :=
  leBytes tag 2 ++ [byte w.gen.toNat, byte (recordFlags w phase unmirrored)] ++ leBytes w.status 2 ++ leBytes w.step 2 ++
  slice w.desc 8 8 ++ recordResult w

namespace State

/-- The ware heads its flow, or is unordered (R91, R114). -/
def headsFlow (s : State) (w : Ware) : Bool :=
  match w.flow with
  | none => true
  | some f => (s.tagsWhere fun x => x.fn = w.fn && x.flow = some f && decide (x.seq < w.seq)).isEmpty

/-- The standby has acknowledged the ware's delta group. -/
def acknowledged (s : State) (w : Ware) : Bool :=
  match w.delta with
  | none => true
  | some n => w.acked || decide (n ≤ s.mir.acked)

/-- A ware whose release depends on acknowledgement and lease: its firing wrote a delta and no mode change ended it. -/
def mustBeHeld (w : Ware) : Bool := w.delta.isSome && w.status ≠ St.ABORTED_MODE && !w.replayed

/-- The conditions of R20 that concern the mirror and the witness; an unpaired module releases what it classified (R361). -/
def mayRelease (s : State) (w : Ware) : Bool :=
  !(mustBeHeld w) ||
    ((s.acknowledged w || !(s.paired) || (!(s.mirrored) && s.continues w.saggar && s.unmirroredGo)) &&
      (!(s.paired) || s.mir.lease))

/-- R376: the attached wares of a completed entry end with the stored outcome. (DESIGN CHOICE, log 52) -/
def releaseAttached (s : State) (sag rid : Nat) : State :=
  match s.replayOf sag rid with
  | none => s
  | some e => forEach e.attached (fun t s => s.replayed t e) (s.setReplay sag rid (some { e with attached := [] }))

/-- The replay entry of a released ware: complete where a delta was written, free otherwise (R375). (DESIGN CHOICE, log 52) -/
def settleReplay (s : State) (tag : Nat) (w : Ware) (unmirrored : Bool) : State :=
  let rid := dReplay w.desc
  match s.replayOf w.saggar rid with
  | none => s
  | some e =>
    if e.owner ≠ tag || e.complete || w.replayed then s
    else if w.delta.isNone then s.setReplay w.saggar rid none
    else (s.setReplay w.saggar rid (some { e with complete := true, unmirrored := unmirrored })).releaseAttached w.saggar rid

/-- A ware's release: its record is stale, discarded by a ring reset, or written after its result (R19, R57, R93, R100). That of
a ceremony firing goes to Kazkel. -/
def releaseWare (s : State) (tag : Nat) (w : Ware) (merge : Bool) : State :=
  let unmirrored := if w.replayed then w.unmirrored else mustBeHeld w && !(s.acknowledged w)
  let s := s.settleReplay tag w unmirrored
  let s := s.freeTag tag
  if w.ceremony then s
  else if w.stale || w.gen ≠ (s.fn w.fn).gen then s.modFn w.fn fun f => { f with staleCnt := satInc f.staleCnt }
  else if w.discard then s.modRing w.fn w.ring fun r => { r with dropped := satInc r.dropped }
  else
    let s := when_ (statusClass w.status = 0 && !w.inline && !w.result.isEmpty) (fun s =>
      s.wareWrite w.fn (dResPtr w.desc) w.result) s
    s.pushRecord w.fn w.ring (completion tag w unmirrored) merge

end State

/-- The setter releases a ware whose firing has ended, or that it refused (R20). The first release without acknowledgement after
leaving MIRRORED raises GEN instead (R378). -/
def execWareRelease (tag : Nat) (merge : Bool) (s : State) : Res :=
  onUnit s (decide (tag < 65536)) (match s.ware tag with
    | none => s
    | some w =>
      when_ ((w.phase == .ended || w.phase == .refused) && s.headsFlow w && !s.tmp.halted) (fun s =>
        if s.mayRelease w then s.releaseWare tag w merge
        else when_ (!(s.mirrored) && s.continues w.saggar) (fun s => s.raiseGen) s) s)

end Sys2Proof.Machine
end

