-- ==== Sys2Proof/Machine/Kilns.lean ====
section
/-! DEFINITION. Kiln states and their changes (R147 to R153), glaze bank loads (R133), KILN reset (R152), withdrawal (R119, R150),
retirement and promotion (R459, R460), busy windows and parking (R124, R476), margin records (R463). -/

namespace Sys2Proof.Machine

/-! ## States and domains (R147, R148) -/

/-- The kiln's power domain is on. -/
def kilnOn : KilnState → Bool
  | .waking | .inService | .draining | .drained | .measuring | .withdrawn => true
  | _ => false

namespace State

/-- A change of kiln state, with its KILN_STATE record (R434). -/
def setKilnState (s : State) (k : Nat) (st : KilnState) : State :=
  let old := (s.kiln k).state
  if old = st then s
  else (s.modKiln k fun x => { x with state := st }).kazkelRecord 0x0301
    [byte k, byte (kilnCode old), byte (kilnCode st), byte (s.kiln k).lastCause.toNat]

/-- The kilns in a state. -/
def kilnsIn (s : State) (st : KilnState) : List Nat := allKilns.filter fun k => (s.kiln k).state = st

/-- A kiln other than `k` is being drained, drained or measured (R455, R476). -/
def otherDrained (s : State) (k : Nat) : Bool :=
  allKilns.any fun j => j ≠ k &&
    ((s.kiln j).state == .draining || (s.kiln j).state == .drained || (s.kiln j).state == .measuring)

/-- The kiln under measurement: CONE_STAT.KILN. -/
def measuringKiln (s : State) : Option Nat := (s.kilnsIn .measuring).head?

/-- Kilns neither SPARE, RETIRED nor ABSENT: CONE_STAT.ACTIVE. -/
def activeKilns (s : State) : List Nat := allKilns.filter fun k =>
  !((s.kiln k).state == .spare || (s.kiln k).state == .retired || (s.kiln k).state == .absent)

/-- CONE_STAT.SPARES. -/
def sparesLeft (s : State) : Nat := (s.kilnsIn .spare).length

/-- No other kiln is left that is not RETIRED (R460). -/
def lastKiln (s : State) (k : Nat) : Bool :=
  allKilns.all fun j => j = k || (s.kiln j).state == .retired || (s.kiln j).state == .absent

/-- An epoch change or a glaze load runs (R476). -/
def epochRuns (s : State) : Bool := s.fw.glazeNext.isSome || s.listedSaggars.any fun g => (s.saggar g).busy

/-! ## Margin records (R460, R463) -/

/-- CONE_CAPACITY.PERMILLE: the sum of F ÷ 1,600 MHz over ACTIVE kilns, per kiln offered. -/
def capacity (s : State) : Nat :=
  (s.activeKilns.map fun k => 1200 + 25 * (s.kiln k).freq.toNat).sum * 1000 / (1600 * Config.kilnsOffered)

/-- A bit of CONE_IRQ; its rise raises vector 20 (R463). -/
def coneIrq (s : State) (bit : Nat) : State :=
  if s.cone.irq.getLsbD bit then s else (s.modCone fun c => { c with irq := setBit c.irq bit }).raiseDevice 20

/-- FMAX of a code in MHz, 0 below 1,200 MHz. -/
def fmaxMhz (code : BitVec 5) : Nat := if code = 0x1F then 0 else 1200 + 25 * code.toNat

/-- A MARGIN record of a kiln: `freq` and `volt` are the plan before. -/
def marginRecord (s : State) (k kind freq volt : Nat) : State :=
  let c := s.coneKiln k
  s.kazkelRecord 0x0B01 ([byte k, byte kind, byte freq, byte (s.kiln k).freq.toNat, byte volt, byte (s.kiln k).volt.toNat] ++
    leBytes (fmaxMhz c.fmax) 2 ++ leBytes c.rodeg.toNat 2 ++ leBytes c.years.toNat 2 ++
    [byte (b2n c.canary), byte s.sparesLeft] ++ leBytes s.capacity 2)

/-- A MARGIN record whose plan has not changed. -/
def marginNote (s : State) (k kind : Nat) : State :=
  s.marginRecord k kind (s.kiln k).freq.toNat (s.kiln k).volt.toNat

/-! ## Power (R132, R141, R148, R303, R415) -/

/-- The sticky bits of a bank whose domain goes off are recorded, then lost (R415, R430). (DESIGN CHOICE, log 50) -/
def bankOff (s : State) (b : Nat) : State :=
  let bits := (List.range 32).filter fun i => (s.bank b).sticky.getLsbD i
  let s := forEach bits (fun i s => s.record
    { stream := devStream, source := srcOf b i, code := 0x0101, data := [byte b, byte i, byte (faultSev b i)],
      reserved := faultSev b i = sevGrave }) s
  s.modBank b fun x => { x with sticky := 0, parity := false }

/-- Staged results are discarded; their wares complete with a class 0x06 status. -/
def dropStaged (s : State) (k status : Nat) : State :=
  forEach (s.tagsWhere fun w => w.kiln = k && w.phase == .ended && w.staged) (fun t s => s.modWare t fun w =>
    { w with status := status, step := 0, result := [], staged := false, lineTag := none }) s

/-- A kiln's busy figures read zero (R124, R126). -/
def clearBusy (s : State) (k : Nat) : State :=
  s.modSetter fun t =>
    { t with kilnBusy := mset (0, 0) t.kilnBusy k (0, 0), engBusy := t.engBusy.filter fun e => e.1 / 16 ≠ k }

/-- The kiln's domain goes off: slots, banks, wheels, DRBG state and the results still staged in its shelf are lost (R30). (DESIGN CHOICE,
DESIGN CHOICE, log 50) -/
def kilnOff (s : State) (k : Nat) (st : KilnState) : State :=
  let s := ((s.bankOff (kilnBank k)).dropStaged k St.ABORTED_KILN_LOST).clearBusy k
  let s := s.modKiln k fun x =>
    { x with slots := [], bankA := {}, bankB := {}, engines := [], wheelA := none, wheelB := none, hold := false, blocked := false,
             drainFor := none, loading := none, loadFails := 0, fetches := [] }
  let s := forEach [2 * k, 2 * k + 1] (fun m s => s.modWheel m fun x => { x with scratch := [], lastWop := 0 }) s
  (s.drbgOff k).setKilnState k st

/-- SPARE or PARKED to WAKING: the domain comes on, and the DRBG asks for a seed (R148, R303). -/
def kilnWake (s : State) (k : Nat) : State :=
  if (s.kiln k).state == .spare || (s.kiln k).state == .parked then (s.setKilnState k .waking).drbgLost k else s

/-- WAKING to IN_SERVICE: memories zeroed, both current sets loaded (R132, R148). -/
def kilnUp (s : State) (k : Nat) : State :=
  let next := match s.fw.glazeNext with
    | some lvl => { valid := true, level := lvl : Bank }
    | none => {}
  (s.modKiln k fun x =>
    { x with slots := [], queue := [], fetches := [], engines := [], bankA := { valid := true, level := s.fw.glazeLevel }, bankB := next
    }).setKilnState k .inService

/-! ## Drains (R149) -/

/-- A drain starts: the kiln is ineligible and returns its queued wares. -/
def startDrain (s : State) (k : Nat) (why : DrainFor) : State :=
  if (s.kiln k).state != .inService then s
  else
    let s := (s.modKiln k fun x => { x with drainFor := some why }).setKilnState k .draining
    forEach (s.tagsWhere fun w => w.kiln = k && w.phase.queuedInKiln && w.placed.isSome) (fun t s => s.returnWare t) s

/-- No ware, firing or staged result is left. -/
def kilnEmpty (s : State) (k : Nat) : Bool :=
  (s.tagsWhere fun w => w.kiln = k && w.placed.isSome &&
    (w.phase.queuedInKiln || isFiring w || (w.phase == .ended && w.staged))).isEmpty

/-! ## Withdrawal (R119, R150) -/

/-- The states from which a kiln becomes WITHDRAWN (R148). -/
def withdrawable (st : KilnState) : Bool :=
  match st with
  | .inService | .draining | .drained | .measuring => true
  | _ => false

/-- The kiln becomes WITHDRAWN; a third time within 24 h marks it for retirement, unless it is the last (R150, R460). A glaze load under
way is over. -/
def withdraw (s : State) (k : Nat) : State :=
  if !(withdrawable (s.kiln k).state) then s else
  let third := decide (2 ≤ (s.kiln k).withdrawnRecent) && !(s.lastKiln k)
  (s.modKiln k fun x =>
    { x with withdrawnRecent := x.withdrawnRecent + 1, withdrawnTotal := satInc x.withdrawnTotal, hold := false,
             loading := none, loadFails := 0,
             drainFor := some (if third then .retire else .measure) }).setKilnState k .withdrawn

/-- R119 at 10 ms, R425: wares not started are re-placed, started ones complete with ABORTED_KILN_LOST. (DESIGN CHOICE, log 50) -/
def loseKiln (s : State) (k : Nat) : State :=
  let s := forEach (s.notStarted k fun _ => true) (fun t s => s.returnWare t) s
  let s := forEach (s.tagsWhere fun w => w.kiln = k && (w.phase == .firing || w.phase == .suspended))
    (fun t s => s.abortFiring t St.ABORTED_KILN_LOST) s
  (s.withdraw k).confirmAll k

/-! ## KILN reset (R151 to R153) -/

/-- R151: states in which a KILN reset acts. -/
def resettable (st : KilnState) : Bool :=
  match st with
  | .inService | .draining | .drained | .measuring | .withdrawn => true
  | _ => false

/-- R152. `hashA` and `hashB`: a valid bank's digest matches again. The caller raises GLAZE_HASH for a mismatch. -/
def kilnReset (s : State) (k cause : Nat) (hashA hashB : Bool) : State :=
  let was := (s.kiln k).state
  if !(resettable was) then s
  else
    let s := forEach (s.tagsWhere fun w => w.kiln = k && (w.phase == .firing || w.phase == .suspended))
      (fun t s => s.abortFiring t St.ABORTED_KILN_RESET) s
    let s := forEach (s.notStarted k fun _ => true) (fun t s => s.returnWare t) s
    let s := s.dropStaged k St.ABORTED_KILN_RESET
    let s := forEach [2 * k, 2 * k + 1] (fun m s => s.modWheel m fun x => { x with scratch := [], lastWop := 0 }) s
    let s := ((s.drbgLost k).clearBusy k).modKiln k fun x =>
      { x with loading := none, loadFails := 0, slots := [], engines := [], wheelA := none, wheelB := none, blocked := false,
               bankA := { x.bankA with valid := x.bankA.valid && hashA }, bankB := { x.bankB with valid := x.bankB.valid && hashB },
               resets := satInc x.resets, lastCause := BitVec.ofNat 2 cause }
    let s := s.confirmAll k
    let x := s.kiln k
    let holds := fun (b : Bank) => b.valid && b.level = s.fw.glazeLevel
    if !(holds x.bankA || holds x.bankB) then (if was == .withdrawn then s else s.withdraw k)
    else if was == .inService then s
    else s.setKilnState k .drained

/-! ## Retirement and promotion (R459, R460) -/

/-- The lowest-numbered spare is promoted: the plan stored at its enrolment has VOLT raised by 5 codes, and it is measured soon
after. (DESIGN CHOICE, log 11) -/
def promoteSpare (s : State) : State :=
  match (s.kilnsIn .spare).head? with
  | none => s.coneIrq 4
  | some k =>
    let v := (s.kiln k).volt
    let s := s.modKiln k fun x =>
      { x with ownPlan := true, volt := if x.ownPlan then x.volt else BitVec.ofNat 6 (min 40 (x.volt.toNat + 5)) }
    let s := (s.kilnWake k).modCone fun c => { c with queue := c.queue ++ [k] }
    (s.marginRecord k 4 (s.kiln k).freq.toNat v.toNat).coneIrq 3

/-- R459 steps 1 to 3. -/
def retireKiln (s : State) (k : Nat) : State :=
  let s := s.modCone fun c => { c with retired := c.retired ++ [k], queue := c.queue.filter (· ≠ k) }
  let s := ((s.kilnOff k .retired).coneIrq 2).marginNote k 3
  s.promoteSpare

/-! ## Parking (R476) -/

/-- Kazkel drains and parks a kiln, through the states of R148, as far as it can go now: what is left in it is waited for. (DESIGN CHOICE,
DESIGN CHOICE, log 50) -/
def parkThrough (s : State) (k : Nat) : State :=
  let s := when_ ((s.kiln k).state == .inService) (fun s => s.startDrain k .park) s
  let s := when_ ((s.kiln k).state == .draining || (s.kiln k).state == .drained) (fun s =>
    s.modKiln k fun x => { x with drainFor := some .park, loading := none, loadFails := 0 }) s
  let s := when_ ((s.kiln k).state == .draining && s.kilnEmpty k) (fun s => s.setKilnState k .drained) s
  when_ ((s.kiln k).state == .drained) (fun s => (s.kilnOff k .parked).confirmAll k) s

/-- The mean of some busy fractions, rounded down. (DESIGN CHOICE, log 50) -/
def mean16 (xs : List (BitVec 16)) : Nat := if xs.isEmpty then 0 else (xs.map (·.toNat)).sum / xs.length

/-- Wakes up to `n` parked kilns, lowest index first. -/
def wakeSome (s : State) (n : Nat) : State := forEach ((s.kilnsIn .parked).take n) (fun k s => s.kilnWake k) s

/-- Kilns in service or on their way there. -/
def awake (s : State) : Nat := (s.kilnsIn .inService).length + (s.kilnsIn .waking).length

/-- A kiln may be drained for parking now. -/
def mayPark (s : State) : Bool :=
  s.sys.parkedLately = 0 && !(s.epochRuns) && !(s.otherDrained 68)

/-- Kazkel starts a measurement of the kiln now: overdue, promoted, or due inside the window; one kiln at a time, not in BOOT (R455,
R456, R459). -/
def mayMeasure (s : State) (k : Nat) : Bool :=
  let c := s.coneKiln k
  (c.overdue || s.cone.queue.contains k || (c.due && s.cone.round)) && !(s.otherDrained k) && s.sys.mode != .boot &&
    s.sys.mode != .dormant

/-- The highest-index kiln in service starts its drain for parking. -/
def parkOne (s : State) : State :=
  match (s.kilnsIn .inService).getLast? with
  | none => s
  | some k => (s.startDrain k .park).modSys fun m => { m with parkedLately := 100 }

/-- The parking decision at a busy window's end. -/
def parkingDecision (s : State) (limitReached : Bool) : State :=
  let mean := mean16 ((s.kilnsIn .inService).map fun k => (mget (0, 0) s.setter.kilnBusy k).1)
  let s := s.modSys fun m =>
    { m with highRun := if 0xB333 < mean then m.highRun + 1 else 0, lowRun := if mean < 0x599A then m.lowRun + 1 else 0,
             parkedLately := m.parkedLately - 1 }
  match s.sys.mode with
  | .service | .drain | .ceremony =>
    if !s.sys.parkEnable then s.wakeSome 68
    else
      let s := s.wakeSome (s.sys.minAwake - s.awake)
      if 2 ≤ s.sys.highRun || limitReached then s.wakeSome 8
      else if 100 ≤ s.sys.lowRun && decide (s.sys.minAwake < (s.kilnsIn .inService).length) && s.mayPark then s.parkOne
      else s
  | .standby =>
    if s.awake < s.mir.warmKilns then s.wakeSome (s.mir.warmKilns - s.awake)
    else if decide (s.mir.warmKilns < (s.kilnsIn .inService).length) && s.mayPark then s.parkOne
    else s
  | .safe | .erased => forEach (s.kilnsIn .inService) (fun k s => s.parkThrough k) s
  | _ => s

end State

/-- The kiln exists. (DESIGN CHOICE, log 7) -/
def kilnUnit (k : Nat) : Bool := decide (k < 68)

/-! ## The commands -/

/-- A 1 ms busy window ends (R124, R476): the fraction of each engine at 16 n + e and of each wheel; whether a kiln's queue reached
KQ_LIMIT. -/
def execBusyWindowEnd (engines wheels : List (BitVec 16)) (limitReached : Bool) (s : State) : Res :=
  onUnit s (decide (engines.length = 1088 ∧ wheels.length = 136)) (
    let on := fun (k : Nat) => kilnOn (s.kiln k).state
    let eng := State.allKilns.flatMap fun k => (List.range 16).filterMap fun e =>
      let v := engines.getD (16 * k + e) 0
      if on k && v ≠ 0 then some (16 * k + e, v) else none
    let kln := State.allKilns.filterMap fun k =>
      let v := (BitVec.ofNat 16 (State.mean16 ((engines.drop (16 * k)).take 16)),
        BitVec.ofNat 16 (State.mean16 ((wheels.drop (2 * k)).take 2)))
      if on k && v ≠ (0, 0) then some (k, v) else none
    (s.modSetter fun t => { t with busySeq := t.busySeq + 2, engBusy := eng, kilnBusy := kln }).parkingDecision limitReached)

/-- The kiln has a valid bank of a level. -/
def Kiln.holds (x : Kiln) (lvl : BitVec 16) : Bool := (x.bankA.valid && x.bankA.level = lvl) || (x.bankB.valid && x.bankB.level = lvl)

/-- The level that a load brings into a kiln: the present one where the kiln lacks it, else the next. -/
def State.loadLevel (s : State) (k : Nat) : Option (BitVec 16) :=
  if (s.kiln k).holds s.fw.glazeLevel then s.fw.glazeNext else some s.fw.glazeLevel

/-- Step 2 of R133: the bank that does not hold the present level becomes invalid, and the copy begins. -/
def State.loadBegin (s : State) (k : Nat) : State :=
  s.modKiln k fun x =>
    let inB := x.bankA.valid && x.bankA.level = s.fw.glazeLevel
    { x with loading := some inB, bankA := if inB then x.bankA else { x.bankA with valid := false },
             bankB := if inB then { x.bankB with valid := false } else x.bankB }

/-- Steps 4 and 5 of R133: on a match the bank is valid; a first mismatch starts steps 2 to 4 again, a second withdraws the kiln. -/
def State.loadEnd (s : State) (k : Nat) (inB ok : Bool) (lvl : BitVec 16) : State :=
  let b : Bank := { valid := ok, level := lvl }
  let fails := if ok then 0 else (s.kiln k).loadFails + 1
  let s := s.modKiln k fun x =>
    { x with bankA := if inB then x.bankA else b, bankB := if inB then b else x.bankB, loadFails := fails,
             loading := if ok then none else x.loading }
  if 2 ≤ fails then s.withdraw k else s

/-- Kazkel loads a glaze set into a drained kiln (R133): with no digest the load begins; with one, the copy is hashed and compared.
(DESIGN CHOICE, log 127) -/
def execGlazeBankLoad (kiln : Nat) (digest : Option Bool) (s : State) : Res :=
  onUnit s (kilnUnit kiln) (when_ ((s.kiln kiln).state == .drained && (s.kiln kiln).drainFor == some .load) (fun s =>
    match s.loadLevel kiln, digest, (s.kiln kiln).loading with
    | some _, none, none => when_ (s.listedSaggars.all fun g => !(s.saggar g).busy) (fun s => s.loadBegin kiln) s
    | some lvl, some ok, some inB => s.loadEnd kiln inB ok lvl
    | _, _, _ => s) s)

/-- Kazkel unparks a kiln, or promotes the lowest-numbered spare where one of the kilns offered in service is missing (R148). -/
def execKilnWake (kiln : Nat) (s : State) : Res :=
  onUnit s (kilnUnit kiln) (
    let spare := (s.kilnsIn .spare).head? = some kiln && decide (s.activeKilns.length < Config.kilnsOffered)
    when_ (((s.kiln kiln).state == .parked || spare) && s.sys.mode != .safe && s.sys.mode != .erased && s.sys.mode != .dormant)
      (fun s => s.kilnWake kiln) s)

/-- A WAKING kiln has everything in place (R148). One that a GRAVE fault fenced on the way is WITHDRAWN, and retired unless it is the last
(R425, R460). -/
def execKilnWakeDone (kiln : Nat) (s : State) : Res :=
  onUnit s (kilnUnit kiln) (when_ ((s.kiln kiln).state == .waking) (fun s =>
    let s := s.kilnUp kiln
    when_ (s.bank (kilnBank kiln)).fenced (fun s =>
      let s := s.withdraw kiln
      if s.lastKiln kiln then s else s.modKiln kiln fun x => { x with drainFor := some .retire }) s) s)

/-- Kazkel starts a drain (R148, R149): 0 to park, 1 to measure, 2 to load a glaze set, 3 to retire. -/
def execKilnDrain (kiln why : Nat) (s : State) : Res :=
  onUnit s (kilnUnit kiln && decide (why < 4)) (
    match why with
    | 0 => when_ (s.mayPark) (fun s => s.startDrain kiln .park) s
    | 1 => when_ (s.mayMeasure kiln) (fun s => s.startDrain kiln .measure) s
    | 2 => when_ ((s.loadLevel kiln).isSome && s.measuringKiln.isNone) (fun s => s.startDrain kiln .load) s
    | _ => when_ (!(s.lastKiln kiln)) (fun s => s.startDrain kiln .retire) s)

/-- Nothing is left in a draining kiln (R149). -/
def execDrainComplete (kiln : Nat) (s : State) : Res :=
  onUnit s (kilnUnit kiln) (when_ ((s.kiln kiln).state == .draining && s.kilnEmpty kiln)
    (fun s => s.setKilnState kiln .drained) s)

/-- A drain not complete after 10 ms is abandoned; one for measurement is tried again (R149, R457). -/
def execDrainAbandon (kiln : Nat) (s : State) : Res :=
  onUnit s (kilnUnit kiln) (when_ ((s.kiln kiln).state == .draining) (fun s =>
    (s.modKiln kiln fun x => { x with drainFor := none, retryMeasure := x.drainFor == some .measure }).setKilnState kiln
      .inService) s)

/-- 1 s after an abandoned drain for measurement (R457). -/
def execDrainRetryTimer (kiln : Nat) (s : State) : Res :=
  onUnit s (kilnUnit kiln) (when_ ((s.kiln kiln).retryMeasure && (s.kiln kiln).state == .inService && s.mayMeasure kiln)
    (fun s => (s.modKiln kiln fun x => { x with retryMeasure := false }).startDrain kiln .measure) s)

/-- Kazkel parks a drained kiln (R148). -/
def execKilnPark (kiln : Nat) (s : State) : Res :=
  onUnit s (kilnUnit kiln) (when_ ((s.kiln kiln).state == .drained &&
      ((s.kiln kiln).drainFor == some .park || s.sys.mode == .safe || s.sys.mode == .erased)) (fun s => s.kilnOff kiln .parked) s)

/-- A drained kiln's work is done: it was measured since its drain, or holds the glaze level that it was drained for (R133, R148, R150). -/
def State.workDone (s : State) (k : Nat) : Bool :=
  match (s.kiln k).drainFor with
  | none => true
  | some .load => (s.fw.glazeNext.all fun lvl => (s.kiln k).holds lvl) && (s.kiln k).loading.isNone
  | some _ => false

/-- Kazkel returns a drained kiln to service after a glaze load or a measurement (R148). -/
def execKilnReturnService (kiln : Nat) (s : State) : Res :=
  onUnit s (kilnUnit kiln) (
    when_ ((s.kiln kiln).state == .drained && s.workDone kiln && (s.kiln kiln).holds s.fw.glazeLevel &&
        s.sys.mode != .safe && s.sys.mode != .erased)
      (fun s => (s.modKiln kiln fun x => { x with drainFor := none }).setKilnState kiln .inService) s)

/-- Kazkel retires a kiln marked for it, from DRAINED or WITHDRAWN; never the last (R459, R460). -/
def execKilnRetire (kiln : Nat) (s : State) : Res :=
  onUnit s (kilnUnit kiln) (when_ (((s.kiln kiln).state == .drained || (s.kiln kiln).state == .withdrawn) &&
      (s.kiln kiln).drainFor == some .retire && !(s.lastKiln kiln)) (fun s => s.retireKiln kiln) s)

/-- KLN_n_WITHDRAWN.RECENT: 0 to 2 (R154). -/
def Kiln.recent (x : Kiln) : Nat := min 2 x.withdrawnRecent

/-- A withdrawal is 24 h old (R150). -/
def execWithdrawal24hExpire (kiln : Nat) (s : State) : Res :=
  onUnit s (kilnUnit kiln) (s.modKiln kiln fun x => { x with withdrawnRecent := x.withdrawnRecent - 1 })

end Sys2Proof.Machine
end

