-- ==== Sys2Proof/Machine/Results.lean ====
section
/-! DEFINITION. The results of mailbox commands and of ceremonies (R321), each under its name. -/

namespace Sys2Proof.Machine

namespace Mr

def OK : Nat := 0x0000
def UNKNOWN_COMMAND : Nat := 0x0101
def BAD_LENGTH : Nat := 0x0102
def BAD_FIELD : Nat := 0x0103
def NO_LEVEL : Nat := 0x0104
def BUFFER_FAULT : Nat := 0x0105
def SEQUENCE : Nat := 0x0106
def IMAGE_FORMAT : Nat := 0x0107
def KEY_UNKNOWN : Nat := 0x0201
def IMAGE_SIGNATURE : Nat := 0x0202
def NOT_PERMITTED : Nat := 0x0301
def NOT_AUTHORISED : Nat := 0x0302
def LIMIT : Nat := 0x0303
def ROLLBACK : Nat := 0x0304
def TABLE_FULL : Nat := 0x0501
def POOL_EXHAUSTED : Nat := 0x0502
def ENTROPY_UNAVAILABLE : Nat := 0x0503
def ABORTED : Nat := 0x0601
def TIMED_OUT : Nat := 0x0602
def WRONG_MODE : Nat := 0x0701
def EPOCH_BUSY : Nat := 0x0702
def QUARANTINED : Nat := 0x0703
def TARGET_BUSY : Nat := 0x0704
def SAGGAR_STATE : Nat := 0x0705
def OWNER_LINK_UP : Nat := 0x0706
def UNMIRRORED : Nat := 0x0707

end Mr

end Sys2Proof.Machine
end

