-- ==== Sys2Proof/Machine/Modes.lean ====
section
/-! DEFINITION. Changes of mode (R465 to R468), what SAFE and ERASED do to wares, kilns, the link and a ceremony (R89, R357, R390,
R403), the erase of R401, and the end of a ceremony (R355 step 7). -/

namespace Sys2Proof.Machine

/-! ## The end of a ceremony -/

/-- The port is outside an exchange and its card unpowered (R343, R346). (DEDUCED, log 58) -/
def CusPort.off (p : CusPort) (st : CardState) : CusPort :=
  { p with link := {}, powered := false, classA := false, state := st, exch := .none, failures := 0, nonce := [], ephemeral := [], keys := [],
           sendCtr := 0, recvCtr := 0 }

/-- The saggar whose stream takes a ceremony's records (R359). -/
def Ceremony.target (c : Ceremony) : Option Nat :=
  if c.kind = 1 ∨ c.kind = 2 ∨ c.kind = 3 ∨ c.kind = 7 then some c.saggar else none

/-- The share bytes of a set are zeroed; who gave one stays countable. -/
def ShardSet.wiped (t : ShardSet) : ShardSet :=
  { t with shares := t.shares.map fun e => (e.1, e.2.1, []), combined := none }

namespace State

/-- A ceremony record: the reserved lane, the device stream and the target saggar's (R359, R434). -/
def cerRecord (s : State) (code : Nat) (data : Bytes) : State :=
  s.recordBoth { stream := devStream, source := srcOf Unit.kazkel 0, code := code, reserved := true,
                 data := leBytes s.cus.cer.number 4 ++ data } s.cus.cer.target

/-- A ceremony runs (R355). -/
def cerRuns (s : State) : Bool := s.cus.cer.step ≠ 0

/-- Step 7 of R355, without the change of mode: secrets and share buffers zeroed, latches cleared, CER_END, the journal closed. (DESIGN CHOICE, log 57) -/
def closeCeremony (s : State) (outcome : Nat) : State :=
  if !s.cerRuns then s
  else
    let s := s.cerRecord 0x0906 (leBytes outcome 2 ++ [byte (b2n s.cus.cer.committed)])
    let s := s.modKeys fun k => { k with saggars := mmap {} (fun _ g => { g with latch := false }) k.saggars }
    s.modCus fun c =>
      { c with
        port0 := c.port0.off .empty, port1 := c.port1.off .empty,
        cer := { c.cer with step := 0, outcome := outcome, aSet := c.cer.aSet.wiped, keySet := c.cer.keySet.map ShardSet.wiped,
                            outputs := c.cer.outputs.map fun o => { o with record := [] }, newKey := [], newSeed := [], newNonce := [],
                            newSecret := [] },
        journal := match c.journal with
          | e :: rest => { e with endRtc := some s.sys.rtc.toNat, outcome := some outcome } :: rest
          | [] => [] }

/-! ## Wares that SAFE and ERASED end (R89, R376, R403) -/

/-- A ware in flight and not refused ends with ABORTED_MODE, and a result it holds is discarded. (DESIGN CHOICE, log 57) -/
def modeAbort (s : State) (tag : Nat) : State :=
  match s.ware tag with
  | none => s
  | some w =>
    if w.phase == .refused then s
    else if w.phase == .ended then
      s.modWare tag fun w => { w with status := St.ABORTED_MODE, step := 0, result := [], staged := false, lineTag := none, replayed := false }
    else
      let s := s.unqueue (64 * w.cls + w.group) tag
      let s := when_ (w.phase == .stamped) (fun s => s.modWare tag fun w => { w with inline := inlineOf w.desc }) s
      if w.attachedTo.isSome then
        ((s.detach tag).modWare tag fun w => { w with attachedTo := none }).failWare tag St.ABORTED_MODE 0
      else s.abortFiring tag St.ABORTED_MODE

/-- Every ware in flight meets the loss of SERVICE (R403). -/
def haltWares (s : State) : State :=
  (forEach (s.tagsWhere fun w => w.phase != .refused) (fun t s => s.modeAbort t) s).settleEpochs

/-- R465: in SAFE and ERASED every kiln is drained and PARKED. A kiln under measurement or on its way up is drained after that
(R148). (DESIGN CHOICE, log 50) -/
def haltKilns (s : State) : State :=
  forEach allKilns (fun k s => s.parkThrough k) s

/-- The image slot that the running Kazkel booted from. -/
def modRunning (s : State) (f : Image → Image) : State :=
  s.modFw fun w =>
    { w with kazkel := if w.runningB then { w.kazkel with b := f w.kazkel.b } else { w.kazkel with a := f w.kazkel.a } }

/-- A trial that reaches CEREMONY, SERVICE, STANDBY or SAFE has its attempts set to 0 (R337). -/
def trialReached (s : State) : State :=
  s.modRunning fun x => if x.state == .trial then { x with attempts := 0 } else x

/-- A change of mode: MOD_STAT, the MODE record and vector 16. Cause 0 command, 1 tamper response, 2 fault, 3 boot. -/
def enterMode (s : State) (m : Mode) (cause : Nat) : State :=
  let old := s.sys.mode
  if old = m then s
  else
    let s := s.modSys fun x => { x with mode := m, prev := old, cause := BitVec.ofNat 2 cause }
    let s := s.record { stream := devStream, source := srcOf Unit.kazkel 0, code := 0x0C01, reserved := true,
                        data := [byte (modeCode old), byte (modeCode m), byte cause] }
    let s := s.raiseDevice 16
    if m == .safe then s.trialReached.haltWares.haltKilns
    else if m == .erased then s.haltWares.haltKilns
    else if m == .ceremony || m == .service || m == .standby then s.trialReached
    else s

/-- The guard actions of R390: the link is dropped, a ceremony is broken off (R357), firings stop, and the device enters SAFE,
unless it is ERASED; a boot goes on, and R470 sends it to SAFE (R468). (DESIGN CHOICE, log 59) -/
def guardActs (s : State) (cause : Nat) : State :=
  let s := (s.closeCeremony Mr.ABORTED).mirrorReset
  let s := s.modMir fun m => { m with switchback := none }
  match s.sys.mode with
  | .erased | .dormant => s
  | .boot => s.haltWares.haltKilns
  | _ => s.enterMode .safe cause

/-! ## The erase of R401 -/

/-- The inner store tweak keys of every owner tag are discarded: no line written before passes its integrity check (R35, R401). (DEDUCED, log 69) -/
def storeLost (s : State) : State :=
  let s := s.modKeys fun k =>
    { k with cache := [], saggars := mmap {} (fun _ g => { g with residence := [] }) k.saggars }
  let s := s.modMir fun m => { m with replay := [], dlog := [] }
  let s := s.modRouting fun r => { r with segments := mmap {} (fun _ g => { g with slots := [], shadow := [] }) r.segments }
  { s with mem := [], store := { s.store with keys := [] } }

/-- Steps 3 to 5: every secret the erase table names. What R402 names stays. -/
def eraseSecrets (s : State) : State :=
  let s := s.modKeys fun k =>
    { k with
      hearth := 3, hk := [], stored := none, evictKey := none, evictPos := 0,
      saggars := mmap {} (fun _ g => { g with slots := [], latch := false }) k.saggars }
  let s := { s with kilns := mmap {} (fun _ x => { x with slots := [], engines := [], wheelA := none, wheelB := none }) s.kilns,
                    wheels := mmap {} (fun _ x => { x with scratch := [] }) s.wheels }
  let s := forEach (allDrbgs.filter fun d => (s.drbg d).state != .off) (fun d s => s.drbgLost d) s
  let s := s.modEnt fun e => { e with seeds := [], blocks := [] }
  let s := s.modMir fun m => { m with session := [], controls := [] }
  let s := forEach [false, true] (fun b s => s.modSpdm b fun x => { x with ideKeys := [] }) s
  let s := s.modCus fun c => { c with port0 := { c.port0 with keys := [], ephemeral := [] },
                                      port1 := { c.port1 with keys := [], ephemeral := [] } }
  (s.modRouting fun r => { r with rows := [], ksets := [] }).storeLost

/-- An ERASE or ERASE_HALT (R390, R401, R403). (DESIGN CHOICE, log 59) -/
def eraseActs (s : State) (halt : Bool) : State :=
  let s := (s.closeCeremony Mr.ABORTED).mirrorReset
  let s := s.modMir fun m => { m with switchback := none }
  let s := s.haltWares.haltKilns.eraseSecrets
  let s := if s.sys.mode == .boot || s.sys.mode == .dormant then s
    else (s.enterMode .erased 1).modHost fun h => { h with ideRequired := false }
  if halt then s.modTmp fun t => { t with halted := true } else s

/-! ## DRAIN (R325, R460, R468) -/

/-- In SERVICE with the last kiln lost the device enters DRAIN (R460, R466). (DESIGN CHOICE, log 112) -/
def drainIfLost (s : State) : State := if s.sys.mode == .service && s.cone.lastLost then s.enterMode .drain 2 else s

/-- The last kiln is lost: DRAIN, and a MARGIN record of kind 8. During a ceremony the change waits for its end. (DESIGN CHOICE, log 112) -/
def lastKilnLost (s : State) (k : Nat) : State :=
  ((s.modCone fun c => { c with lastLost := true }).marginNote k 8).drainIfLost

/-- A passing measurement of the last kiln ends its condition (R466). (DESIGN CHOICE, log 112) -/
def lastKilnBack (s : State) : State :=
  let s := s.modCone fun c => { c with lastLost := false }
  if s.sys.mode == .drain && !s.sys.cmdDrain then s.enterMode .service 2 else s

end State

end Sys2Proof.Machine
end

