-- ==== Sys2Proof/Machine/Tamper.lean ====
section
/-! DEFINITION. Tamper monitors (chapter 15): assertion and deassertion of sources, responses, the evidence ring, double decisions,
fabric integrity, and the commands over them. -/

namespace Sys2Proof.Machine

/-! ## Sources and evidence entries (R391, R408) -/

abbrev respNote : Nat := 1
abbrev respGuard : Nat := 2
abbrev respErase : Nat := 3
abbrev respHalt : Nat := 4

abbrev srcDisagree : Nat := 25
abbrev srcFabric : Nat := 26
abbrev srcDouble : Nat := 27

abbrev causeUnder : Nat := 6
abbrev causeDisagree : Nat := 15
abbrev causeIntegrity : Nat := 16
abbrev causeDecision : Nat := 17


/-- A source asserts: fitted, and by either detector or of itself (R392, R395). -/
def TamperSource.asserted (t : TamperSource) : Bool := t.fitted && (t.detA || t.detB || t.own)

/-- Bytes 0 to 27 of an evidence entry (R408). (DESIGN CHOICE, log 61) -/
def evBody (e : Evidence) : Bytes :=
  leBytes e.number 4 ++ leBytes e.rtc 8 ++ [byte e.source, byte e.cause, byte e.response, byte e.flags] ++
  leBytes e.value.toNat 4 ++ [byte e.mode, byte e.govern] ++ leBytes e.repeats 2 ++ leBytes e.overflow 4

/-- The 32 bytes of an entry (R408). -/
def evBytes (e : Evidence) : Bytes := evBody e ++ leBytes (crc32c (evBody e)).toNat 4

/-- The sources the backup domain watches (R397). -/
def backupSources : List Nat := [0, 1, 2, 3, 4, 5, 6, 7, 8, 9, 10, 17, 18, 19, 22, 25]

/-- The verdict words of a double decision (R407). -/
def verdictYes : Word := 0x3CA55AC3
def verdictNo : Word := 0xC35AA53C

/-! ## The conditions of the sources (R391, R393) -/

/-- Nominal, UNDER and OVER in millivolts of the rails of sources 11 to 17 (R393). -/
def railLimits (i : Nat) : Nat × Nat × Nat :=
  match i with
  | 11 => (750, 675, 825)
  | 12 => (950, 855, 1045)
  | 13 => (1100, 990, 1210)
  | 14 => (1800, 1620, 1980)
  | 15 => (3300, 2970, 3630)
  | 16 => (850, 765, 935)
  | _ => (3000, 2500, 3600)

/-- `v` differs from `nominal` by more than `percent`. -/
def outside (v nominal percent : Nat) : Bool := decide (percent * nominal < 100 * (max v nominal - min v nominal))

/-- The condition of a source holds for one of its causes, by the measurement in the units of TMP_MEAS_s (R391, R393, R414). A line that
is open, shorted or of a wrong pattern, and a clock that has stopped or glitched, has no measure of its own. -/
def trips (loop : LoopCfg) (i cause : Nat) (value : Word) : Bool :=
  let v := value.toNat
  let rail := railLimits i
  if i ≤ 8 then
    cause = 1 || cause = 2 || cause = 4 || (cause = 3 && if i = 0 then decide (200 < v) else outside v loop.nominal.toNat loop.tol)
  else if i ≤ 10 then cause = 1 || cause = 2 || (cause = 3 && outside v 10000 30)
  else if i ≤ 17 then
    (cause = 5 && decide (rail.2.2 < v)) || (cause = 6 && decide (v < rail.2.1)) || (cause = 7 && i ≠ 17 && outside v rail.1 15)
  else match i with
    | 18 => cause = 8 && decide (value.toInt < -160)
    | 19 => cause = 9 && decide (1000 < value.toInt)
    | 20 => cause = 10 && decide (160 < value.toInt.natAbs)
    | 21 => cause = 7 || cause = 12 || (cause = 11 && outside v 10000 10)
    | 22 => cause = 12 || (cause = 11 && outside v 32768 5)
    | 23 => cause = 13 && decide (1000 < v)
    | _ => i = 24 && cause = 14 && decide (250 < v)

namespace State

/-- The window of the enclosure loop that a source watches: source k + 1 watches loop k. -/
def loopOf (s : State) (i : Nat) : LoopCfg := s.tmp.loops.getD (i - 1) {}

def tsource (s : State) (i : Nat) : TamperSource := s.tmp.sources.getD i { resp := 0, fitted := false }
def modTsource (s : State) (i : Nat) (f : TamperSource → TamperSource) : State :=
  s.modTmp fun t => { t with sources := t.sources.modify i f }

/-- TMP_ALARM_LIVE. -/
def alarmLive (s : State) (i : Nat) : Bool := (s.tsource i).asserted

/-- Less than `ticks` of the RTC have passed since `at_`. (DESIGN CHOICE, log 10) (DESIGN CHOICE, log 60) -/
def within (s : State) (at_ : Option Nat) (ticks : Nat) : Bool :=
  match at_ with
  | none => false
  | some t => decide (s.sys.rtc.toNat < t + ticks)

/-- A source of response GUARD or stronger is asserted (R352, R412). -/
def strongAsserted (s : State) : Bool :=
  (List.range 28).any fun i => s.alarmLive i && decide (respGuard ≤ (s.tsource i).resp)

/-- TMP_STAT.RECOVERABLE (R412). -/
def recoverable (s : State) : Bool :=
  (s.tmp.govern = respGuard || s.tmp.govern = respErase) && !s.strongAsserted && !(s.within s.tmp.strongOff rtcSecond)

/-! ## Evidence (R396, R408, R409) -/

/-- The next entry enters the ring, or is lost where its slot still holds an uncopied one. On main power it is also sent to the
device stream; on the backup cell it counts (R414). (DESIGN CHOICE, log 61) -/
def addEvidence (s : State) (i : Nat) (cleared backup : Bool) (mode govern : Nat) : State :=
  let x := s.tsource i
  if s.tmp.copied + 512 ≤ s.tmp.last then
    s.modTmp fun t => { t with lostNow := t.lostNow + 1, overflow := satInc t.overflow }
  else
    let e : Evidence :=
      { number := s.tmp.last + 1, rtc := s.sys.rtc.toNat, source := i, cause := x.cause, response := x.resp,
        flags := b2n backup + 2 * b2n x.detA + 4 * b2n x.detB + 8 * b2n cleared, value := x.value, mode := mode,
        govern := govern, repeats := x.repeats, overflow := s.tmp.lostNow }
    let s := s.modTmp fun t =>
      { t with last := t.last + 1, lostNow := 0, ring := mset none t.ring (t.last % 512) (some e),
               cellCount := if backup then satInc t.cellCount else t.cellCount }
    let s := s.modTsource i fun x => { x with repeats := 0 }
    if backup then s
    else s.record { stream := devStream, source := srcOf Unit.tamper i, code := 0x0801, reserved := true, data := evBody e }

/-- A bit of TMP_ALARM_STAT; its rise raises vector 16 (R396). -/
def raiseAlarm (s : State) (i : Nat) : State :=
  if s.tmp.alarm.getLsbD i then s else (s.modTmp fun t => { t with alarm := setBit t.alarm i }).raiseDevice 16

/-! ## Responses (R390, R400, R413) -/

/-- The actions of a response, on main power. -/
def respond (s : State) (resp : Nat) : State :=
  if resp = respHalt then s.eraseActs true
  else if resp = respErase then s.eraseActs false
  else if resp = respGuard then s.guardActs 1 else s

/-- An assertion on main power: the alarm bit, the governing response, the entry or its folding, and the response. -/
def assertNow (s : State) (i : Nat) : State :=
  let x := s.tsource i
  let mode := modeCode s.sys.mode
  let s := (s.raiseAlarm i).modTmp fun t => { t with govern := max t.govern x.resp }
  let s := if s.within x.offAt rtcSecond then s.modTsource i fun x => { x with repeats := x.repeats + 1 }
    else s.addEvidence i false false mode s.tmp.govern
  s.respond x.resp

/-- A detector of a source, or the source itself, asserts (R392, R393, R395). -/
def sourceOn (s : State) (i cause : Nat) (value : Word) (set : TamperSource → TamperSource) : State :=
  let x := s.tsource i
  let masked := decide (11 ≤ i ∧ i ≤ 16) && cause = causeUnder && s.sys.pwrfail
  if !x.fitted || masked then s
  else if x.asserted then s.modTsource i set
  else (s.modTsource i fun x => { set x with cause := cause, value := value }).assertNow i

/-- A source that no detector pair watches asserts: DISAGREE, FABRIC, DOUBLE. -/
def ownOn (s : State) (i cause : Nat) (value : Word) : State := s.sourceOn i cause value fun x => { x with own := true }

/-- A source deasserts: its CLEARED entry and the start of the times of R396 and R412. -/
def sourceOff (s : State) (i : Nat) : State :=
  let x := s.tsource i
  if !x.asserted then s
  else
    let backup := s.sys.mode == .dormant
    let s := s.addEvidence i true backup (modeCode s.sys.mode) (if backup then s.tmp.cellResp else s.tmp.govern)
    let s := s.modTsource i fun x => { x with detA := false, detB := false, own := false, offAt := some s.sys.rtc.toNat }
    if respGuard ≤ x.resp then s.modTmp fun t => { t with strongOff := some s.sys.rtc.toNat } else s

/-- A double decision mismatch (R407). -/
def doubleMismatch (s : State) (decision : Nat) : State :=
  (s.modTmp fun t => { t with decision := satInc t.decision }).ownOn srcDouble causeDecision (BitVec.ofNat 32 decision)

/-! ## Fabric integrity (R405) -/

/-- One beat failed: the count, and FABRIC on the fourth within 1 ms. (DESIGN CHOICE, log 60) -/
def beatFailed (s : State) : State :=
  let now := s.sys.rtc.toNat
  let recent := s.tmp.beats.filter fun t => decide ((now - t) * 1000 < rtcSecond)
  let s := s.modTmp fun t => { t with fabric := satInc t.fabric, beats := (now :: recent).take 4 }
  if 3 ≤ recent.length then s.ownOn srcFabric causeIntegrity 0 else s

/-! ## The backup domain (R397, R398) -/

/-- A backup-domain source asserts while main power is off. (DESIGN CHOICE, log 61) -/
def backupAssert (s : State) (i cause : Nat) (value : Word) (set : TamperSource → TamperSource) : State :=
  let x := s.tsource i
  if !x.fitted || !s.sys.backup then s
  else if x.asserted then s.modTsource i set
  else
    let s := s.modTsource i fun x => { set x with cause := cause, value := value }
    let s := if respErase ≤ x.resp then s.modKeys fun k => { k with stored := none } else s
    let s := s.modTmp fun t =>
      { t with cellResp := max t.cellResp x.resp, cellSource := if t.cellResp = 0 then i else t.cellSource }
    if s.within x.offAt rtcSecond then s.modTsource i fun x => { x with repeats := x.repeats + 1 }
    else s.addEvidence i false true 0 s.tmp.cellResp

/-! ## Configuration (R395) -/

/-- A write to TMP_RESP_s: a source no longer fitted deasserts. (DESIGN CHOICE, log 62) -/
def writeResp (s : State) (i v : Nat) : State :=
  let fit := bitAt v 8 || !decide (1 ≤ i ∧ i ≤ 10)
  let s := if fit then s else s.sourceOff i
  s.modTsource i fun x => { x with resp := max (min 4 (field v 0 3)) (floorResp i), fitted := fit }

/-- A write to TMP_LOOP_k_CFG. (DESIGN CHOICE, log 62) -/
def writeLoop (s : State) (k v : Nat) : State :=
  s.modTmp fun t => { t with loops := t.loops.set k { nominal := BitVec.ofNat 16 v, tol := clamp 5 50 (field v 16 8) } }

end State

/-! ## The commands -/

/-- A detector of a source asserts on main power, where its condition holds (R390, R391). (DESIGN CHOICE, log 7) -/
def execTamperSourceAssert (source : Nat) (detB : Bool) (cause : Nat) (value : Word) (s : State) : Res :=
  onUnit s (decide (source < 25)) (when_ (s.sys.mode != .dormant && trips (s.loopOf source) source cause value) (fun s => s.sourceOn source cause value fun x =>
    if detB then { x with detB := true, measB := BitVec.ofNat 16 value.toNat }
    else { x with detA := true, measA := BitVec.ofNat 16 value.toNat }) s)

/-- No detector pair differs (R392). -/
def State.detectorsAgree (s : State) : Bool := (List.range 25).all fun i => (s.tsource i).detA == (s.tsource i).detB

/-- The condition of a source has ended (R396); DISAGREE ends once the detectors agree (R392). FABRIC ends by FABRIC_QUIET_TIMEOUT and
DOUBLE with the reset alone. -/
def execTamperSourceDeassert (source : Nat) (s : State) : Res :=
  onUnit s (decide (source ≤ 25)) (when_ (source ≠ srcDisagree || s.detectorsAgree) (fun s => s.sourceOff source) s)

/-- A backup-domain source asserts while main power is off (R398). -/
def execBackupSourceAssert (source : Nat) (detB : Bool) (cause : Nat) (value : Word) (s : State) : Res :=
  onUnit s (decide (source < 28)) (when_ (s.sys.mode == .dormant && backupSources.contains source &&
      (source = srcDisagree || trips (s.loopOf source) source cause value)) (fun s =>
    s.backupAssert source cause value fun x =>
      if source = srcDisagree then { x with own := true }
      else if detB then { x with detB := true, measB := BitVec.ofNat 16 value.toNat }
      else { x with detA := true, measA := BitVec.ofNat 16 value.toNat }) s)

/-- One detector has asserted and the other not within its latency bound plus 1 ms (R392). -/
def execDetectorDisagreeTimeout (source : Nat) (s : State) : Res :=
  onUnit s (decide (source < 25)) (when_ ((s.tsource source).detA != (s.tsource source).detB) (fun s =>
    if s.sys.mode == .dormant then
      when_ (backupSources.contains source) (fun s =>
        s.backupAssert srcDisagree causeDisagree (BitVec.ofNat 32 source) fun x => { x with own := true }) s
    else s.ownOn srcDisagree causeDisagree (BitVec.ofNat 32 source)) s)

/-- The self-test stimulus of each second: all detectors pass, or a detector of one source fails (R392). -/
def execDetectorSelfTest (failed : Option Nat) (s : State) : Res :=
  match failed with
  | none => .next s
  | some i => onUnit s (decide (i < 25)) (when_ (s.sys.mode != .dormant) (fun s =>
      s.ownOn srcDisagree causeDisagree (BitVec.ofNat 32 i)) s)

/-- The second evaluation of a double decision ends (R407). A mismatch of the erase confirmation repeats the erase (R401). -/
def execDecisionSecondEval (decision : Nat) (first second : Word) (s : State) : Res :=
  onUnit s (decide (1 ≤ decision ∧ decision ≤ 4)) (when_ (s.sys.mode != .dormant) (fun s =>
    if first = second && (first = verdictYes || first = verdictNo) then s
    else (when_ (decision = 4) State.eraseSecrets s).doubleMismatch decision) s)

/-- 1 ms has passed without a beat failure (R405). -/
def execFabricQuietTimeout (s : State) : Res :=
  onUnit s true ((s.modTmp fun t => { t with beats := [] }).sourceOff srcFabric)

/-- Kazkel copies the oldest uncopied entry to NOR flash (R409); an entry of the backup cell is sent to the device stream now. -/
def execEvidenceCopy (s : State) : Res :=
  onUnit s true (when_ (decide (s.tmp.copied < s.tmp.last) && !s.tmp.norFull && s.sys.mode != .dormant) (fun s =>
    match mget none s.tmp.ring (s.tmp.copied % 512) with
    | none => s.modTmp fun t => { t with copied := t.copied + 1 }
    | some e =>
      let s := s.modTmp fun t =>
        let chain := padTo 32 (Config.sha256 (t.chain ++ evBytes e))
        { t with copied := t.copied + 1, norCount := t.norCount + 1, chain := chain, norRecords := (evBytes e ++ chain) :: t.norRecords,
                 norFull := decide (32768 ≤ t.norCount + 1) }
      when_ (bitAt e.flags 0) (fun s => s.record
        { stream := devStream, source := srcOf Unit.tamper e.source, code := 0x0801, reserved := true, data := evBody e }) s) s)

/-- A W1C write to TMP_ALARM_STAT: the bit of a source still asserted stays (R396). -/
def State.clearAlarm (s : State) (v : Nat) : State :=
  let keep := (List.range 28).foldl (fun (a : BitVec 28) i => if s.alarmLive i then setBit a i else a) 0
  s.modTmp fun t => { t with alarm := w1c t.alarm v ||| (t.alarm &&& keep) }

/-- A PF writes TMP_ALARM_STAT. -/
def execAlarmStatClear (fn : Nat) (value : Word) (s : State) : Res :=
  onUnit s (decide (fn < 1024)) (s.globalWrite fn fun s => s.clearAlarm value.toNat)

/-- A write to TMP_RESP_s or TMP_LOOP_k_CFG; sealed fields keep their values (R395). The copies follow at once. -/
def State.tamperConfig (s : State) (offset v : Nat) : State :=
  if s.tmp.sealed then s
  else if 0x60100 ≤ offset ∧ offset < 0x60170 ∧ offset % 4 = 0 then
    (s.writeResp ((offset - 0x60100) / 4) v).modTmp fun t => { t with norCopy := true }
  else if 0x60180 ≤ offset ∧ offset < 0x601A0 ∧ offset % 4 = 0 then
    (s.writeLoop ((offset - 0x60180) / 4) v).modTmp fun t => { t with norCopy := true }
  else s

/-- A PF writes TMP_RESP_s or TMP_LOOP_k_CFG. -/
def execTamperConfigWrite (fn offset : Nat) (value : Word) (s : State) : Res :=
  onUnit s (decide (fn < 1024)) (s.globalWrite fn fun s => s.tamperConfig offset value.toNat)

end Sys2Proof.Machine
end

