-- ==== Sys2Proof/Machine/FaultOps.lean ====
section
/-! DEFINITION. What a fault source does (R416 to R430): the sticky bit and its record, the operation it loses, its reactions, GRAVE
faults of local and device scope, parity faults, the error pin. -/

namespace Sys2Proof.Machine

namespace State

/-! ## The error pin (R429) -/

/-- Something holds ERR_OUT_N low beside the 1 ms hold. -/
def errHolds (s : State) : Bool :=
  s.flt.grave || s.flt.parity || s.flt.banks.any fun e => !e.2.distrusted && errHeld e.2 e.1

/-- The pin follows its conditions. -/
def errPin (s : State) : State := s.modFlt fun f => { f with errOut := f.errHold || s.errHolds }

/-- An occurrence with ERR effective: low for at least 1 ms. -/
def errOccurs (s : State) : State := s.modFlt fun f => { f with errOut := true, errHold := true }

/-! ## The operation in progress (R130, R143, R288, R424) -/

/-- A ware that needed what failed completes with `status`. (DESIGN CHOICE, log 63) -/
def faultWare (s : State) (tag status : Nat) : State :=
  match s.ware tag with
  | none => s
  | some w =>
    if isFiring w then s.abortFiring tag status
    else if w.placed.isSome && w.phase.queuedInKiln then s.endFiring tag status 0
    else if w.phase == .ended && w.staged then
      s.modWare tag fun w => { w with status := status, step := 0, result := [], staged := false, lineTag := none }
    else s

/-- A DRBG failed its known-answer test (R301, R305). -/
def drbgFails (s : State) (d : Nat) : State := s.changeDrbg d fun r => { insts := r.insts, state := .failed }

/-- A custodian port is deactivated (R343). (DESIGN CHOICE, log 65) -/
def portOff (s : State) (p : Nat) : State := s.modCusPort p fun x => x.off .empty

/-- The ware a fault names ends with a status; mailbox and custodian subjects are no wares. -/
def wareEnds (s : State) (b : Nat) (subject : Option Nat) (status : Nat) : State :=
  match subject with
  | some t => if b = 12 ∨ b = 14 then s else s.faultWare t status
  | none => s

/-- A wheel result that failed its check counts in the wheel's FAULT_CHK. -/
def wheelMiscalc (s : State) (b i : Nat) (subject : Option Nat) : State :=
  match (if isKilnBank b && i = 10 then (subject.bind s.ware).bind (·.wheel) else none) with
  | some m => s.modWheel m fun x => { x with faultChk := satInc x.faultChk }
  | none => s

/-- The bit of CLK_STAT.LOCKED of the PLL whose loss of lock a source is (R419, R480). -/
def pllOf (b i : Nat) : Option Nat :=
  match b, i with
  | 0, 7 => some 0
  | 1, 7 => some 1
  | 2, 8 => some 2
  | 3, 8 => some 3
  | 19, 6 => some 4
  | 15, 6 => some 5
  | 16, 5 => some 6
  | _, _ => none

/-- A PLL out of lock shows in CLK_STAT, until the next reset locks it again. (DESIGN CHOICE, log 112) -/
def pllLost (s : State) (b i : Nat) : State :=
  match pllOf b i with
  | some n => s.modSys fun m => { m with pll := m.pll &&& ~~~((1 : BitVec 7) <<< n) }
  | none => s

/-- What source `i` of bank `b` itself takes with it. `subject`: the ware, the custodian port of bank 14, the channel of bank 12. -/
def operationLost (s : State) (b i : Nat) (subject : Option Nat) : State :=
  let s := (s.wheelMiscalc b i subject).pllLost b i
  let s := if faultSev b i = sevMajor || ((b = 2 || b = 3) && (i = 4 || i = 5)) then s.wareEnds b subject St.ABORTED_FAULT
    else if i = 0 then s.wareEnds b subject St.ACCESS_VIOLATION else s
  if isKilnBank b && i = 11 then s.drbgFails (b - 32)
  else if b = 11 && i = 8 then s.drbgFails controlDrbg
  else if b = 9 && i = 4 then s.modEnt fun e => { e with conditionerOk := false, katDue := false, blocks := [] }
  else if b = 9 && i = 5 then s.modEnt fun e => { e with seeds := [] }
  else if b = 14 && i = 4 then (match subject with
    | some p => s.portOff p
    | none => s)
  else if b = 15 && i = 6 then s.linkDown false
  else s

/-! ## Block resets (R415, R423) -/

/-- The BLOCK reaction of a bank. A kiln starts no firing until Kazkel has run its reset. -/
def blockReset (s : State) (b : Nat) (subject : Option Nat) : State :=
  if isKilnBank b then
    if resettable (s.kiln (b - 32)).state then s.modKiln (b - 32) fun x => { x with blocked := true } else s
  else if b = 9 then s.modEnt fun e => { e with katDue := true, conditionerOk := true, blocks := [] }
  else if b = 12 then (match subject with
    | some c => s.dmaChannelReset c
    | none => s)
  else if b = 14 then (match subject with
    | some p => s.portOff p
    | none => s)
  else if b = 15 then s.mirrorReset
  else s

/-! ## GRAVE (R424 to R426) -/

/-- The device becomes GRAVE (R426). -/
def graveDevice (s : State) : State := ((s.modFlt fun f => { f with grave := true, errOut := true })).guardActs 2

/-- A kiln's GRAVE fault: its wares as R119 and R152 say, WITHDRAWN, and due for retirement unless it is the last (R425, R460). -/
def graveKiln (s : State) (k : Nat) : State :=
  let s := (s.loseKiln k).dropStaged k St.ABORTED_KILN_LOST
  if s.lastKiln k then s.lastKilnLost k else s.modKiln k fun x => { x with drainFor := some .retire }

/-- The effects of a GRAVE source of a bank. -/
def graveActs (s : State) (b : Nat) : State :=
  let s := s.modBank b fun x => { x with fenced := true }
  if deviceScope b then s.graveDevice
  else if b = 10 ∨ b = 11 then (if (s.bank 10).fenced && (s.bank 11).fenced then s.graveDevice else s)
  else if isKilnBank b then s.graveKiln (b - 32)
  else if b = 9 then (s.modEnt fun e => { e with stopped := true, blocks := [] }).entIrq entLow
  else if b = 12 then forEach ((List.range 32).filter fun c => (s.chan c).lent) (fun c s => s.dmaStop c) s
  else if b = 14 then (s.portOff 0).portOff 1
  else if b = 15 then s.linkDown false
  else s

/-! ## An occurrence (R416, R417, R420) -/

/-- The bank's domain is on. (DESIGN CHOICE, log 64) -/
def bankLive (s : State) (b : Nat) : Bool :=
  s.sys.mode != .dormant && (!(isKilnBank b) || kilnOn (s.kiln (b - 32)).state)

/-- The saggar of the ware a fault concerns, where it is known (R417). -/
def faultSaggar (s : State) (b : Nat) (subject : Option Nat) : Option Nat :=
  if b = 12 ∨ b = 14 then none else match subject.bind s.ware with
    | some w => if w.saggar < 256 then some w.saggar else none
    | none => none

/-- The FAULT record of a sticky bit's rise (R417, R434). -/
def faultRecord (s : State) (b i : Nat) (sag : Option Nat) : State :=
  s.recordBoth { stream := devStream, source := srcOf b i, code := 0x0101, reserved := faultSev b i = sevGrave,
                 data := [byte b, byte i, byte (faultSev b i)] } sag

/-- A source detects its condition. (DESIGN CHOICE, log 63) (DESIGN CHOICE, log 64) -/
def occur (s : State) (b i : Nat) (subject : Option Nat) : State :=
  let x := s.bank b
  if !(s.bankLive b) || faultSev b i = 0 then s
  else if x.distrusted then when_ (i = 1) beatFailed s
  else
    let re := reactionsOf x b i
    let rose := !(x.sticky.getLsbD i)
    let sag := s.faultSaggar b subject
    let s := s.modBank b fun x => { x with sticky := setBit x.sticky i }
    let s := when_ rose (fun s => (s.faultRecord b i sag).startFaultFlush) s
    let s := when_ (rose && re.getLsbD reactIrq) (fun s => s.raiseDevice 17) s
    let s := when_ (re.getLsbD reactErr) errOccurs s
    let s := s.operationLost b i subject
    let s := when_ (re.getLsbD reactBlock) (fun s => s.blockReset b subject) s
    let s := when_ (re.getLsbD reactChip && decide (s.tmp.govern < respGuard)) (fun s =>
      (s.modFlt fun f => { f with chipDue := true }).startFaultFlush) s
    let s := when_ (faultSev b i = sevGrave) (fun s => s.graveActs b) s
    when_ (i = 1) beatFailed s

/-- What firings have met in this command occurs in their kilns' banks, in order. -/
def settleFaults (s : State) : State :=
  forEach s.flt.due (fun d s => s.occur d.1 d.2.1 (some d.2.2)) (s.modFlt fun f => { f with due := [] })

/-- A bank's parity check mismatches (R427); a second time makes the device GRAVE (R428). (DESIGN CHOICE, log 64) -/
def parityFault (s : State) (b : Nat) : State :=
  let again := (s.bank b).parity
  let s := s.modBank b fun x => { x with parity := true, distrusted := true }
  let s := s.modFlt fun f => { f with parity := true, paritySafe := true, errOut := true }
  let s := s.record { stream := devStream, source := srcOf b 0, code := 0x0102, reserved := true, data := [byte b] }
  if again then s.graveDevice else s.guardActs 2

/-! ## The KILN reset with its hashes (R152) -/

/-- A KILN reset; a valid bank whose digest no longer matches raises GLAZE_HASH. -/
def kilnResetRun (s : State) (k cause : Nat) (hashA hashB : Bool) : State :=
  let x := s.kiln k
  if !(resettable x.state) then s
  else
    let bad := (x.bankA.valid && !hashA) || (x.bankB.valid && !hashB)
    let s := s.kilnReset k cause hashA hashB
    when_ bad (fun s => s.occur (kilnBank k) 15 none) s

end State

/-! ## The commands of the fault banks -/

/-- A fault bank source detects its condition (R416). -/
def execFaultSourceOccur (bank source : Nat) (subject : Option Nat) (s : State) : Res :=
  onUnit s (isBank bank && decide (faultSev bank source ≠ 0)) (s.occur bank source subject)

/-- A fabric beat fails its integrity code at the sink of a bank (R404, R405). -/
def execBeatIntegrityFail (bank : Nat) (s : State) : Res :=
  onUnit s (isBank bank) (s.occur bank 1 none)

/-- A bank's parity check mismatches (R427). -/
def execBankParityFault (bank : Nat) (s : State) : Res :=
  onUnit s (isBank bank) (when_ (s.bankLive bank) (fun s => s.parityFault bank) s)

/-- A W1C write to FLT_b_STICKY (R429). -/
def State.clearSticky (s : State) (b v : Nat) : State := (s.modBank b fun x => { x with sticky := w1c x.sticky v }).errPin

/-- A PF writes FLT_b_STICKY. -/
def execFaultStickyClear (fn bank : Nat) (value : Word) (s : State) : Res :=
  onUnit s (decide (fn < 1024) && isBank bank) (s.globalWrite fn fun s => s.clearSticky bank value.toNat)

/-- The 1 ms hold of ERR_OUT_N ends (R429). -/
def execErrPinHoldExpire (s : State) : Res :=
  onUnit s true ((s.modFlt fun f => { f with errHold := false }).errPin)

/-- Kazkel runs a KILN reset (R151, R152): cause 2 a BLOCK reaction, 3 a withdrawal. The reset of cause 1 is run by the mailbox command
KILN_RESET itself. (DESIGN CHOICE, log 127) -/
def execKilnResetRun (kiln cause : Nat) (hashA hashB : Bool) (s : State) : Res :=
  onUnit s (kilnUnit kiln && decide (1 ≤ cause ∧ cause ≤ 3)) (
    let x := s.kiln kiln
    when_ (((cause = 2 && x.blocked) || (cause = 3 && x.state == .withdrawn)) && !(s.bank (kilnBank kiln)).fenced)
      (fun s => s.kilnResetRun kiln cause hashA hashB) s)

/-- A kiln has not confirmed an epoch notice within 10 ms: it is taken out of service, and bank 1 says so (R119, R419). -/
def execEpochKilnLost (saggar kiln : Nat) (s : State) : Res :=
  onUnit s (kilnUnit kiln && decide (saggar < 256)) (when_ ((s.saggar saggar).awaiting.contains kiln)
    (fun s => (s.loseKiln kiln).occur 1 8 none) s)

/-! ## The conditioner (R296, R299, R301) -/

/-- A failed known-answer test stops all conditioning, and the entropy block's bank says so (R301). -/
def State.conditionerFails (s : State) : State :=
  (s.modEnt fun e => { e with conditionerOk := false, katDue := false, blocks := [] }).occur 9 4 none

/-- The conditioner takes 512 raw bits of the sources in POOL and completes a block, the third of which makes a seed (R296); its
known-answer test comes first where one is due. A seed that finds the queue full is dropped. (DESIGN CHOICE, log 46) -/
def execConditionBlockDone (run : BlockRun) (s : State) : Res :=
  onUnit s (decide (run.samples.length = 16)) (when_ (s.ent.conditionerOk && decide (4 ≤ s.inPool) && !(s.bank 9).fenced && s.sys.mode != .dormant) (fun s =>
    if s.ent.katDue && !run.selfTest then s.conditionerFails
    else match rawBits (allSources.filter fun i => (s.source i).state == .pool) run.samples with
      | none => s
      | some bits =>
        let made := s.ent.blocks ++ [conditionBlock bits]
        let full := decide (3 ≤ made.length)
        (s.modEnt fun e =>
          { e with
            katDue := false, blocks := if full then [] else made, startBlocks := min 4 (e.startBlocks + 1),
            seeds := if full then (e.seeds ++ [made.flatten]).take 256 else e.seeds }).entReadyCheck) s)

/-! ## The ends of a DMA descriptor (R506, R508, R510) -/

/-- The bank of the first internal address of a side that the channel's holder does not reach (R36). -/
def State.dmaBadBank (s : State) (i space base len lines stride : Nat) : Option Nat :=
  if space = 0 then none
  else
    let ls := dmaLines base lines stride
    if s.dmaReachesAll i ls len then none else some (State.dmaTargetBank (s.dmaFirstBad i ls len))

/-- The descriptor's destination takes the bytes that reached it. -/
def State.dmaWritten (s : State) (c : Nat) (data : Bytes) : State :=
  let d := (s.chan c).desc
  s.dmaSpread (s.chan c).fn (dmaDstSpace d) (dmaDstLen d) (dmaLines (dmaDst d) (dmaDstLines d) (dmaDstStride d)) data

/-- The data of a descriptor whose source and destination are reached; its half point comes before its last write (R507). A source line
that fails its integrity check gives no data: the stack's bank says so, and the descriptor ends BAD with cause SRC_READ (R35, R506). -/
def State.dmaFinish (s : State) (c : Nat) (hostData : Bytes) : State :=
  let ch := s.chan c
  let d := ch.desc
  match s.dmaBadBank ch.fn (dmaSrcSpace d) (dmaSrc d) (dmaSrcLen d) (dmaSrcLines d) (dmaSrcStride d) with
  | some b => s.dmaAccess c fun s => s.occur b 0 none
  | none =>
    match s.tagFirstBad (dmaSrcSpace d) (dmaLines (dmaSrc d) (dmaSrcLines d) (dmaSrcStride d)) (dmaSrcLen d) with
    | some a => ((s.occur (State.dmaTargetBank a) 4 none).dmaBad c 1).dmaNext c
    | none => match s.dmaBadBank ch.fn (dmaDstSpace d) (dmaDst d) (dmaDstLen d) (dmaDstLines d) (dmaDstStride d) with
      | some b => s.dmaAccess c fun s => s.occur b 0 none
      | none => ((s.dmaWritten c (s.dmaSource d hostData)).dmaHalf c).dmaDone c

/-- A descriptor's last write leaves, or it ends BAD (R506). -/
def execDmaDescriptorComplete (channel : Nat) (outcome : DmaEnd) (s : State) : Res :=
  onUnit s (dmaChan channel) (when_ (s.dmaLive channel && State.dmaBusy (s.chan channel)) (fun s =>
    match outcome with
    | .done data => s.dmaFinish channel data
    | .srcRead w => ((s.dmaWritten channel w).dmaBad channel 1).dmaNext channel
    | .dstWrite w => ((s.dmaWritten channel w).dmaBad channel 2).dmaNext channel
    | .access b w => (s.dmaWritten channel w).dmaAccess channel fun s => s.occur b 0 none) s)

/-- A DMA_CHANNEL reset (R510). -/
def execDmaChannelReset (channel : Nat) (s : State) : Res :=
  onUnit s (dmaChan channel) (when_ (s.chan channel).lent (fun s => s.dmaChannelReset channel) s)

end Sys2Proof.Machine
end

