-- ==== Sys2Proof/Machine/LcOps.lean ====
section
/-! DEFINITION. The lifecycle ledger (R481 to R487): codewords, decoding, the transitions that exist, what each state opens. -/

namespace Sys2Proof.Machine

/-- The selector of a state's codeword (R483); BLANK and INVALID have none. -/
def lcSelector : LcState → Option Nat
  | .testOpen => some 0x00FF
  | .testSealed => some 0xFF00
  | .personalised => some 0x0F0F
  | .field => some 0xF0F0
  | .fieldService => some 0x3333
  | .returned => some 0xCCCC
  | .scrapped => some 0x5555
  | .blank => none
  | .invalid => none

/-- The 128 bits of a codeword, byte 0 in bits [7:0] (R483). -/
def lcCodeword (sel : Nat) : BitVec 128 :=
  BitVec.ofNat 128 (leNat ((List.range 16).map fun j => if bitAt sel j then 0xF0 else 0x0F))

/-- The states that a slot can record. -/
def lcRecorded : List LcState := [.testOpen, .testSealed, .personalised, .field, .fieldService, .returned, .scrapped]

/-- The state whose codeword a slot holds. -/
def lcOfSlot (w : BitVec 128) : Option LcState :=
  lcRecorded.find? fun st => (lcSelector st).any fun sel => lcCodeword sel = w

/-- The pairs of R486. -/
def lcAllowed : LcState → LcState → Bool
  | .blank, .testOpen | .testOpen, .testSealed | .testSealed, .testOpen | .testSealed, .personalised
  | .personalised, .field | .field, .fieldService | .fieldService, .field | .fieldService, .returned
  | .blank, .scrapped | .testOpen, .scrapped | .testSealed, .scrapped | .personalised, .scrapped | .returned, .scrapped
  | .field, .scrapped | .fieldService, .scrapped => true
  | _, _ => false

/-- The decoding of the slots after one that recorded `st`. (DESIGN CHOICE, log 72) -/
def lcWalk (st : LcState) : List (BitVec 128) → LcState
  | [] => st
  | w :: ws => match lcOfSlot w with
    | none => .invalid
    | some t => if lcAllowed st t then lcWalk t ws else .invalid

/-- R484: the state a ledger decodes to. (DEDUCED, log 18) -/
def lcDecode : List (BitVec 128) → LcState
  | [] => .blank
  | w :: ws => match lcOfSlot w with
    | none => .invalid
    | some t => lcWalk t ws

/-- Slots of the ledger that record a state: tokens and allowances used (R487). -/
def lcUsed (ledger : List (BitVec 128)) (st : LcState) : Nat := (ledger.filter fun w => lcOfSlot w == some st).length

/-- Debug-open states (R491). -/
def lcDebugOpen : LcState → Bool
  | .blank | .testOpen | .fieldService | .returned => true
  | _ => false

/-- JTAG_ reach (R491, R493): 0 identity only, 1 boundary scan, 2 core debug, 3 full. -/
def lcReach : LcState → Nat
  | .blank | .testOpen | .returned => 3
  | .fieldService => 2
  | .testSealed | .personalised => 1
  | .field | .scrapped | .invalid => 0

/-- Kazkel seals the tamper block during boot (R395, R491). -/
def lcSeals : LcState → Bool
  | .testOpen | .testSealed | .personalised => false
  | _ => true

/-- The mode the state boots into, where R491 does not leave it to R470. -/
def lcBootMode : LcState → Option Mode
  | .personalised | .field | .fieldService => none
  | .scrapped | .invalid => some .erased
  | _ => some .safe

/-- States in which ceremonies run (R491). -/
def lcCeremonies : LcState → Bool
  | .personalised | .field | .fieldService => true
  | _ => false

/-- The key store is held in erase (R491). -/
def lcNoHearth : LcState → Bool
  | .scrapped | .invalid => true
  | _ => false

end Sys2Proof.Machine
end

