-- ==== Sys2Proof/Machine/Boot.lean ====
section
/-! DEFINITION. Resets and boot (R214, R337, R395, R399, R469 to R474): what each reset keeps, the boot sequence, the choice of the
mode at its end, and the commands that reset the device. -/

namespace Sys2Proof.Machine

/-- The kinds of a device reset, as MOD_RESET.LAST gives them (R480). -/
abbrev resetPowerOn : Nat := 0
abbrev resetPin : Nat := 1
abbrev resetWarm : Nat := 2

/-! ## What a reset keeps (R473): everything else returns to its reset value -/

/-- A kiln right after a reset (R147): kilns 0 to 63 are offered in service and start PARKED, 64 to 67 are the offered spares
(DESIGN CHOICE, log 11). KLN_n_CLK shows the plan that NOR flash keeps for it from the reset on (DESIGN CHOICE, log 128). A kiln fenced since the last
POWER_ON takes no work: it is WITHDRAWN, and retired unless it is the last (R424, R425, R460). (DESIGN CHOICE, log 112) -/
def kilnAfterReset (retired : List Nat) (fenced : Bool) (k : Nat) (x : Kiln) : Kiln :=
  let fence := fenced && !(retired.contains k)
  { freq := x.freq, volt := x.volt, ownPlan := x.ownPlan, drainFor := if fence then some .retire else none,
    state := if fence then .withdrawn else if k < Config.kilnsOffered then .parked else .spare }

/-- The last kiln not retired is fenced (R460). -/
def lastFenced (retired : List Nat) (fenced : Nat → Bool) : Bool :=
  match (List.range Config.kilnCount).filter fun k => !(retired.contains k) with
  | [k] => fenced k
  | _ => false

/-- After a boot a module allocates above the ceilings that NOR flash holds (R382). -/
def origsAfterReset (ceilings : List ((Nat × Nat) × Nat)) (g : Nat) (os : List Originator) : List Originator :=
  os.map fun o => match ceilings.find? fun e => e.1 == (g, o.serial) with
    | some e => { o with allocated := max o.allocated e.2 }
    | none => o

/-- DESIGN CHOICE, log 70. (DESIGN CHOICE, log 71) -/
def Saggar.afterReset (g : Saggar) (origs : List Originator) : Saggar :=
  { cnonce := g.cnonce, images := g.images, baseK := g.baseK, sizeK := g.sizeK, cacheQuota := g.cacheQuota,
    extQuota := g.extQuota, pol := g.pol, polOld := g.pol,
    revoked := match g.retired with
      | none => g.revoked
      | some e => g.revoked.filter fun r => r.2 ≠ e.toNat,
    origs := origs, hosts := g.hosts, ksetBase := g.ksetBase, ksetCount := g.ksetCount }

/-- A segment keeps its assignment and is IDLE and empty (R259). -/
def Segment.afterReset (g : Segment) : Segment :=
  if g.state == .free then {} else { state := .idle, hash := g.hash, saggar := g.saggar }

def CusPort.afterReset (p : CusPort) : CusPort := { present := p.present }

/-- A journal entry that a reset leaves open is closed (R355, R359). -/
def JournalEntry.afterReset (e : JournalEntry) : JournalEntry :=
  match e.outcome with
  | none => { e with outcome := some Mr.ABORTED }
  | some _ => e

/-- DESIGN CHOICE, log 62. -/
def TamperSource.afterReset (i : Nat) (t : TamperSource) : TamperSource :=
  { t with measA := 0, measB := 0, own := t.own && !(i = srcFabric || i = srcDouble) }

/-- DEDUCED, log 68. -/
def LogStream.afterReset (t : LogStream) : LogStream :=
  let top := ((t.blocks.flatMap (·.recs)).map (·.seq)).foldl max 0
  { t with next := top + 2 ^ 32, bootMark := true }

namespace State

/-- The state as a reset of a kind leaves it, before boot step 1. -/
def afterReset (s : State) (kind : Nat) : State :=
  let warm := kind = resetWarm
  let soft := kind ≠ resetPowerOn
  { host :=
      { splitLatch := s.host.splitLatch, bindings := s.host.bindings, idePolicy := s.host.idePolicy,
        portA := { perst := !soft || s.host.portA.perst, downAt := s.sys.rtc.toNat },
        portB := { perst := !soft || s.host.portB.perst, downAt := s.sys.rtc.toNat, fnSel := 512 } },
    kilns := State.allKilns.foldl (fun m k => mset {} m k
      (kilnAfterReset s.cone.retired (soft && (s.bank (kilnBank k)).fenced) k (s.kiln k))) [],
    keys := { stored := s.keys.stored, saggars := mmap {} (fun i g => g.afterReset (origsAfterReset s.mir.ceilings i g.origs)) s.keys.saggars },
    routing :=
      { segments := mmap {} (fun _ g => g.afterReset) s.routing.segments,
        grants := mmap {} (fun _ g => { g with filter := 0 }) s.routing.grants },
    ent :=
      { retiredList := s.ent.retiredList,
        sources := s.ent.retiredList.foldl (fun m i => mset {} m i { state := .retired }) [],
        drbgs := mmap {} (fun d r => { insts := if soft then r.insts else 0, state := if d = controlDrbg then .unseeded else .off })
          (minsert s.ent.drbgs controlDrbg (s.drbg controlDrbg)),
        arrivals := [(1, controlDrbg)] },
    fw := { s.fw with recovery := false, glazeNext := none, staging := none, warmDue := false },
    cus :=
      { port0 := s.cus.port0.afterReset, port1 := s.cus.port1.afterReset, rosters := s.cus.rosters,
        journal := s.cus.journal.map JournalEntry.afterReset,
        cer := { number := s.cus.cer.number } },
    mir :=
      { pair := s.mir.pair, link := if s.mir.pair.isSome then .down else .unpaired, term := s.mir.term, gen := s.mir.gen,
        auth := s.mir.auth, ceilings := s.mir.ceilings, lostAt := if s.mir.pair.isSome then some s.sys.rtc.toNat else none },
    tmp :=
      { sources := s.tmp.sources.mapIdx TamperSource.afterReset, loops := s.tmp.loops, alarm := if soft then s.tmp.alarm else 0,
        cellResp := s.tmp.cellResp, cellSource := s.tmp.cellSource, cellCount := s.tmp.cellCount, ring := s.tmp.ring,
        last := s.tmp.last, copied := s.tmp.copied, lostNow := s.tmp.lostNow, overflow := s.tmp.overflow,
        norFull := s.tmp.norFull, norCount := s.tmp.norCount, norRecords := s.tmp.norRecords, chain := s.tmp.chain, strongOff := s.tmp.strongOff,
        cellCopy := s.tmp.cellCopy, norCopy := s.tmp.norCopy, factorySeed := s.tmp.factorySeed, meshSeeds := s.tmp.meshSeeds },
    flt :=
      { banks := mmap {} (fun _ b =>
          { fenced := soft && b.fenced, sticky := if warm then b.sticky else 0, parity := warm && b.parity }) s.flt.banks,
        grave := soft && s.flt.grave, parity := warm && s.flt.parity, errOut := soft && s.flt.errOut, errHold := soft && s.flt.errHold },
    log :=
      { streams := mmap {} (fun _ t => t.afterReset) s.log.streams, free := s.log.free, erasing := s.log.erasing,
        budget := s.log.headerBudget, headerBudget := s.log.headerBudget },
    cone :=
      { s.cone with
        irq := 0, round := false, queue := [],
        lastLost := lastFenced s.cone.retired (fun k => soft && (s.bank (kilnBank k)).fenced) },
    sys :=
      { rtc := s.sys.rtc, rtcLost := s.sys.rtcLost, backup := s.sys.backup, pwrfail := soft && s.sys.pwrfail,
        boots := s.sys.boots },
    lcc := { ledger := s.lcc.ledger, state := lcDecode s.lcc.ledger },
    freeCtr := s.freeCtr, out := s.out, pending := s.pending }

/-! ## Boot steps 1 to 6 (R469) -/

/-- Every source still asserted acts again, without a new entry (R399, R400). (DESIGN CHOICE, log 71) -/
def liveSources (s : State) : State :=
  forEach ((List.range 28).filter fun i => s.alarmLive i) (fun i s =>
    ((s.raiseAlarm i).modTmp fun t => { t with govern := max t.govern (s.tsource i).resp }).respond (s.tsource i).resp) s

/-- Step 1: the response latch is read and cleared; GUARD and ERASE in it govern as live ones, ERASE_HALT as ERASE (R399). Step 3:
the lifecycle state is decoded. (DEDUCED, log 18) (DEDUCED, log 121) -/
def bootLatch (s : State) : State :=
  let s := s.modTmp fun t =>
    { t with govern := max t.govern (if respGuard ≤ t.cellResp then min respErase t.cellResp else 0), latchResp := t.cellResp, latchSource := t.cellSource, latchCount := t.cellCount, cellResp := 0, cellSource := 0,
             cellCount := 0 }
  s.modLcc fun l => { l with state := lcDecode l.ledger }

/-- The running slot and the slots as the boot ROM leaves them (R337): a TRIAL slot first, then the COMMITTED one. -/
def chooseKazkel (rollback : Nat) (okA okB : Bool) : Nat → Slots → Slots × Option Bool
  | 0, t => (t, none)
  | n + 1, t =>
    let pick := fun (st : SlotState) => if t.a.state == st then some false else if t.b.state == st then some true else none
    match (pick .trial).or (pick .committed) with
    | none => (t, none)
    | some b =>
      let x := if b then t.b else t.a
      let put := fun (y : Image) => if b then { t with b := y } else { t with a := y }
      if x.state == .trial && decide (2 ≤ x.attempts) then chooseKazkel rollback okA okB n (put { x with state := .rejected })
      else if (if b then okB else okA) && decide (rollback ≤ x.svn) then
        (put { x with attempts := if x.state == .trial then x.attempts + 1 else x.attempts }, some b)
      else chooseKazkel rollback okA okB n (put { x with state := .rejected })

/-- The glaze level of the set that Kazkel loads: the TRIAL slot's if there is one (R337). -/
def bootLevel (t : Slots) : Nat :=
  let x := if t.a.state == .trial then t.a else if t.b.state == .trial then t.b
    else if t.b.state == .committed then t.b else t.a
  leAt x.version 0 2

/-- Step 4: a Kazkel slot is chosen, or recovery entered (R337, R340). -/
def bootFirmware (s : State) (okA okB : Bool) : State :=
  let r := chooseKazkel s.fw.rollback okA okB 5 s.fw.kazkel
  s.modFw fun w =>
    { w with kazkel := r.1, runningB := r.2.getD false, recovery := r.2.isNone, glazeLevel := BitVec.ofNat 16 (bootLevel w.glaze) }

/-- Steps 5 and 6: link training, the device policy, the tamper configuration and its seal, the losses of the backup cell, the BOOT
record, and the pair record's boot number. -/
def bootKazkel (s : State) (kind : Nat) : State :=
  let s := s.modHost fun h =>
    { h with split := h.splitLatch, ideRequired := h.idePolicy, portA := { h.portA with training := true },
             portB := { h.portB with training := h.splitLatch } }
  let s := s.record
    { stream := devStream, source := srcOf Unit.kazkel 0, code := 0x0F04, reserved := true,
      data := [byte kind, 0, 0, 0] ++
        leBytes (s.tmp.latchResp + 2 ^ 8 * s.tmp.latchSource + 2 ^ 16 * s.tmp.latchCount.toNat) 4 }
  let s := when_ s.sys.rtcLost (fun s => (s.kazkelRecord Config.rtcLossCode []).modSys fun m => { m with rtcLost := false }) s
  let s := when_ (!s.tmp.cellCopy) (fun s =>
    let s := s.kazkelRecord 0x0802 [byte (b2n (!s.tmp.norCopy))] true
    s.modTmp fun t =>
      if t.norCopy then { t with cellCopy := true }
      else { t with cellCopy := true, loops := List.replicate 8 {},
                    sources := t.sources.mapIdx fun i x => { x with resp := defaultResp i, fitted := true } }) s
  let s := s.modTmp fun t => { t with sealed := lcSeals s.lcc.state }
  s.modMir fun m => { m with pair := m.pair.map fun p => { p with boot := (p.boot + 1) % 2 ^ 32 } }

/-- The retirement list is applied (R147, R459): each listed kiln is RETIRED, and a spare is promoted for each kiln offered in service
that is. (DESIGN CHOICE, log 11) -/
def applyRetired (s : State) : State :=
  let s := forEach s.cone.retired (fun k s => s.setKilnState k .retired) s
  let missing := Config.kilnsOffered - (s.activeKilns.filter fun k => k < Config.kilnsOffered).length
  forEach (List.range (min missing s.sparesLeft)) (fun _ s => s.promoteSpare) s

/-- A reset and the boot it starts, up to step 6, or up to recovery. (DESIGN CHOICE, log 67) (DEDUCED, log 113) -/
def reboot (s : State) (kind cause : Nat) (facts : BootFacts) : State :=
  let s := s.afterReset kind
  let s := s.modHost fun h => { h with splitLatch := if kind = resetWarm then h.splitLatch else facts.split }
  let s := s.modSys fun m =>
    { m with
      mode := .boot, prev := .dormant, lastReset := BitVec.ofNat 2 kind, warmCause := BitVec.ofNat 4 cause,
      backup := true, boots := if kind = resetPowerOn then 1 else satInc m.boots, unwraps := facts.unwraps, pairOk := facts.pairOk, pll := 0x7F,
      refclkOk := true, mrclkOk := true, xtalOk := true }
  let s := (s.bootLatch.bootFirmware facts.okA facts.okB)
  let s := if s.fw.recovery then
      (s.modHost fun h => { h with split := h.splitLatch, portA := { h.portA with training := true } }).modSys fun m =>
        { m with bootStep := 3 }
    else (s.bootKazkel kind).applyRetired.modSys fun m => { m with bootStep := 6 }
  s.liveSources

/-! ## Step 7: the hearth and the master slots (R214, R219) -/

/-- A record that the hearth key authenticates is absent under a new hearth (R214, R334). (DEDUCED, log 69) -/
def newHearth (s : State) : State :=
  let s := s.modHost fun h =>
    { h with bindings := [], idePolicy := false, ideRequired := false, fns := mmap {} (fun _ f => { f with bound := none }) h.fns }
  let s := s.modMir fun m => { m with pair := none, link := .unpaired, ceilings := [], term := 0, gen := 0, lostAt := none }
  let s := s.modCus fun c => { c with rosters := [] }
  let s := s.modRouting fun r => { r with segments := [], grants := [] }
  s.modKeys fun k => { k with saggars := [] }

/-- The hearth is loaded, substituted, generated, or held in erase. -/
def bootHearth (s : State) : State :=
  let st := s.lcc.state
  let held := (List.range 28).any fun i => s.alarmLive i && decide (respErase ≤ (s.tsource i).resp)
  if lcNoHearth st then s.modKeys fun k => { k with hearth := 3, hk := [] }
  else if lcDebugOpen st then s.modKeys fun k => { k with hearth := 2, hk := Config.testHearth }
  else match (if s.sys.unwraps then s.keys.stored else none) with
    | some hk => s.modKeys fun k => { k with hearth := 1, hk := hk }
    | none =>
      let s := when_ s.keys.stored.isSome (fun s => s.kazkelRecord 0x0404 [byte s.keys.hearth.toNat, 1] true) s
      if held then s.modKeys fun k => { k with hearth := 3, hk := [], stored := none }
      else
        let r := s.controlBytes 32
        match r.2 with
        | none => r.1
        | some hk =>
          let s := (r.1.modKeys fun k => { k with hearth := 1, hk := hk, stored := some hk }).newHearth
          (s.modSys fun m => { m with hearthMade := true }).kazkelRecord 0x0404 [1, 2] true

/-- Step 7, once the control DRBG is instantiated: the tweak keys are drawn, the operand pages counted (R289) and the hearth found.
(DESIGN CHOICE, log 67) -/
def bootStep7 (s : State) : State :=
  if s.sys.mode != .boot || s.sys.bootStep ≠ 6 || s.drbgRefuses controlDrbg then s
  else match s.controlBytes (257 * 32) with
    | (s, none) => s
    | (s, some r) =>
      (((s.setTweaks r).modStore fun t => { t with total := Config.operandPages }).bootHearth).modSys fun m =>
        { m with bootStep := 7 }

/-- An attribute word of an SSK: USAGE K1, MODE X, ALG AES (R218). -/
def sskForm (a : Nat) : Bool := attrUsage a = Us.K1 && attrMode a = Md.X && attrAlg a = Alg.AES

/-- The key bank of a saggar's master slots, and the bank slot of slot `j` (R218). -/
def keyBank (g : Nat) : Nat := g % 4
def bankSlot (g j : Nat) : Nat := 16 * (g / 4) + j

/-- Slot `n` of key bank `b`: slot n mod 16 of saggar 4 ⌊n ÷ 16⌋ + b (R218). -/
def inBank (s : State) (b n : Nat) : Option KeyVal := mget none (s.saggar (4 * (n / 16) + b)).slots (n % 16)

/-- The key that an image of slot `j` of saggar `g` holds: its tag verifies under KW(g) and its header names the target (R219); slot 0
takes an SSK only (R218). -/
def imageKey (s : State) (g j : Nat) (image : Bytes) : Option KeyVal :=
  let b := blobFields image
  if b.magicOk && b.fmt = 0x81 && b.reservedOk && b.saggar = g && b.handle = j && b.bepoch = 0 && (j ≠ 0 || sskForm b.attr) then
    (openBlob (slotWrapKey s.keys.hk g (s.saggar g).cnonce) (slice image 0 48) (image.drop 48)).map fun mat =>
      { handle := j, attr := b.attr, material := mat, serial := b.serial, bepoch := 0 }
  else none

/-- Writes a master slot; SSK makes the saggar ACTIVE (R217). The pages of its quota reach it as their wipes end (R268, R269). -/
def setMaster (s : State) (g j : Nat) (k : KeyVal) : State :=
  let s := s.modSaggar g fun x => { x with slots := mset none x.slots j (some k) }
  if j = 0 then s.modSaggar g fun x => { x with state := .active } else s

/-- The write port refuses an operation: the result, and PORT_MISUSE in the bank's fault bank (R219, R419). -/
def portRefuse (s : State) (g : Nat) (r : PortResult) : State :=
  (s.modKeys fun k => { k with portResult := r }).occur (4 + keyBank g) 5 none

def portDone (s : State) : State := s.modKeys fun k => { k with portResult := .done }

/-- LOAD of the write port: during boot, into an empty slot, an image that verifies (R219). Kazkel starts it for an image that NOR flash
holds. -/
def loadMaster (s : State) (g j : Nat) : State :=
  let x := s.saggar g
  match x.images.find? fun e => e.1 = j with
  | none => s
  | some e =>
    if s.sys.mode != .boot || s.sys.bootStep < 7 || (mget none x.slots j).isSome then s.portRefuse g .slotBusy
    else if s.keys.hearth = 3 || s.keys.hearth = 0 then s.portRefuse g .badImage
    else match s.imageKey g j e.2 with
      | none => s.portRefuse g .badImage
      | some k => s.portDone.setMaster g j k

/-- Every image whose slot is still empty; Kazkel starts no LOAD without a hearth. -/
def loadMasters (s : State) : State :=
  if s.keys.hearth = 3 || s.keys.hearth = 0 then s
  else forEach s.listedSaggars (fun g s => forEach (List.range 16) (fun j s =>
    if (mget none (s.saggar g).slots j).isSome then s else s.loadMaster g j) s) s

/-! ## Steps 8 and 9 (R469, R470, R476) -/

/-- SET_COST_z as Kazkel writes it at the present glaze level (R135). -/
def glazeCosts : List Nat := [10, 20, 30, 40, 50, 70, 100, 160, 320, 640, 1280, 2560, 4095, 4095, 4095, 4095]

/-- ENT_TEST as Kazkel writes it from the glaze set: the cutoffs that follow from H = 0.5, at every level (R291, R292). (DESIGN CHOICE, log 137) -/
def writeEntTest (s : State) : State := s.modEnt fun e => { e with rctC := 0x51, aptC := 0x348 }

/-- The response that governs, live or latched (R399, R400, R470). (DEDUCED, log 121) -/
def governs (s : State) : Nat := max s.tmp.govern s.tmp.latchResp

/-- R470: the mode at the end of boot. A parity fault during the boot sends it to SAFE (R427, R466). (DESIGN CHOICE, log 64) (DEDUCED, log 121) -/
def bootMode (s : State) : Mode :=
  match lcBootMode s.lcc.state with
  | some m => m
  | none =>
    if s.flt.grave || s.governs = respGuard || s.flt.paritySafe then .safe
    else if decide (respErase ≤ s.governs) || s.sys.hearthMade || (s.saggar 0).state == .none then .erased
    else if s.mir.pair.isSome then .standby
    else .service

/-- Kilns kept in service in a mode (R476). -/
def kilnsFor (s : State) (m : Mode) : Nat :=
  match m with
  | .standby => s.mir.warmKilns
  | .safe | .erased => 0
  | _ => if s.sys.parkEnable then s.sys.minAwake else 68

/-- Unparks kilns, lowest index first, through WAKING into service, and brings the promoted spares into service. -/
def bootKilns (s : State) (n : Nat) : State :=
  let s := forEach ((s.kilnsIn .parked).take n) (fun k s => (s.kilnWake k).kilnUp k) s
  forEach (s.kilnsIn .waking) (fun k s => s.kilnUp k) s

/-- The stored binding of a function index is applied (R50). -/
def applyBinding (s : State) (i : Nat) : State :=
  s.modFn i fun f => { f with bound := (s.host.bindings.find? fun e => e.1 = i).map (·.2) }

/-- The functions become ready on every port whose reset is released (R45, R469). -/
def makeReady (s : State) : State :=
  let s := s.modSys fun m => { m with fnsReady := true }
  let s := s.modHost fun h =>
    { h with portA := { h.portA with ready := !h.portA.perst }, portB := { h.portB with ready := h.split && !h.portB.perst } }
  forEach ((List.range 1024).filter fun i => s.present i) (fun i s => s.applyBinding i) s

/-- The running Kazkel image. -/
def runningImage (s : State) : Image := if s.fw.runningB then s.fw.kazkel.b else s.fw.kazkel.a

/-- The glaze image in force. -/
def glazeImage (s : State) : Image :=
  let t := s.fw.glaze
  if t.a.state == .trial then t.a else if t.b.state == .trial then t.b else if t.b.state == .committed then t.b else t.a

/-- Measurement block `i` (R68). -/
def measurement (s : State) (i : Nat) : Bytes :=
  let x := s.runningImage
  Config.sha384 (Config.measured i (match i with
    | 1 => []
    | 2 => x.digest
    | 3 => x.version ++ [byte x.levelMin, byte x.levelMax]
    | 4 => s.glazeImage.digest ++ leBytes s.fw.glazeLevel.toNat 2
    | 5 => [byte (lcCode s.lcc.state), byte Config.part, byte Config.stepping, byte Config.kilnsOffered,
            byte Config.sparesOffered, byte Config.storeGib, byte (b2n Config.x16)]
    | _ => [byte (b2n s.host.ideRequired)]))

/-- The six measurements together, as the alias certificate carries them from this boot on (R68). -/
def measurements (s : State) : Bytes := [1, 2, 3, 4, 5, 6].flatMap s.measurement

/-- Every mesh LFSR is reseeded from the control DRBG (R394). -/
def reseedMesh (s : State) : State :=
  s.withControl (4 * 40) .mesh fun r s => s.modTmp fun t => { t with factorySeed := false, meshSeeds := r }

/-- Steps 8 and 9: a pair record that does not verify is deleted; kilns are woken; functions are ready; the mesh LFSRs are reseeded
(R394); BOOT is left. (DESIGN CHOICE, log 67) -/
def endBoot (s : State) (ms : Nat) : State :=
  let s := s.loadMasters
  let s := when_ (s.mir.pair.isSome && !s.sys.pairOk) (fun s =>
    s.modMir fun m => { m with pair := none, link := .unpaired, term := 0, gen := 0, lostAt := none }) s
  let m := s.bootMode
  let s := (s.modSetter fun t => { t with costs := glazeCosts }).writeEntTest.reseedEviction
  let s := (s.bootKilns (s.kilnsFor m)).makeReady.reseedMesh
  let s := s.modSys fun x => { x with bootStep := 9, bootMs := BitVec.ofNat 16 (min 0xFFFF ms) }
  let s := s.modHost fun h => { h with aliasBound := s.measurements }
  (s.enterMode m 3).drainIfLost

end State

/-! ## The commands -/

/-- Main rails rise, from DORMANT or on first application of power (R471). (DESIGN CHOICE, log 70) -/
def execPowerOn (facts : BootFacts) (s : State) : Res := onUnit s true (s.reboot resetPowerOn 0 facts)

/-- SYS_RST_N low and high again (R471); without effect while ERASE_HALT holds, or without main power (R468). -/
def execPinReset (facts : BootFacts) (s : State) : Res :=
  onUnit s true (when_ (!s.tmp.halted && s.sys.mode != .dormant) (fun s => s.reboot resetPin 0 facts) s)

/-- A WARM reset of a cause is due: 3 an activation asked for it, 4 recovery staged an image, 5 a CHIP reaction waits. The resets of
causes 1 and 2 run with the writes of RECOVER themselves (R412, R428). (DESIGN CHOICE, log 143) -/
def State.warmReady (s : State) (cause : Nat) : Bool :=
  match cause with
  | 3 => s.fw.warmDue && !s.fw.recovery
  | 4 => s.fw.warmDue && s.fw.recovery
  | 5 => s.flt.chipDue && decide (s.tmp.govern < respGuard)
  | _ => false

/-- Kazkel or a CHIP reaction applies a WARM reset (R336, R340, R422, R471). -/
def execWarmReset (cause : Nat) (facts : BootFacts) (s : State) : Res :=
  onUnit s (decide (1 ≤ cause ∧ cause ≤ 5)) (when_ (s.warmReady cause && !s.tmp.halted && s.sys.mode != .dormant)
    (fun s => s.reboot resetWarm cause facts) s)

/-- The write port loads a master slot during boot (R219). -/
def execKeystoreLoad (saggar slot : Nat) (s : State) : Res :=
  onUnit s (decide (saggar < 256 ∧ slot < 16)) (s.loadMaster saggar slot)

/-- Boot step 9 (R470). -/
def execBootEnd (ms : Nat) (s : State) : Res :=
  onUnit s true (when_ (s.sys.mode == .boot && s.sys.bootStep = 7 && !s.tmp.halted) (fun s => s.endBoot ms) s)

/-- 900 ms after the release of reset the functions become ready (R469). -/
def execBootReadyTimeout (s : State) : Res :=
  onUnit s true (when_ (s.sys.mode == .boot && !s.sys.fnsReady && !s.tmp.halted) State.makeReady s)

/-- TMP_CTL.RECOVER (R412). -/
def execTamperRecover (fn : Nat) (facts : BootFacts) (s : State) : Res :=
  onUnit s (decide (fn < 1024)) (s.globalWrite fn fun s => when_ s.recoverable (fun s => s.reboot resetWarm 1 facts) s)

/-- FLT_CTL.RECOVER (R428). -/
def execFaultRecover (fn : Nat) (facts : BootFacts) (s : State) : Res :=
  onUnit s (decide (fn < 1024)) (s.globalWrite fn fun s =>
    when_ (s.flt.parity && !s.flt.grave && decide (s.tmp.govern < respGuard)) (fun s => s.reboot resetWarm 2 facts) s)

/-- PWRFAIL_N falls: the power-fail flush begins (R446, R477). -/
def execPwrfailFall (s : State) : Res :=
  onUnit s true (when_ (!s.sys.pwrfail && s.sys.mode != .dormant) (fun s =>
    (s.modSys fun m => { m with pwrfail := true }).modLog fun l => { l with flush := .power }) s)

/-- PWRFAIL_N rises before the rails are lost (R447, R477): after step 4 of the flush, normal writing resumes. -/
def execPwrfailRise (s : State) : Res :=
  onUnit s true (when_ s.sys.pwrfail (fun s =>
    (s.modSys fun m => { m with pwrfail := false }).modLog fun l =>
      if l.stopped then { l with stopped := false, flush := .none } else l) s)

/-- A main rail leaves its range while PWRFAIL_N is low: DORMANT; all but the backup domain and the non-volatile stores is lost. -/
def execMainRailLoss (s : State) : Res :=
  onUnit s true (when_ (s.sys.pwrfail && s.sys.mode != .dormant) (fun s =>
    (s.afterReset resetPowerOn).modSys fun m => { m with mode := .dormant, boots := 0 }) s)

end Sys2Proof.Machine
end

