-- ==== Sys2Proof/Machine/HostCmds.lean ====
section
/-! DEFINITION. The commands of the host port (chapter 02): port resets and links, D-states, function-level resets and SR-IOV, host
protocol violations and quarantine, IDE and SPDM, MSI-X unmasking, dirty-page logging. -/

namespace Sys2Proof.Machine

namespace State

/-! ## Ports (R41, R44, R45) -/

/-- The port exists: port B only in the split arrangement (R40). -/
def portExists (s : State) (b : Bool) : Bool := !b || s.host.split

/-- The functions of a port that exist. -/
def presentOn (s : State) (b : Bool) : List Nat := (s.fnsOf b).filter fun i => s.present i

/-- The boot has reached step 5: ports train, and Kazkel serves (R469). -/
def trains (s : State) : Bool := s.sys.mode != .dormant && (decide (5 ≤ s.sys.bootStep) || s.fw.recovery)

/-- What a HOST_PORT reset takes from one function (R44, R473 rows 7 to 9 and 16). -/
def hostPortFn (s : State) (i : Nat) : State :=
  let s := (((s.advanceGen i).clearFn i).clearBoxes i).dropHeld i
  s.modFn i fun f => { f with dpl := {}, queue := [], reading := false, flr := false }

/-- A HOST_PORT reset (R44). (DESIGN CHOICE, log 73) -/
def hostPortReset (s : State) (b : Bool) : State :=
  let s := forEach (s.presentOn b) (fun i s => s.hostPortFn i) s
  let s := s.modHost fun h => { h with fns := mmap {} (fun i f => if s.portOf i = b then { f with dpl := {} } else f) h.fns }
  let s := s.modSpdm b fun _ => {}
  s.modPort b fun p => { fnSel := if b then 512 else 0, downAt := if p.up then s.sys.rtc.toNat else p.downAt }

/-! ## Functions that come and go (R49, R59) -/

/-- Step 4 of R59: Kazkel drops the function's commands and takes back its channels. -/
def flrFinish (s : State) (i : Nat) : State :=
  let s := s.clearBoxes i
  let s := forEach (s.lentTo i) (fun c s => s.dmaReturn c) s
  s.modFn i fun f => { f with flr := false }

/-- The VFs of a port with numbers above `n`. -/
def vfsAbove (s : State) (b : Bool) (n : Nat) : List Nat :=
  (s.presentOn b).filter fun i => decide (n < i - pfOf b)

/-- TotalVFs of a port (R46). -/
def totalVfs (s : State) : Nat := if s.host.split then 511 else 1023

/-! ## BAR accesses that are answered with zero or dropped (R59, R69) -/

/-- A BAR access the host port refuses: a read completes with zero. -/
def refusedAccess (s : State) (i bit : Nat) (read : Bool) (offset : Nat) : State :=
  if s.answers i then when_ read (fun s => s.barAnswer i offset 0) (s.violation i bit)
  else when_ (read && (s.fn i).flr && s.present i) (fun s => s.barAnswer i offset 0) s

/-! ## SPDM (R67, R68) -/

/-- The PF's DOE mailbox answers (R46). -/
def doeLive (s : State) (b : Bool) : Bool := s.portExists b && s.answers (pfOf b)

def doeAnswer (s : State) (b : Bool) (data : Bytes) : State := s.emit (.doe (pfOf b) data)

/-- DESIGN CHOICE, log 51. -/
def spdmAnswer (s : State) (b : Bool) (code : Nat) (body : Bytes) : State := s.doeAnswer b (Config.spdmMessage code body)

/-- A request that the standard does not admit now: UnexpectedRequest. (DESIGN CHOICE, log 51) -/
def spdmRefuse (s : State) (b : Bool) : State := s.spdmAnswer b 0x7F [4]

/-- The certificate chain of slot 0 (R67): its alias certificate is bound to the measurements of the last boot (R68). -/
def chainOf (s : State) : Bytes := Config.ownChain s.host.aliasBound

/-- An SPDM request that needs the algorithms negotiated. -/
def spdmReady (s : State) (b : Bool) (f : State → State) : State :=
  if (s.spdm b).negotiated then f s else s.spdmRefuse b

/-! ## Dirty-page logging (R61 to R65) -/

/-- The certificate slots that hold a chain: slot 0 alone (R67). -/
def slotMask : Nat := 1

/-- A request that names a certificate slot: InvalidRequest where the slot is empty (R67). (DESIGN CHOICE, log 51) -/
def spdmSlot (s : State) (b : Bool) (slot : Nat) (f : State → State) : State :=
  if bitAt slotMask slot then f s else s.spdmAnswer b 0x7F [1]

/-- No bitmap bit of bitmap `sel` waits to be written. -/
def noLogs (f : Fn) (sel : Bool) : Bool := f.queue.all fun
  | .log b _ => b != sel
  | _ => true

/-- The items that are no bitmap bit. -/
def dropLogs (q : List HpItem) : List HpItem := q.filter fun
  | .log _ _ => false
  | _ => true

/-- A write of a FN_DPL_ field through the window of the PF of the function's port (R71); HIF_FN_SEL reaches an index whose VF is not
enabled too. (DESIGN CHOICE, log 97) -/
def dplWrite (s : State) (i : Nat) (g : State → State) : State := s.globalWrite (pfOf (s.portOf i)) g

end State

/-- A function index. -/
def fnUnit (i : Nat) : Bool := decide (i < 1024)

/-! ## Ports and links -/

/-- PE_PERST_x_N is asserted (R44). -/
def execHostPortReset (portB : Bool) (s : State) : Res :=
  onUnit s true (when_ (s.portExists portB && s.sys.mode != .dormant) (fun s => s.hostPortReset portB) s)

/-- PE_PERST_x_N rises: Request Retry Status until the functions are ready; training begins (R45). -/
def execPerstRelease (portB : Bool) (s : State) : Res :=
  onUnit s true (when_ ((s.portExists portB || decide (s.sys.bootStep < 5)) && s.sys.mode != .dormant) (fun s =>
    s.modPort portB fun p => { p with perst := false, training := s.trains }) s)

/-- The functions of a port out of reset become ready (R45). -/
def execHostPortReady (portB : Bool) (s : State) : Res :=
  onUnit s true (when_ (s.portExists portB && s.sys.fnsReady && !(s.port portB).perst) (fun s =>
    forEach (s.presentOn portB) (fun i s => s.applyBinding i) (s.modPort portB fun p => { p with ready := true })) s)

/-- The link reaches L0 at a rate and width that R40 supports. -/
def execHostLinkUp (portB : Bool) (speed width : Nat) (s : State) : Res :=
  onUnit s (decide (1 ≤ speed ∧ speed ≤ 5) && [1, 2, 4, 8, 16].contains width) (
    let p := s.port portB
    when_ (s.portExists portB && p.training && !p.perst && (!s.host.split || decide (width ≤ 8))) (fun s =>
      s.modPort portB fun p => { p with up := true, speed := BitVec.ofNat 3 speed, width := BitVec.ofNat 5 width }) s)

/-- The link leaves L0; the 1 s of GLOBAL_OWNER counts from here (R54). -/
def execHostLinkDown (portB : Bool) (s : State) : Res :=
  onUnit s true (when_ (s.port portB).up (fun s =>
    s.modPort portB fun p => { p with up := false, speed := 0, width := 0, downAt := s.sys.rtc.toNat }) s)

/-- The port answers configuration requests: it exists, is out of reset and its functions are ready (R45). -/
def State.configLive (s : State) (b : Bool) : Bool := s.portExists b && !(s.port b).perst && (s.port b).ready && !s.tmp.halted

/-- The PF enters D3hot by a configuration write: fetching stops for the port (R46). (DESIGN CHOICE, log 73) -/
def execD3hotEnter (portB : Bool) (s : State) : Res :=
  onUnit s true (when_ (s.configLive portB) (fun s => s.modPort portB fun p => { p with d3hot := true }) s)

/-- The reads of a port that waited are issued, oldest first (R46). -/
def State.issueHeld (s : State) (b : Bool) : State :=
  let mine := s.host.heldReads.filter fun e => s.portOf e.1 == b
  let s := s.modHost fun h => { h with heldReads := h.heldReads.filter fun e => s.portOf e.1 != b }
  forEach mine (fun e s => s.emit (.hostRead e.1 e.2.1 e.2.2)) s

/-- The PF returns to D0 by a configuration write (R46). (DESIGN CHOICE, log 73) -/
def execD0Enter (portB : Bool) (s : State) : Res :=
  onUnit s true (when_ (s.configLive portB) (fun s => (s.modPort portB fun p => { p with d3hot := false }).issueHeld portB) s)

/-! ## Function-level resets and VFs -/

/-- Initiate Function Level Reset (R59); one that arrives during an FLR is merged into it. -/
def execFlr (fn : Nat) (s : State) : Res :=
  onUnit s (fnUnit fn) (when_ (s.answers fn) (fun s => s.flrStart fn) s)

/-- Steps 4 and 5 of R59. -/
def execFlrComplete (fn : Nat) (s : State) : Res :=
  onUnit s (fnUnit fn) (when_ ((s.fn fn).flr && !s.tmp.halted) (fun s => s.flrFinish fn) s)

/-- VF Enable is set, or NumVFs raised: new indices take their stored binding (R49, R50). -/
def execVfEnable (portB : Bool) (numVfs : Nat) (s : State) : Res :=
  onUnit s (decide (numVfs ≤ 1023)) (
    let p := s.port portB
    when_ (s.portExists portB && p.ready && decide (numVfs ≤ s.totalVfs) && decide (p.numVfs ≤ numVfs)) (fun s =>
      let old := s.presentOn portB
      let s := s.modPort portB fun p => { p with numVfs := numVfs }
      forEach ((s.presentOn portB).filter fun i => !(old.contains i)) (fun i s => s.applyBinding i) s) s)

/-- VF Enable is cleared, or NumVFs lowered: each VF removed is treated as under an FLR, then ceases to respond (R49, R58). -/
def execVfRemove (portB : Bool) (numVfs : Nat) (s : State) : Res :=
  onUnit s (decide (numVfs ≤ 1023)) (when_ (s.portExists portB && decide (numVfs < (s.port portB).numVfs)) (fun s =>
    let gone := s.vfsAbove portB numVfs
    let s := forEach gone (fun i s => if (s.fn i).flr then s else s.flrStart i) s
    s.modPort portB fun p => { p with numVfs := numVfs }) s)

/-! ## Violations and quarantine -/

/-- A BAR access that is not 32 bits wide and aligned (R9, R69). -/
def execBarAlignViolation (fn : Nat) (read : Bool) (offset : Nat) (s : State) : Res :=
  onUnit s (fnUnit fn) (s.refusedAccess fn violAlign read offset)

/-- A poisoned memory write to a BAR is dropped and reported through AER (R69). -/
def execPoisonedBarWrite (fn : Nat) (s : State) : Res :=
  onUnit s (fnUnit fn) (atFn fn (fun s => (s.violation fn violPoison).emit (.aerPoisoned fn)) s)

/-- A violation window ends: every function's WINDOW returns to zero (R70). -/
def execViolWindowExpire (s : State) : Res :=
  onUnit s true (s.modHost fun h => { h with fns := mmap {} (fun _ f => { f with violWindow := 0 }) h.fns })

/-- A write to HIF_VIOL_LIMIT starts a new series of windows (R70). -/
def State.setViolLimit (s : State) (v : Nat) : State :=
  s.modHost fun h =>
    { h with violLimit := BitVec.ofNat 16 v, violWindowMs := BitVec.ofNat 16 (max 1 (field v 16 16)),
             fns := mmap {} (fun _ f => { f with violWindow := 0 }) h.fns }

/-- A PF writes HIF_VIOL_LIMIT. -/
def execViolLimitWrite (fn : Nat) (value : Word) (s : State) : Res :=
  onUnit s (fnUnit fn) (s.globalWrite fn fun s => s.setViolLimit value.toNat)

/-- The PF of the port lifts the quarantine of the function its window shows (R70); another port's function is UNMAPPED (R69). -/
def execQuarantineLift (portB : Bool) (s : State) : Res :=
  onUnit s true (when_ (s.portExists portB) (atFn (State.pfOf portB) fun s =>
    let i := (s.port portB).fnSel.toNat
    if s.portOf i = portB then s.modFn i fun f => { f with quarantined := false }
    else s.violation (State.pfOf portB) violUnmapped) s)

/-! ## IDE and SPDM -/

/-- A memory request outside an IDE stream while IDE_REQUIRED is 1 (R66). -/
def execIdeUnsecuredRequest (fn : Nat) (s : State) : Res :=
  onUnit s (fnUnit fn) (when_ (s.host.ideRequired && s.answers fn) (fun s => s.emit (.unsupportedRequest fn)) s)

/-- IDE_KM in a secured session programs the AES-256-GCM key of the link stream (0) or of a selective stream (1 to 4); a key for a
stream that has one refreshes it (R66). -/
def execIdeKm (portB : Bool) (km : StreamKey) (s : State) : Res :=
  onUnit s (decide (km.stream ≤ 4)) (when_ (s.doeLive portB) (fun s =>
    if (s.spdm portB).session then
      (s.modSpdm portB fun x => { x with ideKeys := minsert x.ideKeys km.stream (padTo 32 km.key) }).spdmAnswer portB 0x7E [byte km.stream]
    else s.spdmRefuse portB) s)

/-- DOE Discovery: the protocol at an index and the next index (R46). -/
def execDoeDiscovery (portB : Bool) (index : Nat) (s : State) : Res :=
  onUnit s true (when_ (s.doeLive portB) (fun s =>
    s.doeAnswer portB (if index ≤ 2 then [1, 0, byte index, byte ((index + 1) % 3)] else [0xFF, 0xFF, 0, 0])) s)

/-- GET_VERSION: 1.2 only; it starts a new connection (R67). -/
def execGetVersion (portB : Bool) (s : State) : Res :=
  onUnit s true (when_ (s.doeLive portB) (fun s =>
    (s.modSpdm portB fun x => { versioned := true, ideKeys := x.ideKeys }).spdmAnswer portB 0x04 [0x12]) s)

def execGetCapabilities (portB : Bool) (s : State) : Res :=
  onUnit s true (when_ (s.doeLive portB) (fun s =>
    if (s.spdm portB).versioned then (s.modSpdm portB fun x => { x with capable := true }).spdmAnswer portB 0x61 []
    else s.spdmRefuse portB) s)

/-- The algorithms of R67 are selected where the requester offers them. -/
def execNegotiateAlgorithms (portB offers : Bool) (s : State) : Res :=
  onUnit s true (when_ (s.doeLive portB) (fun s =>
    if (s.spdm portB).capable then
      (s.modSpdm portB fun x => { x with negotiated := offers }).spdmAnswer portB 0x63 [byte (b2n offers)]
    else s.spdmRefuse portB) s)

/-- The mask of the slots that hold a chain, slot 0 alone, and its digest. -/
def execGetDigests (portB : Bool) (s : State) : Res :=
  onUnit s true (when_ (s.doeLive portB) (fun s =>
    s.spdmReady portB fun s => s.spdmAnswer portB 0x01 (byte State.slotMask :: Config.sha384 s.chainOf)) s)

/-- A portion of the slot 0 chain; the other slots are empty. -/
def execGetCertificate (portB : Bool) (slot : Nat) (part : Portion) (s : State) : Res :=
  onUnit s true (when_ (s.doeLive portB) (fun s =>
    s.spdmReady portB fun s => s.spdmSlot portB slot fun s => s.spdmAnswer portB 0x02 ((s.chainOf.drop part.offset).take part.length)) s)

/-- CHALLENGE: a signature with the device identity key over both nonces and the chain's digest; the nonce is the control DRBG's
(R307). (DESIGN CHOICE, log 51) -/
def State.spdmChallenge (s : State) (portB : Bool) (nonce : Bytes) : State :=
  s.withControl 32 (.challenge portB nonce) fun r s =>
    let body := Config.sha384 s.chainOf ++ r
    s.spdmAnswer portB 0x03 (body ++ Config.deviceSign (nonce ++ body))

def execChallenge (portB : Bool) (ask : SlotData) (s : State) : Res :=
  onUnit s true (when_ (s.doeLive portB) (fun s =>
    s.spdmReady portB fun s => s.spdmSlot portB ask.slot fun s => s.spdmChallenge portB ask.data) s)

/-- GET_MEASUREMENTS: one block, or all with index 0xFF, or their number with index 0 (R68), signed over both nonces. (DESIGN CHOICE, log 51) -/
def State.spdmMeasurements (s : State) (portB : Bool) (index : Nat) (nonce : Bytes) : State :=
  let is := if index = 0 then [] else if index = 0xFF then [1, 2, 3, 4, 5, 6] else [index]
  s.withControl 32 (.measurements portB index nonce) fun r s =>
    let body := [6] ++ (is.flatMap fun i => byte i :: s.measurement i) ++ r
    s.spdmAnswer portB 0x60 (body ++ Config.deviceSign (nonce ++ body))

def execGetMeasurements (portB : Bool) (index : Nat) (nonce : Bytes) (s : State) : Res :=
  onUnit s true (when_ (s.doeLive portB) (fun s =>
    s.spdmReady portB fun s =>
      if index ≤ 6 ∨ index = 0xFF then s.spdmMeasurements portB index nonce else s.spdmAnswer portB 0x7F [1]) s)

/-- KEY_EXCHANGE: ECDHE on P-384 with an ephemeral key of the control DRBG; a point not on the curve is refused. (DESIGN CHOICE, log 51) -/
def State.spdmKeyExchange (s : State) (portB : Bool) (peerKey : Bytes) : State :=
  s.withControl 48 (.keyExchange portB peerKey) fun e s =>
    match Config.ecdhP384 e peerKey with
    | none => s.spdmAnswer portB 0x7F [1]
    | some _ =>
      let body := Config.publicP384 e
      (s.modSpdm portB fun x => { x with handshake := true }).spdmAnswer portB 0x64 (body ++ Config.deviceSign (peerKey ++ body))

def execKeyExchange (portB : Bool) (ask : SlotData) (s : State) : Res :=
  onUnit s true (when_ (s.doeLive portB) (fun s =>
    s.spdmReady portB fun s => s.spdmSlot portB ask.slot fun s => s.spdmKeyExchange portB ask.data) s)

/-- FINISH: the requester's verify data completes the handshake. -/
def execFinish (portB verifies : Bool) (s : State) : Res :=
  onUnit s true (when_ (s.doeLive portB) (fun s =>
    if !(s.spdm portB).handshake then s.spdmRefuse portB
    else if verifies then
      (s.modSpdm portB fun x => { x with handshake := false, session := true, keyGen := 0 }).spdmAnswer portB 0x65 []
    else (s.modSpdm portB fun x => { x with handshake := false }).spdmAnswer portB 0x7F [6]) s)

/-- HEARTBEAT in a secured session. -/
def execSpdmHeartbeat (portB : Bool) (s : State) : Res :=
  onUnit s true (when_ (s.doeLive portB) (fun s =>
    if (s.spdm portB).session then s.spdmAnswer portB 0x68 [] else s.spdmRefuse portB) s)

/-- KEY_UPDATE in a secured session. -/
def execKeyUpdate (portB : Bool) (s : State) : Res :=
  onUnit s true (when_ (s.doeLive portB) (fun s =>
    if (s.spdm portB).session then
      (s.modSpdm portB fun x => { x with keyGen := x.keyGen + 1 }).spdmAnswer portB 0x69 []
    else s.spdmRefuse portB) s)

/-- END_SESSION. -/
def execEndSession (portB : Bool) (s : State) : Res :=
  onUnit s true (when_ (s.doeLive portB) (fun s =>
    if (s.spdm portB).session then
      (s.modSpdm portB fun x => { x with session := false }).spdmAnswer portB 0x6C []
    else s.spdmRefuse portB) s)

/-! ## MSI-X -/

/-- Vectors a function has (R46, R55). -/
def State.vectorsOf (s : State) (i : Nat) : Nat := if s.isPf i then 256 else 16

/-- A vector is unmasked: a pending message is sent once (R95). -/
def State.unmask (s : State) (i v : Nat) : State :=
  let due := (s.fn i).pba.getLsbD v
  let s := s.modFn i fun f =>
    { f with msix := mmod {} f.msix v fun e => { e with masked := false }, pba := clearBit f.pba v }
  when_ due (fun s => s.emit (.msix i v)) s

def execMsixVectorUnmask (fn vector : Nat) (s : State) : Res :=
  onUnit s (fnUnit fn && decide (vector < 256)) (atFn fn (fun s => when_ (decide (vector < s.vectorsOf fn)) (fun s => s.unmask fn vector) s) s)

/-! ## Dirty-page logging -/

/-- A write of SELECT; a change takes effect at one point in time (R64). (DESIGN CHOICE, log 97) -/
def Dpl.choose (d : Dpl) (select : Bool) : Dpl :=
  if d.select = select then d
  else { d with select := select, switched := false, cache := d.cache.filter fun e => e.1.1 != select }

/-- A write changes SELECT: later writes are logged in the other bitmap (R64). -/
def execDplSelectChange (fn : Nat) (select : Bool) (s : State) : Res :=
  onUnit s (fnUnit fn) (s.dplWrite fn fun s => s.modFn fn fun f => { f with dpl := f.dpl.choose select })

/-- Every word of the old bitmap has been issued (R64). -/
def execDplSwitched (fn : Nat) (s : State) : Res :=
  onUnit s (fnUnit fn) (when_ (!(s.fn fn).dpl.switched && State.noLogs (s.fn fn) (!(s.fn fn).dpl.select)) (fun s =>
    s.modFn fn fun f => { f with dpl := { f.dpl with switched := true, cache := f.dpl.cache.filter fun e => e.1.1 == f.dpl.select } }) s)

/-- The bitmap word that the item in front needs has been read (R62). -/
def execDplBitmapReadDone (fn : Nat) (word : BitVec 64) (s : State) : Res :=
  onUnit s (fnUnit fn) (when_ (s.fn fn).reading (fun s =>
    (s.modFn fn fun f =>
      { f with reading := false,
               dpl := match f.queue with
                 | .log b p :: _ => f.dpl.put b (p / 64) word
                 | _ => f.dpl }).service fn) s)

/-- A bitmap read fails: READ_ERR, the violation, and logging stops (R65). -/
def execDplReadFail (fn : Nat) (s : State) : Res :=
  onUnit s (fnUnit fn) (when_ (s.fn fn).reading (fun s =>
    ((s.modFn fn fun f =>
      { f with reading := false, queue := State.dropLogs f.queue,
               dpl := { f.dpl with readErr := true, enable := false, cache := [] } }).violation fn
        violDplRead).service fn) s)

end Sys2Proof.Machine
end

