-- ==== Sys2Proof/Machine/Mailbox.lean ====
section
/-! DEFINITION. Kazkel's mailboxes (R311 to R323): the command table, the checks of R317, taking, answering and aborting. -/

namespace Sys2Proof.Machine

/-! ## The command table (R324 to R330, R335, R358, R387, R450, R498) -/

/-- The Sent by column (R323); the number is the payload offset of what is named. -/
inductive Who where
  | any
  | pf
  | pfg
  /-- the PF of the port of the function named -/
  | pfo (at_ : Nat)
  /-- a PF, or a key administrator of the saggar named, its own -/
  | ka (at_ : Nat)
  /-- the same for the saggar of the segment named -/
  | kaSegment
  /-- a PF, or a VF for its own saggar -/
  | ownSaggar
  /-- itself, or a PF for a function of its port -/
  | ownFunction
  /-- who may read the stream named (R437) -/
  | reader
  deriving DecidableEq, Repr

/-- One row of a command table. -/
structure CmdRow where
  lens : List Nat
  who : Who
  modes : List Mode
  level : Nat := 2
  deriving DecidableEq, Repr

def modesAll : List Mode := [.boot, .ceremony, .service, .standby, .drain, .safe, .erased]
def modesSD : List Mode := [.service, .drain]
def modesSYD : List Mode := [.service, .standby, .drain]
def modesSYDF : List Mode := [.service, .standby, .drain, .safe]
def modesCSYD : List Mode := [.ceremony, .service, .standby, .drain]
def modesCSYDF : List Mode := [.ceremony, .service, .standby, .drain, .safe]
def modesDFE : List Mode := [.drain, .safe, .erased]

/-- The row of a command code. -/
def cmdRow (code : Nat) : Option CmdRow :=
  match code with
  | 0x0001 => some ⟨[8], .any, modesAll, 0⟩
  | 0x0002 => some ⟨[0, 4], .ownFunction, modesAll, 0⟩
  | 0x0003 => some ⟨[0], .any, modesAll, 0⟩
  | 0x0101 => some ⟨[4], .pfo 0, modesCSYD, 2⟩
  | 0x0102 => some ⟨[4], .pfo 0, modesCSYD, 2⟩
  | 0x0103 => some ⟨[0], .pf, modesAll, 2⟩
  | 0x0104 => some ⟨[4], .any, modesCSYDF, 2⟩
  | 0x0105 => some ⟨[4], .any, modesAll, 2⟩
  | 0x0106 => some ⟨[4], .pfo 2, modesAll, 2⟩
  | 0x0107 => some ⟨[4], .any, modesCSYDF, 2⟩
  | 0x0201 => some ⟨[4], .ownSaggar, modesAll, 2⟩
  | 0x0202 => some ⟨[8], .ka 0, modesAll, 2⟩
  | 0x0203 => some ⟨[264], .pfg, modesSD, 2⟩
  | 0x0204 => some ⟨[12], .ka 0, modesSD, 2⟩
  | 0x0205 => some ⟨[4], .pfg, modesSD, 2⟩
  | 0x0206 => some ⟨[4], .pfg, [.drain], 2⟩
  | 0x0207 => some ⟨[4], .pfg, modesSYD, 2⟩
  | 0x0301 => some ⟨[16], .ka 0, modesSD, 2⟩
  | 0x0302 => some ⟨[20], .ka 0, modesSD, 2⟩
  | 0x0303 => some ⟨[16], .ka 0, modesSD, 2⟩
  | 0x0304 => some ⟨[4], .ka 0, modesSD, 2⟩
  | 0x0305 => some ⟨[4], .ka 0, modesSD, 2⟩
  | 0x0401 => some ⟨[72], .ka 0, modesSYD, 2⟩
  | 0x0402 => some ⟨[4], .kaSegment, modesSYD, 2⟩
  | 0x0403 => some ⟨[4], .kaSegment, modesSYD, 2⟩
  | 0x0404 => some ⟨[4], .kaSegment, modesSYD, 2⟩
  | 0x0405 => some ⟨[4], .ka 0, modesSYD, 2⟩
  | 0x0406 => some ⟨[4], .kaSegment, modesSYD, 2⟩
  | 0x0407 => some ⟨[4], .ka 0, modesSYD, 3⟩
  | 0x0408 => some ⟨[4], .ka 0, modesSYD, 3⟩
  | 0x0409 => some ⟨[4], .ka 0, modesSYD, 3⟩
  | 0x0501 => some ⟨[4], .pfg, modesSYDF, 2⟩
  | 0x0502 => some ⟨[4], .pfg, modesCSYDF, 2⟩
  | 0x0503 => some ⟨[8], .pfg, modesSYD, 4⟩
  | 0x0601 => some ⟨[0], .pf, modesAll, 2⟩
  | 0x0602 => some ⟨[0], .pfg, [.service], 2⟩
  | 0x0603 => some ⟨[0], .pfg, modesSYDF, 2⟩
  | 0x0701 => some ⟨[4], .reader, modesAll, 2⟩
  | 0x0702 => some ⟨[16], .reader, modesAll, 2⟩
  | 0x0703 => some ⟨[32], .pf, modesAll, 2⟩
  | 0x0704 => some ⟨[8], .pfg, [.service, .drain, .safe], 2⟩
  | 0x0705 => some ⟨[4], .pfo 0, modesAll, 2⟩
  | 0x0801 => some ⟨[24], .pfg, modesSYDF, 2⟩
  | 0x0802 => some ⟨[4], .pf, modesAll, 2⟩
  | 0x0803 => some ⟨[56], .pfg, modesSYDF, 2⟩
  | 0x0804 => some ⟨[4], .pfg, modesSYDF, 2⟩
  | 0x0901 => some ⟨[24], .pfg, [.service, .standby, .drain, .safe, .erased], 2⟩
  | 0x0902 => some ⟨[0], .pf, modesAll, 2⟩
  | 0x0903 => some ⟨[4], .pfg, [.ceremony], 2⟩
  | 0x0904 => some ⟨[24], .pf, modesAll, 2⟩
  | 0x0905 => some ⟨[4], .ka 0, modesAll, 2⟩
  | 0x0A01 => some ⟨[4], .pfg, modesDFE, 2⟩
  | 0x0A02 => some ⟨[24], .pfg, modesDFE, 2⟩
  | 0x0A03 => some ⟨[0], .pf, modesAll, 2⟩
  | _ => none

/-! ## Requests (R314, R315) -/

def reqCode (r : Bytes) : Nat := leAt r 0 2
def reqLen (r : Bytes) : Nat := leAt r 2 2
def reqTag (r : Bytes) : Nat := leAt r 4 2
def reqBody (r : Bytes) : Bytes := slice r 8 (reqLen r)

/-- Bytes `lo` to `hi` of a payload are zero. -/
def zeroAt (p : Bytes) (lo hi : Nat) : Bool := (List.range (hi + 1 - lo)).all fun k => byteAt p (lo + k) = 0

def bufAddr (p : Bytes) (o : Nat) : Nat := leAt p o 8
def bufLen (p : Bytes) (o : Nat) : Nat := leAt p (o + 8) 4

/-- A buffer descriptor at payload offset `o` (R315). -/
def bufOk (p : Bytes) (o : Nat) : Bool :=
  bufAddr p o % 64 = 0 && decide (1 ≤ bufLen p o ∧ bufLen p o ≤ 2 ^ 24) && zeroAt p (o + 12) (o + 15)

/-- Check 8 of R317: fields in range, undefined bytes zero. -/
def fieldsOk (code : Nat) (p : Bytes) : Bool :=
  let fnAt := fun (o : Nat) => decide (leAt p o 2 < 1024)
  let stream := decide (leAt p 0 2 ≤ 257)
  let segment := decide (leAt p 0 4 < 250000)
  match code with
  | 0x0001 => zeroAt p 2 7
  | 0x0002 => p.isEmpty || (fnAt 0 && zeroAt p 2 3)
  | 0x0101 => fnAt 0 && zeroAt p 3 3
  | 0x0102 => fnAt 0 && zeroAt p 2 3
  | 0x0104 => decide (byteAt p 0 ≤ 3) && zeroAt p 1 3
  | 0x0105 => decide (byteAt p 0 ≤ 31) && zeroAt p 1 3
  | 0x0106 => decide (byteAt p 0 ≤ 31) && zeroAt p 1 1 && fnAt 2
  | 0x0107 => decide (byteAt p 0 ≤ 16) && zeroAt p 1 3
  | 0x0201 | 0x0207 | 0x0304 | 0x0305 | 0x0905 => zeroAt p 1 3
  | 0x0202 => decide (byteAt p 1 ≤ 15) && zeroAt p 2 7
  | 0x0203 => decide (byteAt p 1 ≤ 15) && zeroAt p 2 7 && polForm (slice p 8 256)
  | 0x0204 => zeroAt p 1 3 && decide (leAt p 8 2 ≤ 8191) && zeroAt p 10 11
  | 0x0205 | 0x0206 => decide (byteAt p 0 ≤ 1) && (byteAt p 0 = 1 || zeroAt p 1 1) && zeroAt p 2 3
  | 0x0301 | 0x0302 | 0x0303 => zeroAt p 1 3 && decide (leAt p 4 4 < 2 ^ 22)
  | 0x0401 => zeroAt p 1 1 && zeroAt p 4 7
  | 0x0402 | 0x0403 | 0x0404 | 0x0406 => segment
  | 0x0405 => zeroAt p 1 1 && decide (1 ≤ leAt p 2 2 ∧ leAt p 2 2 ≤ 64)
  | 0x0407 => decide (6 ≤ byteAt p 1 ∧ byteAt p 1 ≤ 12) && decide (byteAt p 2 ≤ 17) && zeroAt p 3 3
  | 0x0408 => decide (6 ≤ byteAt p 1 ∧ byteAt p 1 ≤ 12) && zeroAt p 2 3
  | 0x0409 => decide (6 ≤ byteAt p 1 ∧ byteAt p 1 ≤ 12) && decide (byteAt p 2 ≤ 1) && zeroAt p 3 3
  | 0x0501 => decide (byteAt p 0 ≤ 67) && zeroAt p 1 3
  | 0x0502 => decide (byteAt p 0 ≤ 15) && zeroAt p 1 3
  | 0x0503 =>
    decide (leAt p 0 2 ≤ 1439) && decide (30 ≤ leAt p 2 2 ∧ leAt p 2 2 ≤ 1440) &&
    decide (1200 ≤ leAt p 4 2 ∧ leAt p 4 2 ≤ 1600) && leAt p 4 2 % 25 = 0 && decide (1 ≤ leAt p 6 2 ∧ leAt p 6 2 ≤ 168)
  | 0x0701 => stream && zeroAt p 2 3
  | 0x0702 => stream && zeroAt p 2 7
  | 0x0703 => stream && zeroAt p 2 7 && bufOk p 16
  | 0x0704 => stream && decide (byteAt p 2 ≤ 1) && zeroAt p 3 3
  | 0x0705 => fnAt 0 && decide (byteAt p 2 ≤ 3) && zeroAt p 3 3
  | 0x0801 => decide (byteAt p 0 ≤ 1) && zeroAt p 1 7 && bufOk p 8
  | 0x0802 => decide (byteAt p 0 ≤ 1) && zeroAt p 1 3
  | 0x0803 =>
    decide (byteAt p 0 ≤ 1) && decide (byteAt p 1 ≤ 1) && decide (byteAt p 2 ≤ if byteAt p 0 = 0 then 1 else 0) && zeroAt p 3 7
  | 0x0804 => decide (byteAt p 0 ≤ 1) && decide (byteAt p 1 ≤ 1) && zeroAt p 2 3
  | 0x0901 => decide (1 ≤ byteAt p 0 ∧ byteAt p 0 ≤ 7) && zeroAt p 1 7 && bufOk p 8
  | 0x0904 => zeroAt p 4 7 && bufOk p 8
  | 0x0A01 => decide (1 ≤ byteAt p 0 ∧ byteAt p 0 ≤ 2) && zeroAt p 1 3
  | 0x0A02 => decide (1 ≤ byteAt p 0 ∧ byteAt p 0 ≤ 2) && zeroAt p 1 7 && bufOk p 8
  | _ => true

namespace State

/-! ## Rights (R323, R437) -/

/-- A VF that is a key administrator of its own saggar `g`, or a PF. -/
def keyAdmin (s : State) (i g : Nat) : Bool :=
  s.isPf i || ((s.fn i).bound == some g && (polAdmins (s.policyOf g)).contains i)

/-- The streams a function reads (R437). -/
def mayReadStream (s : State) (i n : Nat) : Bool :=
  s.isPf i || (if n = devStream then (mget 0 s.log.grants i).getLsbD 0
    else if n = mbxStream then (mget 0 s.log.grants i).getLsbD 1 else (s.fn i).bound == some n)

def admits (s : State) (i : Nat) (who : Who) (p : Bytes) : Bool :=
  match who with
  | .any => true
  | .pf => s.isPf i
  | .pfg => i = s.ownerPf
  | .pfo o => s.isPf i && s.portOf (leAt p o 2) == s.portOf i
  | .ka o => s.keyAdmin i (byteAt p o)
  | .kaSegment => s.isPf i || ((s.segment (leAt p 0 4)).state != .free && s.keyAdmin i (s.segment (leAt p 0 4)).saggar)
  | .ownSaggar => s.isPf i || (s.fn i).bound == some (byteAt p 0)
  | .ownFunction => p.isEmpty || leAt p 0 2 = i || (s.isPf i && s.portOf (leAt p 0 2) == s.portOf i)
  | .reader => s.mayReadStream i (leAt p 0 2)

/-! ## Serving (R316, R317, R340) -/

/-- Control pair `p` runs no instructions: fenced, or halted through JTAG_ (R18, R493). -/
def pairStopped (s : State) (p : Nat) : Bool := (s.bank (10 + p)).fenced || s.lcc.halted.getLsbD p

/-- Kazkel runs: past boot step 5, a control pair not stopped, the device not held in reset; or the boot ROM in recovery. -/
def kazkelRuns (s : State) : Bool :=
  s.sys.mode != .dormant && !s.tmp.halted && !(s.pairStopped 0 && s.pairStopped 1) &&
    (decide (5 ≤ s.sys.bootStep) || s.fw.recovery)

/-- The modes a request's command is admitted in; a glaze set is activated in SERVICE and DRAIN only (R335). -/
def reqModes (r : Bytes) (row : CmdRow) : List Mode :=
  if reqCode r = 0x0803 ∧ byteAt (reqBody r) 0 = 1 then modesSD else row.modes

def levelOf (s : State) (i : Nat) : Nat := mget 0 s.mbx.levels i

/-- What the boot ROM serves in recovery (R340). -/
def recoveryServes (r : Bytes) : Bool :=
  reqCode r = 0x0001 || reqCode r = 0x0802 || (reqCode r = 0x0801 && byteAt (reqBody r) 0 = 0)

/-- Checks 1 to 8 of R317; the result of the first that fails. -/
def mbxChecks (s : State) (i : Nat) (r : Bytes) : Option Nat :=
  if (s.fn i).quarantined && reqCode r ≠ 0x0002 then some Mr.QUARANTINED
  else if leAt r 6 2 ≠ 0 ∨ 440 < reqLen r then some Mr.BAD_LENGTH
  else if s.fw.recovery && !(recoveryServes r) then some Mr.UNKNOWN_COMMAND
  else if s.levelOf i = 0 && !([1, 2, 3].contains (reqCode r)) then some Mr.NO_LEVEL
  else match cmdRow (reqCode r) with
    | none => some Mr.UNKNOWN_COMMAND
    | some row =>
      let p := reqBody r
      if 2 < row.level ∧ s.levelOf i < row.level then some Mr.UNKNOWN_COMMAND
      else if !(row.lens.contains (reqLen r)) then some Mr.BAD_LENGTH
      else if !s.fw.recovery && !(s.admits i row.who p) then some Mr.NOT_PERMITTED
      else if !s.fw.recovery && !((reqModes r row).contains s.sys.mode) then some Mr.WRONG_MODE
      else if !(fieldsOk (reqCode r) p) then some Mr.BAD_FIELD
      else none

/-- The MBX_CMD record (R434). -/
def mbxRecord (s : State) (i k : Nat) (r : Bytes) (result : Nat) : State :=
  s.record { stream := mbxStream, source := srcOf Unit.kazkel 0, code := 0x0701, fn := i,
             data := leBytes (reqCode r) 2 ++ leBytes result 2 ++ leBytes (reqTag r) 2 ++ [byte k] }

/-- The mailbox's cause and vector (R71, R311). -/
def mbxVector (s : State) (i k : Nat) : State := s.raiseCause i 0 (8 + k)

/-- A response (R314): the window, DONE and the vector. Window bytes past it are undefined. A class 0x01 result counts as a violation
(R318). -/
def deliver (s : State) (i k : Nat) (r : Bytes) (result : Nat) (payload : Bytes) : State :=
  let p := if result = Mr.OK then payload else []
  let bytes := leBytes (reqCode r) 2 ++ leBytes p.length 2 ++ leBytes (reqTag r) 2 ++ leBytes result 2 ++ p
  let rest := 448 - bytes.length
  let s := when_ (statusClass result = 1) (fun s => s.countViolation i) s
  ((s.drew rest).modBox i k fun b => { b with state := .done, data := bytes ++ s.fresh rest }).mbxVector i k

/-- A command that Kazkel took ends: its record (R435) and its response, discarded where the mailbox was reset meanwhile (R320). -/
def respondWith (s : State) (i k : Nat) (r : Bytes) (result : Nat) (payload : Bytes) : State :=
  let was := (s.box i k).state
  let s := s.mbxRecord i k r result
  let s := s.modBox i k fun b => { b with running := none, acting := false, count := 0 }
  if was == .busy then s.deliver i k r result payload
  else when_ (statusClass result = 1) (fun s => s.countViolation i) s

/-- Ends the command that mailbox k of function i runs. -/
def endCommand (s : State) (i k result : Nat) (payload : Bytes) : State :=
  match (s.box i k).running with
  | none => s
  | some r => s.respondWith i k r result payload

/-- Boxes that Kazkel has in progress. -/
def mbxRunning (s : State) : Nat := (s.mbx.boxes.filter fun e => e.2.running.isSome).length

/-- The posted mailbox next in turn: the first after the one last taken. -/
def mbxNext (s : State) : Option Nat :=
  let posted := s.mbx.boxes.filterMap fun e =>
    if e.2.state == .posted && e.2.running.isNone && (!s.fw.recovery || e.1 = 0) then some e.1 else none
  (posted.find? fun j => decide (s.mbx.lastTaken < j)).or posted.head?

/-- Results that are answered without Kazkel taking the command (R312). -/
def refusedUntaken (result : Nat) : Bool := result = Mr.QUARANTINED || result = Mr.WRONG_MODE

/-- The turn of a posted mailbox: the checks, and where none fails for quarantine or mode, Kazkel takes the request and the mailbox is
BUSY (R312, R317). (DESIGN CHOICE, log 109) -/
def mbxTake (s : State) (j : Nat) : State :=
  let i := j / 8
  let k := j % 8
  let r := padTo 448 (s.box i k).data
  let s := s.modMbx fun m => { m with lastTaken := j }
  let busy := s.modBox i k fun b => { b with state := .busy, running := some r, acting := false, count := 0 }
  match s.mbxChecks i r with
  | some result => if refusedUntaken result then s.deliver i k r result [] else busy.endCommand i k result []
  | none => busy

end State

/-- What a command's own action comes to. -/
inductive Answer where
  | done (result : Nat) (payload : Bytes)
  /-- it has begun to act and answers later -/
  | wait
  /-- it has not begun to act -/
  | later
  deriving DecidableEq, Repr

/-- A mailbox of a function: a VF has mailbox 0 only (R311). (DESIGN CHOICE, log 7) -/
def boxUnit (fn k : Nat) : Bool := decide (fn < 1024 ∧ k < 8 ∧ (k = 0 ∨ fn % 512 = 0))

/-- The answer of an action reaches the mailbox. -/
def State.answer (fn k : Nat) (r : State × Answer) : State :=
  match r.2 with
  | .done result p => r.1.endCommand fn k result p
  | .wait => r.1.modBox fn k fun b => { b with acting := true }
  | .later => r.1

/-- Kazkel acts on the command that mailbox k of function fn runs, where it is `code`. Where it has not begun, a mode that no longer
admits the command ends it (R320); where it has, `more` says what is left to do. (DESIGN CHOICE, log 109) -/
def mbxCommand (code fn k : Nat) (act : Bytes → State → State × Answer) (s : State)
    (more : Bytes → State → State × Answer := fun _ s => (s, .later)) : Res :=
  onUnit s (boxUnit fn k) (match (s.box fn k).running with
    | none => s
    | some r => match cmdRow code with
      | none => s
      | some row =>
        when_ (reqCode r = code && s.kazkelRuns) (fun s =>
          if (s.box fn k).acting then State.answer fn k (more (reqBody r) s)
          else if !s.fw.recovery && !((State.reqModes r row).contains s.sys.mode) then s.endCommand fn k Mr.WRONG_MODE []
          else State.answer fn k (act (reqBody r) s)) s)

/-! ## The commands of a mailbox -/

/-- A write of 1 to GO (R312). -/
def execGo (fn mailbox : Nat) (s : State) : Res :=
  onUnit s (boxUnit fn mailbox) (atFn fn (fun s => s.modBox fn mailbox fun b =>
    if b.state == .idle || b.state == .done then { b with state := .posted, abortSeen := false }
    else { b with dropped := satInc b.dropped }) s)

/-- A write of 1 to ACK (R312). -/
def execAck (fn mailbox : Nat) (s : State) : Res :=
  onUnit s (boxUnit fn mailbox) (atFn fn (fun s => s.modBox fn mailbox fun b =>
    if b.state == .done then { b with state := .idle } else { b with dropped := satInc b.dropped }) s)

/-- The slot that an IMAGE_STAGE under way writes is left EMPTY. -/
def State.stageStopped (s : State) : State :=
  match s.fw.staging with
  | none => s
  | some (glaze, b) => s.modFw fun w =>
      let clear := fun (t : Slots) => if b then { t with b := {} } else { t with a := {} }
      { w with staging := none, kazkel := if glaze then w.kazkel else clear w.kazkel,
               glaze := if glaze then clear w.glaze else w.glaze }

/-- A write of 1 to ABORT (R319). -/
def execAbort (fn mailbox : Nat) (s : State) : Res :=
  onUnit s (boxUnit fn mailbox) (atFn fn (fun s =>
    let b := s.box fn mailbox
    match b.state with
    | .posted => s.deliver fn mailbox (padTo 448 b.data) Mr.ABORTED []
    | .busy =>
      if b.running.any fun r => reqCode r = 0x0801 then
        (when_ b.acting State.stageStopped s).endCommand fn mailbox Mr.ABORTED []
      else s.modBox fn mailbox fun b => { b with abortSeen := true }
    | _ => s) s)

/-- Kazkel takes the posted command next in turn; at most 8 are in progress (R316). -/
def execMbxTake (s : State) : Res :=
  onUnit s true (when_ (s.kazkelRuns && decide (s.mbxRunning < 8)) (fun s => match s.mbxNext with
    | none => s
    | some j => s.mbxTake j) s)

/-- A command reaches its bound (R316): a stage leaves its slot EMPTY, a glaze load its level as it was (R339). One that waits for a
standby's acknowledgement has its own time-out (R370). -/
def execMbxCommandTimeout (fn mailbox : Nat) (s : State) : Res :=
  onUnit s (boxUnit fn mailbox) (match (s.box fn mailbox).running with
    | none => s
    | some r =>
      when_ (!(s.mir.controls.any fun c => c.2 == .mailbox fn mailbox) && s.kazkelRuns) (fun s =>
        let begun := (s.box fn mailbox).acting
        let s := when_ (begun && reqCode r = 0x0801) State.stageStopped s
        let s := when_ (begun && reqCode r = 0x0803) (fun s => s.modFw fun w => { w with glazeNext := none }) s
        let s := when_ (begun && reqCode r = 0x0602) (fun s => s.modMir fun m => { m with switchback := none }) s
        let s := when_ (begun && reqCode r = 0x0901 && s.cus.cer.step = 1) (fun s => s.closeCeremony Mr.TIMED_OUT) s
        s.endCommand fn mailbox Mr.TIMED_OUT []) s)

end Sys2Proof.Machine
end

