-- ==== Sys2Proof/Machine/MboxFn.lean ====
section
/-! DEFINITION. The mailbox commands of groups 0x00 and 0x01: session, functions, DMA channels, staging pages (R322, R324). -/

namespace Sys2Proof.Machine

/-- `n` of a list, chosen freely one after another (the spec says not which): those chosen, in the order chosen. (DESIGN CHOICE, log 74) (DESIGN CHOICE, log 82) (DESIGN CHOICE, log 114) -/
def pickFree : Nat → Nat → List Nat → List Nat
  | 0, _, _ => []
  | n + 1, ctr, xs => match xs[Config.freeChoice ctr xs.length % xs.length]? with
    | none => []
    | some x => x :: pickFree n (ctr + 1) (xs.filter (· ≠ x))

namespace State

/-- The interface levels Kazkel serves; level 2 alone in recovery (R332, R340). -/
def servedLevels (s : State) : Nat × Nat := if s.fw.recovery then (2, 2) else (s.runningImage.levelMin, s.runningImage.levelMax)

/-- R322. (DESIGN CHOICE, log 75) -/
def hello (s : State) (i lo hi : Nat) : State × Answer :=
  let (kmin, kmax) := s.servedLevels
  let lvl := min hi kmax
  if lvl < max lo kmin then (s, .done Mr.NO_LEVEL [])
  else
    let version := if s.fw.recovery then s.fresh 4 else padTo 4 s.runningImage.version
    let s := (when_ s.fw.recovery (fun s => s.drew 4) s).modMbx fun m => { m with levels := mset 0 m.levels i lvl }
    (s, .done Mr.OK ([byte lvl, byte kmin, byte kmax, 0] ++ version ++ leBytes s.fw.glazeLevel.toNat 2 ++
      [byte (modeCode s.sys.mode), 0]))

/-- Staging pages a function holds, ascending (R324). -/
def pagesOfFn (s : State) (i : Nat) : List Nat :=
  s.mbx.pageOwner.filterMap fun e => if e.2 = some i then some e.1 else none

/-- DESIGN CHOICE, log 75. -/
def fnStatus (s : State) (i : Nat) : Bytes :=
  let f := s.fn i
  let admin := f.bound.any fun g => (polAdmins (s.policyOf g)).contains i
  let lent := ((s.lentTo i).map fun c => 2 ^ c).sum
  leBytes i 2 ++ [byte (f.bound.getD 0), byte (b2n f.bound.isSome + 2 * b2n f.quarantined + 4 * b2n admin), byte (s.levelOf i),
    0, 0, 0] ++ leBytes lent 4 ++ [byte (s.pagesOfFn i).length, 0, 0, 0]

def deviceInfo (s : State) : Bytes :=
  leBytes Config.uid.toNat 8 ++ [byte (modeCode s.sys.mode), byte (lcCode s.lcc.state), byte Config.part,
    byte (s.kilnsIn .inService).length, byte s.sparesLeft, byte (b2n s.fw.runningB), byte s.fw.rollback, 0]

/-! ## Bindings (R50 to R52) -/

/-- A ware in flight, its record included until it is written, or a ring not DISABLED (R51, R324). -/
def fnBusy (s : State) (i : Nat) : Bool :=
  !(s.tagsWhere fun w => w.fn = i).isEmpty || decide (0 < queuedRecords (s.fn i).queue) || (List.range 8).any fun q => (s.ring i q).state != .disabled

/-- Bindings of other functions to a saggar. -/
def boundTo (s : State) (g i : Nat) : Nat := (s.host.bindings.filter fun e => e.2 = g ∧ e.1 ≠ i).length

/-- A new entry of the binding table, applied where the index is enabled; an entry that goes is gone from FN_BIND at once; the generation advances, and log grants go (R437). -/
def rebind (s : State) (i : Nat) (g : Option Nat) : State :=
  let s := s.modHost fun h =>
    { h with bindings := match g with
        | some x => minsert h.bindings i x
        | none => merase h.bindings i }
  let s := when_ (s.present i || g.isNone) (fun s => s.modFn i fun f => { f with bound := g }) s
  (s.advanceGen i).modLog fun l => { l with grants := merase l.grants i }

def bindAnswer (s : State) (i : Nat) : Bytes := leBytes i 2 ++ [byte (s.fn i).gen.toNat, 0]

def fnBind (s : State) (i g : Nat) : State × Answer :=
  if s.fnBusy i then (s, .done Mr.TARGET_BUSY [])
  else if (s.saggar g).state != .active then (s, .done Mr.SAGGAR_STATE [])
  else if polMaxFunctions (s.policyOf g) ≤ s.boundTo g i then (s, .done Mr.LIMIT [])
  else
    let s := s.rebind i (some g)
    (s, .done Mr.OK (s.bindAnswer i))

def fnUnbind (s : State) (i : Nat) : State × Answer :=
  if s.fnBusy i then (s, .done Mr.TARGET_BUSY [])
  else
    let s := s.rebind i none
    (s, .done Mr.OK (s.bindAnswer i))

/-- R54. -/
def takeOwnership (s : State) (i : Nat) : State × Answer :=
  let b := s.portOf i
  let p := s.port s.host.ownerB
  if s.host.ownerB == b then (s, .done Mr.SEQUENCE [])
  else if p.up || decide (s.sys.rtc.toNat < p.downAt + rtcSecond) then (s, .done Mr.OWNER_LINK_UP [])
  else (s.modHost fun h => { h with ownerB := b }, .done Mr.OK [byte (b2n b), 0, 0, 0])

/-! ## DMA channels (R324, R509 to R511) -/

/-- Channels that may be lent and are not. (DESIGN CHOICE, log 74) -/
def channelsFree (s : State) : List Nat := (List.range 32).filter fun c => decide (8 ≤ c) && !(s.chan c).lent

/-- DESIGN CHOICE, log 74. -/
def dmaAcquire (s : State) (i prio : Nat) : State × Answer :=
  match (if (s.bank 12).fenced then none else (pickFree 1 s.freeCtr s.channelsFree).head?) with
  | none => (s, .done Mr.POOL_EXHAUSTED [])
  | some c =>
    if (if s.isPf i then 8 else 2) ≤ (s.lentTo i).length then (s, .done Mr.LIMIT [])
    else ((s.drew 1).modChan c fun _ => { lent := true, fn := i, prioMax := prio }, .done Mr.OK [byte c, 0, 0, 0])

/-- The channel goes back from function `i`. -/
def dmaGiveBack (s : State) (i c : Nat) : State × Answer :=
  if (s.lentTo i).contains c then (s.dmaReturn c, .done Mr.OK []) else (s, .done Mr.SEQUENCE [])

/-! ## Staging pages (R324) -/

/-- A page changes hands: it is wiped (R324). The first assignment of a page wipes it too. (DESIGN CHOICE, log 114) -/
def givePage (s : State) (p : Nat) (i : Option Nat) : State :=
  (s.modMbx fun m => { m with pageOwner := mset none m.pageOwner p i }).wipeLines deviceOwner (stageAddr p / 64) 1024

def stagePages (s : State) (i want : Nat) : State × Answer :=
  let held := s.pagesOfFn i
  let free := (List.range Config.stagePages).filter fun p => (mget none s.mbx.pageOwner p).isNone
  if held.length + free.length < want then (s, .done Mr.POOL_EXHAUSTED [])
  else
    let up := pickFree (held.length - want) s.freeCtr held
    let new := pickFree (want - held.length) s.freeCtr free
    let s := forEach up (fun p s => s.givePage p none) (s.drew (up.length + new.length))
    let s := forEach new (fun p s => s.givePage p (some i)) s
    (s, .done Mr.OK ([byte (s.pagesOfFn i).length] ++ zeros 7 ++ (s.pagesOfFn i).flatMap fun p => leBytes (stageAddr p) 8))

end State

/-! ## The commands -/

def execHello (fn mailbox : Nat) (s : State) : Res :=
  mbxCommand 0x0001 fn mailbox (fun p s => s.hello fn (byteAt p 0) (byteAt p 1)) s

def execFnStatus (fn mailbox : Nat) (s : State) : Res :=
  mbxCommand 0x0002 fn mailbox (fun p s => (s, .done Mr.OK (s.fnStatus (if p.isEmpty then fn else leAt p 0 2)))) s

def execDeviceInfo (fn mailbox : Nat) (s : State) : Res :=
  mbxCommand 0x0003 fn mailbox (fun _ s => (s, .done Mr.OK s.deviceInfo)) s

def execFnBind (fn mailbox : Nat) (s : State) : Res :=
  mbxCommand 0x0101 fn mailbox (fun p s => s.fnBind (leAt p 0 2) (byteAt p 2)) s

def execFnUnbind (fn mailbox : Nat) (s : State) : Res :=
  mbxCommand 0x0102 fn mailbox (fun p s => s.fnUnbind (leAt p 0 2)) s

def execGlobalOwner (fn mailbox : Nat) (s : State) : Res :=
  mbxCommand 0x0103 fn mailbox (fun _ s => s.takeOwnership fn) s

def execDmaAcquire (fn mailbox : Nat) (s : State) : Res :=
  mbxCommand 0x0104 fn mailbox (fun p s => s.dmaAcquire fn (byteAt p 0)) s

def execDmaRelease (fn mailbox : Nat) (s : State) : Res :=
  mbxCommand 0x0105 fn mailbox (fun p s => s.dmaGiveBack fn (byteAt p 0)) s

def execDmaReclaim (fn mailbox : Nat) (s : State) : Res :=
  mbxCommand 0x0106 fn mailbox (fun p s => s.dmaGiveBack (leAt p 2 2) (byteAt p 0)) s

def execStagePages (fn mailbox : Nat) (s : State) : Res :=
  mbxCommand 0x0107 fn mailbox (fun p s => s.stagePages fn (byteAt p 0)) s

end Sys2Proof.Machine
end

