-- ==== Sys2Proof/Machine/MboxDev.lean ====
section
/-! DEFINITION. The mailbox commands of groups 0x05 and 0x08: kilns, entropy sources, margins, images (R295, R330, R332 to R340). -/

namespace Sys2Proof.Machine

/-! ## Images (R332) -/

/-- The header, the lengths and the digest of an image are well formed; KIND is not among them. -/
def imageForm (b : Bytes) : Bool :=
  let kind := byteAt b 4
  let body := leAt b 16 4
  decide (72 + body + 4723 ≤ b.length) && slice b 0 4 == bytesOf [0x5A, 0x56, 0x49, 0x4D] && decide (kind ≤ 1) &&
  decide (byteAt b 5 ≤ 64) && leAt b 6 2 = 0 && byteAt b 15 = 0 && leAt b 20 4 = 0 &&
  (if kind = 0 then decide (body ≤ 2 ^ 23 - 4795) && byteAt b 14 = 0
   else body = 131072 && leAt b 10 2 = 0 && leAt b 12 2 = 0) &&
  padTo 48 (Config.sha384 (slice b 72 body)) == slice b 24 48

/-- Both signatures verify over header and body (R332); the verdict of a double decision is the caller's to take twice (R406). -/
def imageSigned (b : Bytes) : Bool :=
  let n := 72 + leAt b 16 4
  Config.imageMlDsa (b.take n) (slice b n 4627) && Config.imageEcdsa (b.take n) (slice b (n + 4627) 96)

/-- The slot record of an image that passed. -/
def imageOf (b : Bytes) (st : SlotState) : Image :=
  { state := st, svn := byteAt b 5, version := slice b 8 4, levelMin := byteAt b 12, levelMax := byteAt b 13, needsSvn := byteAt b 14,
    digest := slice b 24 48 }

namespace State

def slotsOf (s : State) (glaze : Bool) : Slots := if glaze then s.fw.glaze else s.fw.kazkel
def slot (s : State) (glaze b : Bool) : Image := if b then (s.slotsOf glaze).b else (s.slotsOf glaze).a
def setSlot (s : State) (glaze b : Bool) (x : Image) : State :=
  s.modFw fun w =>
    let put := fun (t : Slots) => if b then { t with b := x } else { t with a := x }
    if glaze then { w with glaze := put w.glaze } else { w with kazkel := put w.kazkel }

/-- A slot runs: the Kazkel slot booted from, or the glaze slot whose level is in force. -/
def slotRuns (s : State) (glaze b : Bool) : Bool :=
  if s.fw.recovery then false
  else if glaze then (s.slot true b).state == .trial || ((s.slot true b).state == .committed && (s.slot true (!b)).state != .trial)
  else s.fw.runningB == b

/-- The slot that IMAGE_STAGE writes: neither COMMITTED nor running (R335). -/
def stageSlot (s : State) (glaze : Bool) : Option Bool :=
  [false, true].find? fun b => (s.slot glaze b).state != .committed && !(s.slotRuns glaze b)

/-- IMAGE_STAGE begins: its slot is written over. (DESIGN CHOICE, log 83) (DESIGN CHOICE, log 84) -/
def stageBegin (s : State) (glaze : Bool) : State × Answer :=
  if s.fw.staging.isSome then (s, .done Mr.TARGET_BUSY [])
  else match s.stageSlot glaze with
    | none => (s, .done Mr.SEQUENCE [])
    | some b =>
      if (s.slot glaze b).state == .trial then (s, .done Mr.SEQUENCE [])
      else ((s.setSlot glaze b {}).modFw fun w => { w with staging := some (glaze, b) }, .wait)

/-- The checks of R335 on a staged image. NEEDS_SVN above the running SVN has no result of its own in R335 (DESIGN CHOICE, log 32). -/
def stageVerdict (s : State) (glaze : Bool) (img : Bytes) : Nat :=
  if !(imageForm img) then Mr.IMAGE_FORMAT
  else if !(imageSigned img) then Mr.IMAGE_SIGNATURE
  else if byteAt img 4 ≠ b2n glaze then Mr.IMAGE_FORMAT
  else if byteAt img 5 < s.fw.rollback then Mr.ROLLBACK
  else if glaze && decide (s.runningImage.svn < byteAt img 14) then
    [Mr.IMAGE_FORMAT, Mr.ROLLBACK, Mr.SEQUENCE].getD (Config.freeChoice s.freeCtr 3) Mr.SEQUENCE
  else Mr.OK

/-- IMAGE_STAGE ends. In recovery a passing image becomes TRIAL and a WARM reset follows (R340). (DESIGN CHOICE, log 83) -/
def stageEnd (s : State) (p : Bytes) (image : Option Bytes) : State × Answer :=
  match s.fw.staging with
  | none => (s, .later)
  | some (glaze, b) =>
    match image with
    | none => (s.modFw fun w => { w with staging := none }, .done Mr.BUFFER_FAULT [])
    | some img =>
      let img := img.take (bufLen p 8)
      let r := s.stageVerdict glaze img
      let s := (s.drew 1).modFw fun w => { w with staging := none }
      if r ≠ Mr.OK then (s, .done r [])
      else
        let s := s.setSlot glaze b (imageOf img (if s.fw.recovery then .trial else .staged))
        (when_ s.fw.recovery (fun s => s.modFw fun w => { w with warmDue := true }) s,
          .done Mr.OK ([byte (b2n b), byte (byteAt img 5), 0, 0] ++ slice img 8 4 ++ slice img 24 48))

/-- A slot in IMAGE_STATUS. -/
def slotBytes (x : Image) : Bytes :=
  [byte (slotCode x.state), byte x.svn, byte x.attempts, 0] ++ padTo 4 x.version ++ padTo 48 x.digest

/-- IMAGE_ACTIVATE (R336, R339). (DESIGN CHOICE, log 83) (DESIGN CHOICE, log 84) -/
def imageActivate (s : State) (p : Bytes) : State × Answer :=
  let glaze := byteAt p 0 = 1
  let b := byteAt p 1 = 1
  let x := s.slot glaze b
  if x.state != .authorised || padTo 48 x.digest != slice p 8 48 then (s, .done Mr.NOT_AUTHORISED [])
  else if (s.slot glaze (!b)).state == .trial then (s, .done Mr.SEQUENCE [])
  else if !glaze then
    let s := s.setSlot false b { x with state := .trial, attempts := 0 }
    (when_ (bitAt (byteAt p 2) 0) (fun s => s.modFw fun w => { w with warmDue := true }) s, .done Mr.OK [])
  else if s.fw.glazeNext.isSome then (s, .done Mr.EPOCH_BUSY [])
  else (s.modFw fun w => { w with glazeNext := some (BitVec.ofNat 16 (leAt x.version 0 2)), glazeNextB := b }, .wait)

/-- IMAGE_COMMIT (R338). -/
def imageCommit (s : State) (glaze b : Bool) : State × Answer :=
  let x := s.slot glaze b
  if x.state != .trial || (!glaze && s.fw.runningB != b) then (s, .done Mr.SEQUENCE [])
  else
    let s := ((s.setSlot glaze b { x with state := .committed }).setSlot glaze (!b) {}).modFw fun w =>
      { w with rollback := max w.rollback x.svn }
    (s, .done Mr.OK [byte s.fw.rollback, 0, 0, 0])

/-! ## Kilns, sources and margins (R295, R330) -/

def reinstate (s : State) (i : Nat) : State × Answer :=
  if (s.source i).state != .retired then (s, .done Mr.SEQUENCE [])
  else
    let s := s.modSource i fun x => { x with state := .startup, recent := 0 }
    ((s.modEnt fun e => { e with retiredList := e.retiredList.filter (· ≠ i) }).sourceRecord i, .done Mr.OK [])

def marginConfig (s : State) (p : Bytes) : State × Answer :=
  (s.modCone fun c =>
    { c with winStart := leAt p 0 2, winLen := leAt p 2 2, floor := (leAt p 4 2 - 1200) / 25, reportH := leAt p 6 2 },
   .done Mr.OK (slice p 0 8))

end State

/-! ## The commands -/

/-- KILN_RESET; `hashA`, `hashB`: the banks' digests match again (R152). -/
def execKilnReset (fn mailbox : Nat) (hashA hashB : Bool) (s : State) : Res :=
  mbxCommand 0x0501 fn mailbox (fun p s =>
    let k := byteAt p 0
    if State.resettable (s.kiln k).state && !(s.bank (kilnBank k)).fenced then
      (s.kilnResetRun k 1 hashA hashB, .done Mr.OK [1, 0, 0, 0])
    else (s, .done Mr.OK [0, 0, 0, 0])) s

def execEntReinstate (fn mailbox : Nat) (s : State) : Res := mbxCommand 0x0502 fn mailbox (fun p s => s.reinstate (byteAt p 0)) s

def execMarginConfig (fn mailbox : Nat) (s : State) : Res := mbxCommand 0x0503 fn mailbox (fun p s => s.marginConfig p) s

/-- IMAGE_STAGE; `image`: what the buffer held, none where its read failed. The command begins, then ends. -/
def execImageStage (fn mailbox : Nat) (image : Option Bytes) (s : State) : Res :=
  mbxCommand 0x0801 fn mailbox (fun p s => s.stageBegin (byteAt p 0 = 1)) s (fun p s => s.stageEnd p image)

def execImageStatus (fn mailbox : Nat) (s : State) : Res :=
  mbxCommand 0x0802 fn mailbox (fun p s =>
    let t := s.slotsOf (byteAt p 0 = 1)
    (s, .done Mr.OK ([byte s.fw.rollback] ++ zeros 7 ++ State.slotBytes t.a ++ State.slotBytes t.b))) s

/-- IMAGE_ACTIVATE: a glaze set is answered once its level is in force. -/
def execImageActivate (fn mailbox : Nat) (s : State) : Res :=
  mbxCommand 0x0803 fn mailbox (fun p s => s.imageActivate p) s
    (fun _ s => if s.fw.glazeNext.isSome then (s, .later) else (s, .done Mr.OK []))

def execImageCommit (fn mailbox : Nat) (s : State) : Res :=
  mbxCommand 0x0804 fn mailbox (fun p s => s.imageCommit (byteAt p 0 = 1) (byteAt p 1 = 1)) s

end Sys2Proof.Machine
end

