-- ==== Sys2Proof/Machine/MboxSag.lean ====
section
/-! DEFINITION. The mailbox commands of groups 0x02 and 0x03: saggars, policy, drains, keys (R325 to R328), and the changes that
are replicated before they are applied. -/

namespace Sys2Proof.Machine

def sagCode : SagState → Nat
  | .none => 0 | .active => 1 | .erasing => 2

namespace State

/-! ## The changes (R226, R229, R233, R234, R327), as the active and the standby apply them -/

/-- A policy record becomes the saggar's, its saggar-wide part for every variant (R326, R327). -/
def applyPolicy (s : State) (g variant : Nat) (record : Bytes) : State :=
  (s.beginEpoch g (fun v =>
    { v with wide := slice record 0 128, variants := mset (zeros 128) v.variants variant (slice record 128 128) }) none).trimPages g

/-- New cache and extension quotas (R226). (DESIGN CHOICE, log 77) -/
def applyQuota (s : State) (g cache ext : Nat) : State :=
  (s.modSaggar g fun x => { x with cacheQuota := cache, extQuota := ext }).trimCache g

/-- Steps 2 and 3 of R233. (DESIGN CHOICE, log 88) -/
def applyDestroy (s : State) (g handle serial : Nat) : State :=
  let s := s.modSaggar g fun x =>
    if x.isRevoked serial then x else { x with revoked := x.revoked ++ [(serial, x.pol.bepochs.current.toNat)] }
  s.invalidate g fun k => k.handle = handle && k.serial = serial

/-- An originator's enrolment, kept by handle and serial (R234). (DESIGN CHOICE, log 77) -/
def applyEnrol (s : State) (g handle serial used : Nat) : State :=
  s.modSaggar g fun x =>
    let old := (x.origs.filter fun o => o.handle = handle && o.serial = serial).map (·.allocated)
    { x with origs := { handle := handle, serial := serial, allocated := old.foldl max used } ::
        x.origs.filter fun o => !(o.handle = handle && o.serial = serial) }

def applyWithdraw (s : State) (g handle serial : Nat) : State :=
  (s.modSaggar g fun x => { x with origs := x.origs.filter fun o => !(o.handle = handle && o.serial = serial) }).modMir fun m =>
    { m with ceilings := m.ceilings.filter fun e => e.1 != (g, serial) }

/-- OLDEST + 1, as a policy change; the retired epoch's keys go once BUSY is 0 (R229, R230). -/
def applyRetire (s : State) (g : Nat) : State :=
  let s := s.retireCleanup g
  let e := (s.saggar g).pol.bepochs.oldest
  (s.modSaggar g fun x => { x with retired := some e }).beginEpoch g
    (fun v => { v with bepochs := { v.bepochs with oldest := v.bepochs.oldest + 1 } }) none

/-- A replicated change and the payload of its answer. (DESIGN CHOICE, log 81) -/
def applyControl (s : State) (code : Nat) (p : Bytes) : State × Bytes :=
  let g := byteAt p 0
  let range := fun (s : State) =>
    leBytes (s.saggar g).pol.bepochs.current.toNat 2 ++ leBytes (s.saggar g).pol.bepochs.oldest.toNat 2
  match code with
  | 0x0203 =>
    let s := s.applyPolicy g (byteAt p 1) (slice p 8 256)
    (s, leBytes (s.saggar g).epoch.toNat 2 ++ [0, 0])
  | 0x0204 => (s.applyQuota g (leAt p 4 4) (leAt p 8 2), [])
  | 0x0301 => (s.applyDestroy g (leAt p 4 4) (leAt p 8 8), [])
  | 0x0302 => (s.applyEnrol g (leAt p 4 4) (leAt p 8 8) (leAt p 16 4), [])
  | 0x0303 => (s.applyWithdraw g (leAt p 4 4) (leAt p 8 8), [])
  | 0x0304 =>
    let s := s.advanceBepoch g
    (s, range s)
  | 0x0305 =>
    let s := s.applyRetire g
    (s, range s)
  | 0xFFFF => (s.autoAdvance g, [])
  | _ => (s, [])

/-! ## Replication (R325, R370, R377) -/

/-- A replicated change of saggar `g` still waits for its acknowledgement. (DESIGN CHOICE, log 79) -/
def controlWaits (s : State) (g : Nat) : Bool := s.mir.controls.any fun c => match c.2 with
  | .advance x => x = g
  | .ceremony => true
  | .mailbox fn k => ((s.box fn k).running.map fun r => byteAt (reqBody r) 0) == some g

/-- A replicated command whose own conditions `refusal` has judged: sent to the standby first, applied at once, or refused. (DESIGN CHOICE, log 79) -/
def replicate (s : State) (fn k code : Nat) (p : Bytes) (refusal : Option Nat) : State × Answer :=
  let g := byteAt p 0
  if s.controlWaits g then (s, .later)
  else match refusal with
    | some r => (s, .done r [])
    | none => match s.replication (some g) with
      | .refused => (s, .done Mr.UNMIRRORED [])
      | .wait => (s.sendControl code p (.mailbox fn k), .wait)
      | .now =>
        let s := s.raiseGen
        if s.unmirroredGo then
          let r := (s.noteControl code p).applyControl code p
          (r.1, .done Mr.OK r.2)
        else (s, .later)

/-! ## Conditions -/

def firstBad (cs : List (Bool × Nat)) : Option Nat := (cs.find? (·.1)).map (·.2)

/-- DESIGN CHOICE, log 77. -/
def notActive (s : State) (g : Nat) : Bool := (s.saggar g).state != .active

/-- Segments of the routing region not assigned, and those of a saggar (R248). (DESIGN CHOICE, log 78) -/
def segmentsFree (s : State) : Nat := 250000 - (s.routing.segments.filter fun e => e.2.state != .free).length
def segmentsOf (s : State) (g : Nat) : Nat := (s.routing.segments.filter fun e => e.2.state != .free && e.2.saggar = g).length

/-- Operand pages that saggars other than `g`, and key extensions, claim (R268). (DESIGN CHOICE, log 78) -/
def pagesClaimed (s : State) (g : Nat) : Nat :=
  (s.keys.saggars.map fun e =>
    (s.extPages e.1).length +
      if e.1 = g then 0 else max (s.pageQuota e.1) ((s.operandPages e.1).length + (s.wipingPages e.1).length)).sum

/-- The LIMIT and POOL_EXHAUSTED conditions of a policy record (R104, R248, R268, R325). (DESIGN CHOICE, log 75) (DESIGN CHOICE, log 78) -/
def policyLimits (s : State) (g : Nat) (r : Bytes) : Option Nat :=
  let others := ((s.keys.saggars.filter fun e => e.1 ≠ g).map fun e => polInflight (e.2.pol.record 0)).sum
  firstBad [
    (decide (65536 < others + polInflight r), Mr.LIMIT),
    (decide (68 < polHomeBase r + polHomeSize r), Mr.LIMIT),
    (decide (s.segmentsFree + s.segmentsOf g < polSegQuota r), Mr.LIMIT),
    (decide (s.pageQuota g < polPageQuota r ∧ s.store.total < s.pagesClaimed g + polPageQuota r), Mr.POOL_EXHAUSTED)]

/-- The key cache holds the handle resident for the saggar as an AES B1 key of that serial (R234). -/
def residentB1 (s : State) (g handle serial : Nat) : Bool :=
  match s.cache handle with
  | none => false
  | some e =>
    e.owner = g && (s.saggar g).inRange handle && !e.doomed && (s.saggar g).pol.bepochs.has e.bepoch.toNat && e.key.serial = serial &&
      attrUsage e.key.attr = Us.B1 && attrAlg e.key.attr = Alg.AES

/-! ## Drains and SAGGAR reset (R100, R325, R466, R473) -/

/-- DESIGN CHOICE, log 76. -/
def drain (s : State) (p : Bytes) : State × Answer :=
  if byteAt p 0 = 0 then
    let s := s.modSys fun m => { m with cmdDrain := true }
    (if s.sys.mode == .service then s.enterMode .drain 0 else s, .done Mr.OK [])
  else (when_ (!(s.notActive (byteAt p 1))) (fun s => s.modSaggar (byteAt p 1) fun x => { x with drained := true }) s, .done Mr.OK [])

/-- DESIGN CHOICE, log 76. -/
def undrain (s : State) (p : Bytes) : State × Answer :=
  if byteAt p 0 = 0 then
    if !s.sys.cmdDrain then (s, .done Mr.SEQUENCE [])
    else
      let s := s.modSys fun m => { m with cmdDrain := false }
      (if s.sys.mode == .drain && !s.cone.lastLost then s.enterMode .service 0 else s, .done Mr.OK [])
  else if s.notActive (byteAt p 1) || !(s.saggar (byteAt p 1)).drained then (s, .done Mr.SEQUENCE [])
  else (s.modSaggar (byteAt p 1) fun x => { x with drained := false }, .done Mr.OK [])

/-- The functions bound to a saggar that exist. -/
def boundFns (s : State) (g : Nat) : List Nat := s.host.fns.filterMap fun e => if e.2.bound = some g then some e.1 else none

/-- The saggar's key cache entries go, pinned ones with their last pin (row 10 of R473). -/
def flushCache (s : State) (g : Nat) : State :=
  let hs := s.keys.cache.filterMap fun e => if e.2.any fun c => c.owner = g then some e.1 else none
  forEach hs (fun h s => match s.cache h with
    | some e => if e.pins = 0 then s.dropEntry h else s.setCache h (some { e with doomed := true })
    | none => s) s

/-- A SAGGAR reset starts: the ring reset of R100 for every ring of every bound function. (DESIGN CHOICE, log 80) (DESIGN CHOICE, log 83) -/
def saggarReset (s : State) (g : Nat) : State :=
  (forEach (s.boundFns g) (fun i s => forEach (List.range 8) (fun q s => s.ringReset i q) s) s).flushCache g

/-- The records that a SAGGAR reset discards: of wares of the rings in flight, and those held for merging. (DESIGN CHOICE, log 80) -/
def resetDiscards (s : State) (g : Nat) : Nat :=
  ((s.boundFns g).map fun i =>
    (s.tagsWhere fun w => w.fn = i && !w.stale && !w.ringless && !w.discard).length +
      ((List.range 8).map fun q => (s.ring i q).held.length).sum).sum

/-- No ring of the saggar's functions is still RESETTING. (DESIGN CHOICE, log 80) -/
def resetOver (s : State) (g : Nat) : Bool :=
  (s.boundFns g).all fun i => (List.range 8).all fun q => (s.ring i q).state != .resetting

end State

/-! ## The commands -/

def execSaggarStatus (fn mailbox : Nat) (s : State) : Res :=
  mbxCommand 0x0201 fn mailbox (fun p s =>
    let g := s.saggar (byteAt p 0)
    (s, .done Mr.OK ([byte (sagCode g.state), byte (b2n g.drained)] ++ leBytes g.epoch.toNat 2 ++
      leBytes g.pol.bepochs.current.toNat 2 ++ leBytes g.pol.bepochs.oldest.toNat 2 ++ leBytes g.cacheQuota 4 ++
      leBytes g.extQuota 2 ++ [0, 0]))) s

def execPolicyRead (fn mailbox : Nat) (s : State) : Res :=
  mbxCommand 0x0202 fn mailbox (fun p s =>
    if s.notActive (byteAt p 0) then (s, .done Mr.SAGGAR_STATE [])
    else (s, .done Mr.OK ((s.saggar (byteAt p 0)).pol.record (byteAt p 1)))) s

/-- POLICY_WRITE (R325 to R327). -/
def execPolicyWrite (fn mailbox : Nat) (s : State) : Res :=
  mbxCommand 0x0203 fn mailbox (fun p s =>
    let g := byteAt p 0
    s.replicate fn mailbox 0x0203 p ((State.firstBad [(s.notActive g, Mr.SAGGAR_STATE), ((s.saggar g).busy, Mr.EPOCH_BUSY)]).or
      (s.policyLimits g (slice p 8 256)))) s

/-- QUOTA_SET (R226, R325). -/
def execQuotaSet (fn mailbox : Nat) (s : State) : Res :=
  mbxCommand 0x0204 fn mailbox (fun p s =>
    let g := byteAt p 0
    let range := 1024 * (s.saggar g).sizeK
    s.replicate fn mailbox 0x0204 p (State.firstBad [(s.notActive g, Mr.SAGGAR_STATE),
      (decide (range < leAt p 4 4 ∨ range < leAt p 8 2), Mr.LIMIT)])) s

def execDrain (fn mailbox : Nat) (s : State) : Res := mbxCommand 0x0205 fn mailbox (fun p s => s.drain p) s

def execUndrain (fn mailbox : Nat) (s : State) : Res := mbxCommand 0x0206 fn mailbox (fun p s => s.undrain p) s

/-- SAGGAR_RESET: the resets start, and the answer follows once every ring has ended step 4 of R100. -/
def execSaggarReset (fn mailbox : Nat) (s : State) : Res :=
  mbxCommand 0x0207 fn mailbox (fun p s =>
      let g := byteAt p 0
      if s.notActive g then (s, .done Mr.SAGGAR_STATE [])
      else ((s.saggarReset g).modBox fn mailbox fun b => { b with count := s.resetDiscards g }, .wait))
    s (fun p s => if s.resetOver (byteAt p 0) then (s, .done Mr.OK (leBytes (s.box fn mailbox).count 4)) else (s, .later))

/-- KEY_DESTROY (R233). -/
def execKeyDestroy (fn mailbox : Nat) (s : State) : Res :=
  mbxCommand 0x0301 fn mailbox (fun p s =>
    let g := s.saggar (byteAt p 0)
    s.replicate fn mailbox 0x0301 p (State.firstBad [(g.state != .active, Mr.SAGGAR_STATE),
      (decide (1024 ≤ g.revoked.length) && !(g.isRevoked (leAt p 8 8)), Mr.TABLE_FULL)])) s

/-- ORIG_ENROL (R234). -/
def execOrigEnrol (fn mailbox : Nat) (s : State) : Res :=
  mbxCommand 0x0302 fn mailbox (fun p s =>
    let g := s.saggar (byteAt p 0)
    s.replicate fn mailbox 0x0302 p (State.firstBad [
      (decide (64 ≤ g.origs.length) && !(g.enrolled (leAt p 4 4) (leAt p 8 8)), Mr.TABLE_FULL),
      (g.state != .active || !(s.residentB1 (byteAt p 0) (leAt p 4 4) (leAt p 8 8)), Mr.KEY_UNKNOWN)])) s

/-- ORIG_WITHDRAW (R234). -/
def execOrigWithdraw (fn mailbox : Nat) (s : State) : Res :=
  mbxCommand 0x0303 fn mailbox (fun p s =>
    s.replicate fn mailbox 0x0303 p (State.firstBad [
      (!((s.saggar (byteAt p 0)).enrolled (leAt p 4 4) (leAt p 8 8)), Mr.KEY_UNKNOWN)])) s

/-- BEPOCH_ADVANCE (R229). -/
def execBepochAdvance (fn mailbox : Nat) (s : State) : Res :=
  mbxCommand 0x0304 fn mailbox (fun p s =>
    let g := s.saggar (byteAt p 0)
    s.replicate fn mailbox 0x0304 p (State.firstBad [(g.state != .active, Mr.SAGGAR_STATE),
      (decide (4 ≤ g.pol.bepochs.size), Mr.LIMIT), (g.busy, Mr.EPOCH_BUSY)])) s

/-- BEPOCH_RETIRE (R229). -/
def execBepochRetire (fn mailbox : Nat) (s : State) : Res :=
  mbxCommand 0x0305 fn mailbox (fun p s =>
    let g := s.saggar (byteAt p 0)
    s.replicate fn mailbox 0x0305 p (State.firstBad [(g.state != .active, Mr.SAGGAR_STATE),
      (g.pol.bepochs.size = 1, Mr.LIMIT), (g.busy, Mr.EPOCH_BUSY)])) s

end Sys2Proof.Machine
end

