-- ==== Sys2Proof/Machine/MirrorBytes.lean ====
section
/-! DEFINITION. The payloads of mirror frames that carry deltas, snapshots and keys (R366, R368, R373). The spec names what they carry
and gives no layout: the order here and the lengths before what varies are the model's, numbers little-endian (DESIGN CHOICE, log 40). -/

namespace Sys2Proof.Machine

/-- Bytes of a length that varies, after the length. -/
def counted (b : Bytes) : Bytes := leBytes b.length 4 ++ b

/-- Entries of a table, after their count. -/
def table {α : Type} (xs : List α) (f : α → Bytes) : Bytes := leBytes xs.length 4 ++ xs.flatMap f

/-- A replay entry as REPLAY deltas and snapshots carry it (R368, R374). -/
def replayBytes (sag rid code : Nat) (digest : Bytes) (status step : Nat) (inline unmirrored : Bool) (result : Bytes) : Bytes :=
  [byte sag] ++ leBytes rid 8 ++ leBytes code 2 ++ padTo 8 digest ++ leBytes status 2 ++ leBytes step 2 ++
    [byte (b2n inline + 2 * b2n unmirrored)] ++ counted result

/-- One delta: its class and what the class carries (R368). (DESIGN CHOICE, log 40) -/
def deltaBytes (d : Delta) : Bytes :=
  match d with
  | .replay g rid code digest status step inline unmirrored result =>
    0x01 :: counted (replayBytes g rid code digest status step inline unmirrored result)
  | .counter g handle serial n => 0x02 :: counted ([byte g] ++ leBytes handle 4 ++ leBytes serial 8 ++ leBytes n 4)
  | .timestamp g serial ts => 0x03 :: counted ([byte g] ++ leBytes serial 8 ++ leBytes ts 8)
  | .control code p => 0x10 :: counted (leBytes code 2 ++ p)
  | .keyxfer g wrapped => 0x11 :: counted (byte g :: wrapped)

/-- A delta group: its SEQ and its deltas (R368). (DESIGN CHOICE, log 40) -/
def groupBytes (g : Group) : Bytes := leBytes g.seq 8 ++ table g.deltas deltaBytes

/-- The records of a saggar in a snapshot: ranges, quotas, policies of all variants, blob epochs, revocations, originators with their
counters, and the timestamp table (R373). (DESIGN CHOICE, log 40) -/
def saggarBytes (g : Nat) (x : Saggar) : Bytes :=
  [byte g] ++ leBytes x.baseK 2 ++ leBytes x.sizeK 2 ++ leBytes x.ksetBase 2 ++ leBytes x.ksetCount 2 ++ leBytes x.cacheQuota 4 ++
    leBytes x.extQuota 2 ++ leBytes x.pol.bepochs.current.toNat 2 ++ leBytes x.pol.bepochs.oldest.toNat 2 ++ padTo 128 x.pol.wide ++
    ((List.range 16).flatMap fun v => padTo 128 ((x.pol.record v).drop 128)) ++
    table x.revoked (fun r => leBytes r.1 8 ++ leBytes r.2 2) ++
    table x.origs (fun o => leBytes o.handle 4 ++ leBytes o.serial 8 ++ leBytes o.allocated 4) ++
    table x.hosts (fun h => leBytes h.1 8 ++ leBytes h.2 8)

/-- The replay window in a snapshot: its complete entries (R373, R374). (DESIGN CHOICE, log 40) -/
def windowBytes (m : SMap (Option ReplayEntry)) : Bytes :=
  table (m.filterMap fun e => (e.2.filter (·.complete)).map fun x => (e.1, x)) fun e =>
    replayBytes (e.1 / 2 ^ 64) (e.1 % 2 ^ 64) e.2.code e.2.digest e.2.status e.2.step e.2.inline e.2.unmirrored e.2.result

/-- Master keys by slot, and a roster, before they are wrapped (R213, R347). (DESIGN CHOICE, log 40) -/
def keyBytes (keys : List (Nat × KeyVal)) (r : Roster) : Bytes :=
  table keys (fun e => [byte e.1] ++ leBytes e.2.attr 8 ++ leBytes e.2.serial 8 ++ counted e.2.material) ++
    [byte r.m, byte r.n] ++ padTo 48 r.aHash ++ table r.entries fun e => padTo 48 e

/-- Master keys and a roster wrapped under the pair key PK; R213 and R347 name no algorithm (DESIGN CHOICE, log 90). -/
def wrapped (pk : Bytes) (keys : List (Nat × KeyVal)) (r : Roster) : Bytes := Config.pairWrap pk (keyBytes keys r)

/-- The payloads of the frames that carry so many bytes: at most 4,080 each (R366). -/
def framesOf (b : Bytes) : List Bytes := (List.range (max 1 (ceilDiv b.length 4080))).map fun i => (b.drop (4080 * i)).take 4080

end Sys2Proof.Machine
end

