-- ==== Sys2Proof/Machine/Ceremony.lean ====
section
/-! DEFINITION. Ceremonies (R347 to R357): rosters, shard records, Shamir sharing, the parameter record and its checks, what each kind
applies and commits, the erasure of a saggar (R217), and the end of a ceremony. -/

namespace Sys2Proof.Machine

/-! ## Shamir sharing over GF(2^8) (R349) -/

/-- Doubling modulo x^8 + x^4 + x^3 + x + 1. -/
def gfDouble (a : Nat) : Nat := if 256 ≤ 2 * a then (2 * a) ^^^ 0x11B else 2 * a

/-- The product, bit by bit of `b`. -/
def gfMulFrom : Nat → Nat → Nat → Nat → Nat
  | 0, _, _, acc => acc
  | n + 1, a, b, acc => gfMulFrom n (gfDouble a) (b / 2) (if b % 2 = 1 then acc ^^^ a else acc)

def gfMul (a b : Nat) : Nat := gfMulFrom 8 a b 0

/-- The inverse: the 254th power. -/
def gfInv (a : Nat) : Nat :=
  let a2 := gfMul a a
  let a4 := gfMul a2 a2
  let a8 := gfMul a4 a4
  let a16 := gfMul a8 a8
  let a32 := gfMul a16 a16
  let a64 := gfMul a32 a32
  gfMul (gfMul a64 a64) (gfMul a64 (gfMul a32 (gfMul a16 (gfMul a8 (gfMul a4 a2)))))

/-- A share byte: the polynomial whose coefficients are given, constant first, at `x`. -/
def shareByte (coeffs : List Nat) (x : Nat) : Nat := coeffs.foldr (fun c acc => c ^^^ gfMul acc x) 0

/-- The share at `x` of a secret; coefficient k of byte i stands at (m - 1) i + k of `rand`. -/
def shareOf (m : Nat) (secret rand : Bytes) (x : Nat) : Bytes :=
  (List.range secret.length).map fun i =>
    byte (shareByte (byteAt secret i :: (List.range (m - 1)).map fun k => byteAt rand ((m - 1) * i + k)) x)

/-- Interpolation at 0 of points (x, y). -/
def interpolate (points : List (Nat × Nat)) : Nat :=
  (points.map fun p => gfMul p.2 (((points.filter fun q => q.1 ≠ p.1).map fun q => gfMul q.1 (gfInv (q.1 ^^^ p.1))).foldl gfMul 1)).foldl
    (· ^^^ ·) 0

/-- The secret of a set of shares (R349). -/
def combine (len : Nat) (shares : List (Nat × Bytes)) : Bytes :=
  (List.range len).map fun i => byte (interpolate (shares.map fun e => (e.1, byteAt e.2 i)))

/-! ## Rosters (R347) -/

def reCust (e : Bytes) : Bytes := slice e 0 12
def reRoles (e : Bytes) : Nat := byteAt e 12
/-- DESIGN CHOICE, log 86. -/
def authoriser (e : Bytes) : Bool := bitAt (reRoles e) 0
def keyHolder (e : Bytes) : Bool := bitAt (reRoles e) 1

/-- The entry of a custodian ID and card key. -/
def Roster.find (r : Roster) (cust key : Bytes) : Option Bytes :=
  r.entries.find? fun e => reCust e == cust && slice e 16 32 == padTo 32 (Config.sha256 key)

/-- The entry of a custodian ID. -/
def Roster.entryOf (r : Roster) (cust : Bytes) : Option Bytes := r.entries.find? fun e => reCust e == cust

/-- The form of a roster in a parameter record. -/
def rosterForm (m n : Nat) (es : List Bytes) : Bool :=
  decide (2 ≤ m ∧ m ≤ n ∧ n ≤ 16) && es.all (fun e => decide (reRoles e < 4) && leAt e 13 3 = 0) && decide ((es.map reCust).Nodup)

/-! ## Shard records (R348) -/

def shKind (b : Bytes) : Nat := byteAt b 2
def shM (b : Bytes) : Nat := byteAt b 5
def shN (b : Bytes) : Nat := byteAt b 6
def shX (b : Bytes) : Nat := byteAt b 7
def shSetId (b : Bytes) : Bytes := slice b 8 8
def shLen (b : Bytes) : Nat := byteAt b 16

def shardRecord (kind sag slot m n x : Nat) (setId kcv3 share : Bytes) (attr : Nat) : Bytes :=
  bytesOf [0x5A, 0x53, kind, sag, slot, m, n, x] ++ padTo 8 setId ++ [byte share.length] ++ padTo 3 kcv3 ++ zeros 4 ++ padTo 32 share ++
    leBytes attr 8

/-- The third item of R350, for a shard of a KIND, saggar and slot. -/
def shardForm (b : Bytes) (kind sag slot : Nat) : Bool :=
  byteAt b 0 = 0x5A && byteAt b 1 = 0x53 && shKind b = kind && byteAt b 3 = sag && byteAt b 4 = slot && leAt b 20 4 = 0 &&
  decide (2 ≤ shM b ∧ shM b ≤ shN b ∧ shN b ≤ 16 ∧ 1 ≤ shX b ∧ shX b ≤ shN b) && [16, 24, 32].contains (shLen b)

/-- The shard agrees with the set, and its X is new (R350). -/
def shardFits (t : ShardSet) (b : Bytes) : Bool :=
  t.shares.isEmpty ||
    (t.m = shM b && t.n = shN b && t.setId == shSetId b && t.secretLen = shLen b && t.kcv == slice b 17 3 && t.attr = leAt b 56 8 &&
      !(t.shares.any fun e => e.2.1 = shX b))

/-- The set with the shard counted. -/
def shardAdded (t : ShardSet) (cust b : Bytes) : ShardSet :=
  { t with m := shM b, n := shN b, setId := shSetId b, secretLen := shLen b, kcv := slice b 17 3, attr := leAt b 56 8,
           shares := t.shares ++ [(cust, shX b, slice b 24 (shLen b))] }

/-! ## Parameter records (R353) -/

def crKind (r : Bytes) : Nat := byteAt r 0
def crSag (r : Bytes) : Nat := byteAt r 1
def crSlot (r : Bytes) : Nat := byteAt r 2
def crItem (r : Bytes) : Nat := byteAt r 16
def crValue (r : Bytes) : Nat := byteAt r 17

/-- Where the ranges stand: BASE_K, SIZE_K, key set base and count. -/
def crRangesAt (r : Bytes) : Nat := if crKind r = 1 then 16 else 18

/-- M, N and the entries of the new roster, where the record has one. -/
def crRoster (r : Bytes) : Roster :=
  if crKind r = 1 then
    { m := byteAt r 25, n := byteAt r 26, entries := (List.range (byteAt r 26)).map fun i => slice r (288 + 48 * i) 48 }
  else if crKind r = 3 ∧ crItem r = 1 then
    { m := byteAt r 26, n := byteAt r 27, entries := (List.range (byteAt r 27)).map fun i => slice r (32 + 48 * i) 48 }
  else {}

/-- The bytes of a record of its kind. -/
def crLength (r : Bytes) : Nat :=
  match crKind r with
  | 1 => 288 + 48 * byteAt r 26
  | 2 => 32
  | 3 => if crItem r = 1 then 32 + 48 * byteAt r 27 else 32
  | 4 => 72
  | 5 => 32
  | 6 => 16
  | _ => 32

/-- Ranges within what the device has (R225, R253). -/
def crRangesForm (r : Bytes) : Bool :=
  let o := crRangesAt r
  decide (1 ≤ leAt r o 2 ∧ leAt r o 2 + leAt r (o + 2) 2 ≤ 4096 ∧ leAt r (o + 4) 2 + leAt r (o + 6) 2 ≤ 65536)

/-- ATTR may stand in a master slot: AES or TDES, permitted for its USAGE (R218, R221). -/
def masterAttr (a : Nat) : Bool :=
  (attrAlg a = Alg.AES || attrAlg a = Alg.TDES) && (usageAlgs (attrUsage a)).contains (attrAlg a) && sizeOk (attrAlg a) (attrSize a) &&
  attrReserved a = 0 && decide (1 ≤ attrMode a ∧ attrMode a ≤ 10) && attrExport a ≠ 3 && !(attrPrivate a) && decide (attrVersion a ≤ 99)

/-- The form of a record for a request of KIND `kind`: BAD_FIELD where it fails. `holders`: the key holders of saggar s's roster. -/
def crForm (kind holders : Nat) (r : Bytes) : Bool :=
  let o := crRoster r
  decide (16 ≤ r.length) && crKind r = kind && decide (1 ≤ byteAt r 3 ∧ byteAt r 3 ≤ 240) && leAt r 4 4 = crLength r &&
  decide (crLength r ≤ r.length) && leAt r 8 8 = 0 &&
  (if kind = 2 then decide (1 ≤ crSlot r ∧ crSlot r ≤ 15) else crSlot r = 0) &&
  (match kind with
   | 1 =>
     let k := (o.entries.filter keyHolder).length
     crRangesForm r && decide (byteAt r 24 ≤ 1) && decide (2 ≤ byteAt r 27 ∧ byteAt r 27 ≤ k) && leAt r 28 4 = 0 &&
       polForm (slice r 32 256) && rosterForm o.m o.n o.entries
   | 2 => leAt r 27 5 = 0 && masterAttr (leAt r 16 8)
   | 3 =>
     leAt r 29 3 = 0 &&
     (match crItem r with
      | 1 => rosterForm o.m o.n o.entries
      | 2 => decide (crValue r ≤ 1)
      | 3 => crRangesForm r
      | 4 => decide (crValue r ≤ 1) && crSag r = 0
      | 5 => decide (2 ≤ byteAt r 28 ∧ byteAt r 28 ≤ holders)
      | _ => false)
   | 4 => decide (byteAt r 16 ≤ 1 ∧ byteAt r 17 ≤ 1) && leAt r 18 6 = 0
   | 5 => decide (byteAt r 24 ≤ 1) && leAt r 25 7 = 0
   | 6 => true
   | _ => decide (byteAt r 16 ≤ 1) && leAt r 17 15 = 0)

/-- The saggar whose roster must release shards of A (R351, R354). -/
def crQuorum (r : Bytes) : Nat :=
  match crKind r with
  | 2 => crSag r
  | 3 => if crItem r = 1 ∨ crItem r = 5 then crSag r else 0
  | 7 => if byteAt r 16 = 1 then 0 else crSag r
  | _ => 0

/-- A replicated kind (R351). -/
def crReplicated (r : Bytes) : Bool := [1, 2, 3, 7].contains (crKind r)

/-- ATTR of an SSK: USAGE K1, MODE X, ALG AES, 256 bits (R218); the fields R218 leaves open are zero (DESIGN CHOICE, log 33). -/
def sskAttr : Nat := Us.K1 + Md.X * 2 ^ 8 + Alg.AES * 2 ^ 12 + 256 * 2 ^ 16

namespace State

/-! ## Conditions -/

/-- The device policy, the masters and the lifecycle admit kind `kind` from the present mode (R351, R352); none runs while the guard
lines stay closed after a lifecycle transition (R489). -/
def kindAdmitted (s : State) (kind sag : Nat) : Bool :=
  !s.lcc.guarded && (let boot := kind = 1 && sag = 0 && (s.saggar 0).state == .none
  match s.sys.mode with
  | .service | .drain => decide (1 ≤ kind ∧ kind ≤ 7)
  | .standby => [4, 5, 6].contains kind
  | .safe =>
    [4, 6].contains kind && !s.flt.parity && (List.range 28).all (fun i => !(s.alarmLive i && decide (respGuard ≤ (s.tsource i).resp))) &&
      [2, 3, 4, 5, 6, 7, 17, 18, 19].all fun b => !(s.bank b).fenced
  | .erased => boot && s.keys.hearth = 1
  | _ => false)

/-- The saggars a record needs are in the state it needs. -/
def crSaggars (s : State) (r : Bytes) : Bool :=
  let active := fun (g : Nat) => (s.saggar g).state == .active
  match crKind r with
  | 1 => (s.saggar (crSag r)).state == .none && (crSag r = 0 || active 0)
  | 2 | 7 => active (crSag r) && active (crQuorum r)
  | 3 => (crItem r = 4 || active (crSag r)) && active (crQuorum r)
  | _ => active 0

/-- Two ranges of a base and a count meet. (DESIGN CHOICE, log 89) -/
def rangesMeet (a n b m : Nat) : Bool := decide (a < b + m ∧ b < a + n)

/-- The ranges of a record are free of every other saggar's (R225, R253). -/
def rangesFree (s : State) (r : Bytes) : Bool :=
  let o := crRangesAt r
  s.keys.saggars.all fun e => e.1 = crSag r || e.2.state == .none ||
    (!(rangesMeet (leAt r o 2) (leAt r (o + 2) 2) e.2.baseK e.2.sizeK) &&
      !(rangesMeet (leAt r (o + 4) 2) (leAt r (o + 6) 2) e.2.ksetBase e.2.ksetCount))

/-- Every handle and key set that the saggar uses lies in the ranges of the record (R354). -/
def rangesHold (s : State) (r : Bytes) : Bool :=
  let o := crRangesAt r
  let g := s.saggar (crSag r)
  let handleIn := fun (h : Nat) => decide (1024 * leAt r o 2 ≤ h ∧ h < 1024 * (leAt r o 2 + leAt r (o + 2) 2))
  g.residence.all handleIn && (g.origs.all fun x => handleIn x.handle) &&
  s.routing.ksets.all fun e => !(decide (g.ksetBase ≤ e.1 ∧ e.1 < g.ksetBase + g.ksetCount)) ||
    decide (leAt r (o + 4) 2 ≤ e.1 ∧ e.1 < leAt r (o + 4) 2 + leAt r (o + 6) 2)

/-- The saggar holds a hash table. -/
def holdsTable (s : State) (k : Nat) : Bool := !((s.grant k).live.isEmpty && (s.grant k).waiting.isEmpty)

/-- The conditions of R250 and R354 on what a record would change. (DESIGN CHOICE, log 89) -/
def crConflict (s : State) (r : Bytes) : Option Nat :=
  let g := crSag r
  match crKind r with
  | 1 => if !(s.rangesFree r) then some Mr.LIMIT else (s.policyLimits g (slice r 32 256)).map fun _ => Mr.LIMIT
  | 3 =>
    (match crItem r with
     | 2 =>
       if crValue r = 1 then
         if (s.grantOf g).isSome then some Mr.SEQUENCE
         else if (s.routing.rows.any fun x => x.saggar = g) || decide (0 < s.segmentsOf g) then some Mr.SEQUENCE
         else if (List.range 8).all fun k => (s.grant k).saggar.isSome then some Mr.LIMIT else none
       else match s.grantOf g with
         | none => some Mr.SEQUENCE
         | some k => if s.holdsTable k then some Mr.SEQUENCE else none
     | 3 => if s.rangesFree r && s.rangesHold r then none else some Mr.LIMIT
     | _ => none)
  | 4 =>
    let x := s.slot (byteAt r 16 = 1) (byteAt r 17 = 1)
    if x.state == .staged && padTo 48 x.digest == slice r 24 48 then none else some Mr.SEQUENCE
  | 5 =>
    if byteAt r 24 = 1 && ((s.keys.saggars.any fun e => e.1 ≠ 0 && e.2.state == .active) || decide (0 < s.inflight)) then some Mr.SEQUENCE
    else none
  | _ => none

/-! ## The erasure of a saggar (R217) -/

/-- Routing of the saggar goes: locks, rows, segments, tables, key sets, grant (R259). -/
def eraseRouting (s : State) (g : Nat) : State :=
  let x := s.saggar g
  s.modRouting fun r =>
    { r with
      busy := r.busy && !((s.segment r.busySeg).saggar = g),
      segments := r.segments.filter fun e => e.2.state == .free || e.2.saggar ≠ g,
      rows := r.rows.filter fun e => e.saggar ≠ g,
      grants := mmap {} (fun _ t => if t.saggar = some g then {} else t) r.grants,
      ksets := r.ksets.filter fun e => !(decide (x.ksetBase ≤ e.1 ∧ e.1 < x.ksetBase + x.ksetCount)) }

/-- Every binding to the saggar goes, as an unbind does (R50, R52). -/
def unbindAll (s : State) (g : Nat) : State :=
  forEach ((s.host.bindings.filter fun e => e.2 = g).map (·.1)) (fun i s => s.rebind i none) s

/-- Steps 1 to 5 of R217; STATE becomes NONE with the last. (DESIGN CHOICE, log 88) -/
def eraseSaggar (s : State) (g : Nat) : State :=
  if (s.saggar g).state == .none then s
  else
    let s := ((s.saggarReset g).invalidate g fun _ => true).eraseRouting g
    let s := s.unbindAll g
    let s := s.modMir fun m =>
      { m with ceilings := m.ceilings.filter fun e => e.1.1 ≠ g, replay := m.replay.filter fun e => e.1 / 2 ^ 64 ≠ g }
    let s := s.modCus fun c => { c with rosters := mset {} c.rosters g {} }
    let s := (s.modSaggar g fun x => { epoch := x.epoch, latch := x.latch, demoted := x.demoted }).dropPages g
    let s := s.newTweak g
    s.saggarRecord g 0x0F06 [] true

/-! ## What a commit puts into force (R216, R354, R356) -/

/-- CREATE_SAGGAR without its keys and roster: ranges, policy, CNONCE, the stream. (DESIGN CHOICE, log 78) -/
def createSaggar (s : State) (r : Bytes) (cnonce : Bytes) : State :=
  let g := crSag r
  let range := 1024 * leAt r 18 2
  let variants := (List.range 16).foldl (fun m v => mset (zeros 128) m v (slice r 160 128)) []
  let view : PolicyView := { wide := slice r 32 128, variants := variants }
  let s := s.modSaggar g fun x =>
    { cnonce := cnonce, baseK := leAt r 16 2, sizeK := leAt r 18 2, ksetBase := leAt r 20 2, ksetCount := leAt r 22 2, pol := view,
      polOld := view, epoch := x.epoch, latch := x.latch, demoted := x.demoted,
      cacheQuota := Config.freeChoice s.freeCtr (range + 1) % (range + 1),
      extQuota := Config.freeChoice (s.freeCtr + 1) (min range 8191 + 1) % (min range 8191 + 1) }
  ((s.drew 2).newTweak g).saggarRecord g 0x0F05 [] true

/-- A master key enters its slot, and the key store's image of it, under the nonce `iv`, goes to NOR flash (R219). -/
def installKey (s : State) (g j : Nat) (k : KeyVal) (iv : Bytes) : State :=
  let image := makeBlob (slotWrapKey s.keys.hk g (s.saggar g).cnonce) 0x81 g 0 j k.attr k.serial k.material iv
  (s.modSaggar g fun x => { x with images := minsert x.images j image }).setMaster g j { k with handle := j, bepoch := 0 }

def setRoster (s : State) (g : Nat) (r : Roster) : State := s.modCus fun c => { c with rosters := mset {} c.rosters g r }

/-- The effect of a committed record that needs no secret: on both modules of a pair (R356, R368). -/
def crEffect (s : State) (r : Bytes) : State :=
  let g := crSag r
  match crKind r with
  | 3 =>
    (match crItem r with
     | 2 =>
       if crValue r = 1 then
         match (List.range 8).find? fun k => (s.grant k).saggar.isNone with
         | some k => s.modGrant k fun _ => { saggar := some g }
         | none => s
       else match s.grantOf g with
         | some k => s.modGrant k fun _ => {}
         | none => s
     | 3 => s.modSaggar g fun x =>
       { x with baseK := leAt r 18 2, sizeK := leAt r 20 2, ksetBase := leAt r 22 2, ksetCount := leAt r 24 2 }
     | 4 => s.modHost fun h => { h with idePolicy := crValue r = 1, ideRequired := crValue r = 1 }
     | _ => s)
  | 4 =>
    let glaze := byteAt r 16 = 1
    let b := byteAt r 17 = 1
    s.setSlot glaze b { s.slot glaze b with state := .authorised }
  | 5 => s.modMir fun m => { m with auth := some { peer := leAt r 16 8, standbyRole := byteAt r 24 = 1 }, pairing := {} }
  | 6 => forEach s.listedSaggars (fun g s => s.eraseSaggar g) s
  | 7 => s.eraseSaggar g
  | _ => s

/-- ATTR of the key that a ceremony installs: of its record, of the shards, or of a generated SSK. -/
def newAttr (s : State) : Nat :=
  if crKind s.cus.cer.record = 2 then leAt s.cus.cer.record 16 8
  else match s.cus.cer.keySet with
    | some t => t.attr
    | none => sskAttr

/-- The effect of the ceremony's record on the module that runs it, with what step 4 drew. -/
def commitEffect (s : State) : State :=
  let c := s.cus.cer
  let r := c.record
  let g := crSag r
  let hash := padTo 48 (Config.sha384 c.newSecret)
  match crKind r with
  | 1 =>
    let s := (s.createSaggar r c.newNonce)
    let key : KeyVal := { attr := s.newAttr, material := c.newKey, serial := leNat (slice c.newSeed 0 8) }
    (s.installKey g 0 key (slice c.newSeed 8 12)).setRoster g { crRoster r with aHash := hash }
  | 2 =>
    let key : KeyVal := { attr := s.newAttr, material := c.newKey, serial := leNat (slice c.newSeed 0 8) }
    s.installKey g (crSlot r) key (slice c.newSeed 8 12)
  | _ =>
    let s := s.crEffect r
    if crKind r = 3 ∧ crItem r = 1 then s.setRoster g { crRoster r with aHash := hash } else s

/-! ## The end of a ceremony (R355 step 7) -/

/-- The mode a ceremony leaves CEREMONY for. -/
def modeAfter (s : State) : Mode :=
  let c := s.cus.cer
  let back : Mode :=
    if c.committed && c.bootstrap then .service
    else if c.committed && c.kind = 6 then .erased
    else if c.fromMode = modeCode .standby then (if s.mir.pair.isSome then .standby else .service)
    else if c.fromMode = modeCode .safe then .safe
    else if c.fromMode = modeCode .erased then .erased
    else if c.fromMode = modeCode .drain && s.sys.cmdDrain then .drain else .service
  if back == .service && s.cone.lastLost then .drain else back

/-- Step 7: secrets zeroed, CER_END, and CEREMONY is left. -/
def finishCeremony (s : State) (outcome : Nat) : State :=
  if !s.cerRuns then s
  else
    let m := s.modeAfter
    let s := s.closeCeremony outcome
    if s.sys.mode == .ceremony then s.enterMode m 0 else s

/-- Step 6 once nothing more is waited for: the commit record, the effect, step 7. -/
def commitNow (s : State) : State :=
  ((s.modCer fun c => { c with committed := true }).commitEffect).finishCeremony Mr.OK

/-- The policy that governs a replicated ceremony while unmirrored: for CREATE_SAGGAR the new record's (R356). (DESIGN CHOICE, log 90) -/
def crReplication (s : State) : Replication :=
  let r := s.cus.cer.record
  if !(crReplicated r) || !s.paired then .now
  else if crKind r = 1 then (if s.mirrored then .wait else if polContinue (slice r 32 256) then .now else .refused)
  else s.replication (some (crSag r))

/-- The keys and the roster a commit sends the peer beside its record, wrapped under the pair key (R213, R347, R368). (DESIGN CHOICE, log 90) -/
def crKeyxfer (s : State) : List Delta :=
  let c := s.cus.cer
  let r := c.record
  let pk := (s.mir.pair.map (·.pk)).getD []
  let key : KeyVal := { attr := s.newAttr, material := c.newKey, serial := leNat (slice c.newSeed 0 8) }
  let roster := { crRoster r with aHash := padTo 48 (Config.sha384 c.newSecret) }
  if crKind r = 1 then [.keyxfer (crSag r) (wrapped pk [(0, key)] roster)]
  else if crKind r = 2 then [.keyxfer (crSag r) (wrapped pk [(crSlot r, key)] (s.roster (crSag r)))]
  else if crKind r = 3 ∧ crItem r = 1 then [.keyxfer (crSag r) (wrapped pk [] roster)]
  else []

/-- The CODE that a ceremony's CONTROL delta carries: CER_BEGIN's (DESIGN CHOICE, log 21). -/
abbrev cerControl : Nat := 0x0901

/-- Step 6 (R356): replicated kinds go to the peer first; unmirrored, the policy governs. -/
def commitStep (s : State) : State :=
  if s.cus.cer.step ≠ 5 || (s.mir.controls.any fun c => c.2 == .ceremony) then s
  else match s.crReplication with
    | .refused => s.finishCeremony Mr.UNMIRRORED
    | .wait =>
      let ds := s.crKeyxfer
      let s := s.logGroup none (.control cerControl s.cus.cer.record :: ds)
      s.modMir fun m => { m with controls := m.controls ++ [(m.seq, .ceremony)] }
    | .now =>
      if !(crReplicated s.cus.cer.record) || !s.paired then s.commitNow
      else
        let s := s.raiseGen
        if s.unmirroredGo then
          let ds := s.crKeyxfer
          (s.logGroup none (.control cerControl s.cus.cer.record :: ds)).commitNow
        else s

/-- Every output is stored, and in the bootstrap every custodian has presented a card (R351): step 6 begins. -/
def writingDone (s : State) : State :=
  let c := s.cus.cer
  if c.step = 4 && (c.outputs.all (·.stored)) &&
      (!c.bootstrap || (crRoster c.record).entries.all fun e => c.seen.contains (reCust e)) then
    (s.modCer fun c => { c with step := 5 }).commitStep
  else s

/-! ## Step 4: the kind is applied (R354) -/

/-- The bytes drawn to split a secret of `len` bytes: SET_ID and the coefficients (R348, R349). (DEDUCED, log 144) -/
def splitLen (m len : Nat) : Nat := 8 + (m - 1) * len

/-- Splits a secret over the entries of a roster, one output to each; `rand` holds SET_ID and the coefficients (R349). -/
def splitOutputs (s : State) (kind m n : Nat) (es : List Bytes) (secret kcv3 : Bytes) (attr : Nat) (rand : Bytes) : List OutputShard :=
  es.mapIdx fun i e =>
    { custId := reCust e,
      record := shardRecord kind s.cus.cer.saggar 0 m n (i + 1) (slice rand 0 8) kcv3 (shareOf m secret (rand.drop 8) (i + 1)) attr }

/-- The check value of an authorisation secret (R348). -/
def aCheck (a : Bytes) : Bytes := (Config.sha384 a).take 3

/-- The key a set combined, where its check value is the record's and the set's (R349, R354). -/
def combinedKey (t : Option ShardSet) : Bytes := (t.bind (·.combined)).getD []

/-- SSK(s) as its slot holds it. -/
def ssk (s : State) (g : Nat) : KeyVal := (mget none (s.saggar g).slots 0).getD {}

/-- The bytes of the SSK that a CREATE_SAGGAR installs: generated with 256 bits, or restored. -/
def sskLen (s : State) : Nat := match s.cus.cer.keySet with
  | some t => (combinedKey (some t)).length
  | none => 32

/-- The bytes that step 4 of a record draws: 20 for SERIAL and nonce of a slot image, A(s), CNONCE(s) and SSK(s), and the splits. All
come from the control DRBG, of the 69 the only one outside the kilns. (DEDUCED, log 144) -/
def crDraws (s : State) (r : Bytes) : Nat :=
  match crKind r with
  | 1 => 20 + 32 + 16 + 32 + splitLen (crRoster r).m 32 + splitLen (byteAt r 27) s.sskLen
  | 2 => 20
  | 3 =>
    if crItem r = 1 then 32 + splitLen (crRoster r).m 32
    else if crItem r = 5 then splitLen (byteAt r 28) (s.ssk (crSag r)).material.length
    else 0
  | _ => 0

/-- A(s) for the new roster and its split. (DESIGN CHOICE, log 86) -/
def splitA (s : State) (a rand : Bytes) : State :=
  let o := crRoster s.cus.cer.record
  let out := s.splitOutputs 1 o.m o.n (o.entries.filter authoriser) a (aCheck a) 0 rand
  s.modCer fun c => { c with newSecret := a, outputs := c.outputs ++ out }

/-- Splits SSK(s) over the key holders of a roster. -/
def splitSsk (s : State) (m : Nat) (o : Roster) (key : Bytes) (attr : Nat) (rand : Bytes) : State :=
  let es := o.entries.filter keyHolder
  let out := s.splitOutputs 2 m es.length es key (kcv attr key) attr rand
  s.modCer fun c => { c with outputs := c.outputs ++ out }

/-- Step 4 with the bytes drawn, where the kind draws any: outputs, and WRITING begins. -/
def applyKind (s : State) (rand : Bytes) : State :=
  let c := s.cus.cer
  let r := c.record
  let s := match crKind r with
    | 1 =>
      let key := match c.keySet with
        | some t => combinedKey (some t)
        | none => slice rand 68 32
      let attr := s.newAttr
      let s := s.modCer fun c => { c with newKey := key, newNonce := slice rand 52 16, newSeed := slice rand 0 20 }
      (s.splitA (slice rand 20 32) (rand.drop 100)).splitSsk (byteAt r 27) (crRoster r) key attr
        (rand.drop (100 + splitLen (crRoster r).m 32))
    | 2 => s.modCer fun c => { c with newKey := combinedKey c.keySet, newSeed := slice rand 0 20 }
    | 3 =>
      if crItem r = 1 then s.splitA (slice rand 0 32) (rand.drop 32)
      else if crItem r = 5 then
        let k := s.ssk (crSag r)
        s.splitSsk (byteAt r 28) (s.roster (crSag r)) k.material k.attr rand
      else s
    | _ => s
  (s.modCer fun c => { c with step := 4 }).writingDone

/-- Step 4 (STEP 3): the checks of R354, then the draws; while the control DRBG refuses, the ceremony waits (R316, R357). -/
def applyStep (s : State) : State :=
  if s.cus.cer.step ≠ 3 then s
  else
    let r := s.cus.cer.record
    match s.crConflict r with
    | some result => s.finishCeremony result
    | none =>
      if s.crDraws r = 0 then s.applyKind []
      else match s.controlBytes (s.crDraws r) with
        | (s', some rand) => s'.applyKind rand
        | (s', none) => s'

/-! ## Step 3: shard sets (R349, R350, R351) -/

/-- The sets still to be collected: KIND 1 unless a bootstrap, and the kind's own. -/
def setsLeft (s : State) : List Nat :=
  let c := s.cus.cer
  (if c.bootstrap || c.aSet.combined.isSome then [] else [1]) ++
    (match c.keySet with
     | some t => if t.combined.isSome then [] else [t.kind]
     | none => [])

/-- Every set is complete: step 4 begins. -/
def setsDone (s : State) : State :=
  if s.cus.cer.step = 2 && s.setsLeft.isEmpty then (s.modCer fun c => { c with step := 3 }).applyStep else s

/-- The latch of the quorum saggar and of the target: KEYSTORE writes of the target are admitted (R219, R349). (DESIGN CHOICE, log 116) -/
def setLatches (s : State) : State :=
  let q := s.cus.cer.quorumSag
  let t := s.cus.cer.saggar
  (s.modSaggar q fun x => { x with latch := true }).modSaggar t fun x => { x with latch := true }

/-- The combiner runs on a set that has reached M (R349). -/
def combineSet (s : State) (kind : Nat) : State :=
  let c := s.cus.cer
  let t := if kind = 1 then c.aSet else c.keySet.getD { kind := kind }
  if t.shares.length < t.m || t.shares.isEmpty then s
  else
    let secret := combine t.secretLen (t.shares.map fun e => (e.2.1, e.2.2))
    let s := s.cerRecord 0x0904 [byte kind, byte t.m]
    if kind = 1 then
      if padTo 48 (Config.sha384 secret) != padTo 48 (s.roster c.quorumSag).aHash then s.finishCeremony Mr.NOT_AUTHORISED
      else (s.modCer fun c => { c with aSet := { c.aSet with combined := some secret } }).setLatches.setsDone
    else
      let want := if kind = 3 then slice c.record 24 3 else t.kcv
      let attr := if kind = 3 then leAt c.record 16 8 else t.attr
      if kcv attr secret != t.kcv || kcv attr secret != want || (kind = 3 && t.secretLen * 8 ≠ attrSize attr) ||
          (kind = 2 && !(sskForm attr)) then
        s.finishCeremony Mr.KEY_UNKNOWN
      else (s.modCer fun c => { c with keySet := some { t with combined := some secret } }).setsDone

end State

end Sys2Proof.Machine
end

