-- ==== Sys2Proof/Machine/CerCmds.lean ====
section
/-! DEFINITION. The ceremony commands and the custodian ports (R342 to R346, R350, R355, R357 to R360), and the key store's write port
at ceremony (R219). -/

namespace Sys2Proof.Machine

/-! ## What the device sends a card (R344, R346) -/

/-- The AID of the custodian application (R344). (PRESUMED, log 34) -/
def cardAid : Bytes := bytesOf [0xF0, 0x5A, 0x48, 0x56, 0x43, 0x55, 0x53]

/-- SELECT by name; P2 and the length bytes are ISO/IEC 7816-4's (PRESUMED, log 34). -/
def apduSelect : Bytes := bytesOf [0x00, 0xA4, 0x04, 0x00] ++ cardAid

/-- The header of an application command, which is also the additional data of secure messaging; P1 and P2 are zero (PRESUMED, log 34). -/
def apduHeader (ins : Nat) : Bytes := bytesOf [0x80, ins, 0, 0]

/-- The nonce of a secure messaging counter (R346). -/
def smNonce (n : Nat) : Bytes := zeros 4 ++ beBytes n 8

/-- HKDF-SHA-384 (RFC 5869) to `len` bytes, 96 at most. -/
def hkdf384 (salt ikm info : Bytes) (len : Nat) : Bytes :=
  let prk := padTo 48 (Config.hmac 384 salt ikm)
  let t1 := padTo 48 (Config.hmac 384 prk (info ++ [1]))
  (t1 ++ padTo 48 (Config.hmac 384 prk (t1 ++ info ++ [2]))).take len

/-- The secure messaging keys of a card session, under "ZV-CUS-SM" (R346). -/
def smKeys (salt z : Bytes) : Bytes := hkdf384 salt z (bytesOf [0x5A, 0x56, 0x2D, 0x43, 0x55, 0x53, 0x2D, 0x53, 0x4D]) 64

/-- The custodian port exists. -/
def portUnit (p : Nat) : Bool := decide (p < 2)

namespace State

/-- A command APDU goes to the card. -/
def sendApdu (s : State) (p : Nat) (data : Bytes) (x : Exchange) : State :=
  (s.modCusPort p fun c => { c with exch := x, failures := 0 }).emit (.apdu p data)

/-- A command under secure messaging (R346). -/
def sendSecure (s : State) (p ins : Nat) (data : Bytes) (x : Exchange) : State :=
  let c := s.cusPort p
  let sealed := Config.gcmSeal (slice c.keys 0 32) (smNonce c.sendCtr) (apduHeader ins) data
  (s.modCusPort p fun c => { c with sendCtr := c.sendCtr + 1 }).sendApdu p
    (apduHeader ins ++ padTo data.length sealed.1 ++ padTo 16 sealed.2) x

/-- The plain data of a secured response; none where its tag fails. -/
def openSecure (s : State) (p ins : Nat) (data : Bytes) : Option Bytes :=
  let c := s.cusPort p
  if data.length < 16 then none
  else (Config.gcmOpen (slice c.keys 32 32) (smNonce c.recvCtr) (apduHeader ins) (data.take (data.length - 16))
    (data.drop (data.length - 16))).map (padTo (data.length - 16))

/-- A journal line of the running ceremony (R359). -/
def journalCard (s : State) (p : Nat) (result : CardResult) (sig : Bytes) : State :=
  s.modCus fun c =>
    { c with journal := match c.journal with
        | e :: rest => { e with cards := e.cards ++ [(p, (s.cusPort p).custId, cardResultCode result, sig)] } :: rest
        | [] => [] }

/-- A result other than OK: CARD_RESULT, and the port deactivated (R345, R359). AUTH_FAILED is counted (R360). (DESIGN CHOICE, log 85) -/
def cardFails (s : State) (p : Nat) (result : CardResult) (state_ : CardState := .failed) : State :=
  let s := (s.cerRecord 0x0902 ([byte p] ++ padTo 12 (s.cusPort p).custId ++ [byte (cardResultCode result)])).journalCard p result []
  let s := when_ (result == .authFailed) (fun s => s.modCus fun c =>
    if p = 0 then { c with fail0 := satInc c.fail0 } else { c with fail1 := satInc c.fail1 }) s
  s.modCusPort p fun c => { c.off state_ with last := result, custId := [], cardKey := [] }

/-- The port takes part in steps 3 to 5. -/
def cardServes (s : State) : Bool := s.sys.mode == .ceremony && decide (2 ≤ s.cus.cer.step ∧ s.cus.cer.step ≤ 4)

/-- A response to exchange `x` arrived at port `p` of a ceremony; a status word other than 0x9000 is CARD_REFUSED (R344). -/
def onResponse (s : State) (p : Nat) (x : Exchange) (sw : Nat) (f : State → State) : State :=
  when_ (s.sys.mode == .ceremony && (s.cusPort p).exch == x) (fun s =>
    if sw = 0x9000 then f (s.modCusPort p fun c => { c with failures := 0 }) else s.cardFails p .cardRefused) s

/-! ## Serving a card (R345, R350, R355) -/

/-- Quorum roster and new roster of the running ceremony (R351). -/
def quorumRoster (s : State) : Roster := if s.cus.cer.bootstrap then {} else s.roster s.cus.cer.quorumSag
def newRoster (s : State) : Roster := crRoster s.cus.cer.record

/-- The roster that names the holders of the kind's own shard set. -/
def keyRoster (s : State) : Roster := if s.cus.cer.kind = 1 then s.newRoster else s.quorumRoster

/-- The custodian may release shards of a KIND (R350). -/
def mayRelease_ (s : State) (p kind : Nat) : Bool :=
  let c := s.cusPort p
  if kind = 1 then (s.quorumRoster.find c.custId c.cardKey).any authoriser else (s.keyRoster.find c.custId c.cardKey).any keyHolder

/-- SLOT of the kind's own set. -/
def setSlotNo (s : State) (kind : Nat) : Nat := if kind = 3 then s.cus.cer.slot else 0

/-- SAGGAR of a KIND's shards. -/
def setSaggar (s : State) (kind : Nat) : Nat := if kind = 1 then s.cus.cer.quorumSag else s.cus.cer.saggar

/-- The next thing an authenticated card is asked, after KIND `after` (0 at first): a shard still needed, an output still due, or
nothing. (DESIGN CHOICE, log 85) -/
def serveCard (s : State) (p after : Nat) : State :=
  let c := s.cus.cer
  let cust := (s.cusPort p).custId
  if c.step = 2 then
    match s.setsLeft.find? fun k => decide (after < k) && s.mayRelease_ p k with
    | some k => s.sendSecure p 0x20 (bytesOf [k, s.setSaggar k, s.setSlotNo k] ++ padTo 48 c.cd) (.release k)
    | none => s.modCusPort p fun x => { x with state := .done, exch := .none }
  else if c.step = 4 then
    match c.outputs.findIdx? fun o => o.custId == cust && !o.stored with
    | some i => s.sendSecure p 0x22 ((c.outputs.getD i { custId := [], record := [] }).record ++ padTo 48 c.cd) (.store i)
    | none => s.modCusPort p fun x => { x with state := .done, exch := .none }
  else s.modCusPort p fun x => { x with state := .done, exch := .none }

/-- The other port already serves the same custodian (R357). -/
def servedElsewhere (s : State) (p : Nat) (cust : Bytes) : Bool :=
  let o := s.cusPort (1 - p)
  (o.state == .authenticated || o.state == .done) && o.custId == cust

/-- GET IDENTITY's answer: enrolled custodians go on (R345 steps 1 and 2). -/
def identified (s : State) (p : Nat) (data : Bytes) : State :=
  let cust := slice data 0 12
  let key := slice data 12 97
  let s := s.modCusPort p fun c => { c with custId := cust, cardKey := key }
  if (s.quorumRoster.find cust key).isNone && (s.newRoster.find cust key).isNone then s.cardFails p .notEnrolled
  else if s.servedElsewhere p cust then s.cardFails p .duplicate
  else s.sendApdu p (apduHeader 0x11 ++ s.chainOf) .deviceCert

/-- Step 3 of R345; while the control DRBG refuses, the port waits. (DESIGN CHOICE, log 87) -/
def challengeCard (s : State) (p : Nat) : State :=
  match s.controlBytes 80 with
  | (s', none) => s'
  | (s', some rand) =>
    let nd := slice rand 0 32
    let eph := slice rand 32 48
    let qd := padTo 97 (Config.publicP384 eph)
    let uid := leBytes Config.uid.toNat 8
    let sig := padTo 96 (Config.deviceSign (Config.sha384 (nd ++ qd ++ uid)))
    (s'.modCusPort p fun c => { c with nonce := nd, ephemeral := eph }).sendApdu p (apduHeader 0x12 ++ nd ++ qd ++ uid ++ sig)
      .authenticate

/-- Steps 4 and 5 of R345, and the keys of R346. -/
def authenticated (s : State) (p : Nat) (data : Bytes) : State :=
  let c := s.cusPort p
  let nc := slice data 0 32
  let qc := slice data 32 97
  let qd := padTo 97 (Config.publicP384 c.ephemeral)
  let signed := Config.sha384 (c.nonce ++ qd ++ leBytes Config.uid.toNat 8 ++ nc ++ qc ++ c.custId)
  if data.length ≠ 225 || !(Config.verifyP384 c.cardKey signed (slice data 129 96)) then s.cardFails p .authFailed
  else if s.servedElsewhere p c.custId then s.cardFails p .duplicate
  else match Config.ecdhP384 c.ephemeral qc with
    | none => s.cardFails p .authFailed
    | some z =>
      let s := s.modCusPort p fun c =>
        { c with state := .authenticated, last := .ok, keys := smKeys (c.nonce ++ nc) z, ephemeral := [], sendCtr := 1, recvCtr := 1,
                 exch := .none }
      let s := when_ (s.cus.cer.step = 4) (fun s => s.modCer fun x => { x with seen := c.custId :: x.seen.filter (· != c.custId) }) s
      (s.serveCard p 0).writingDone

/-- A released shard (R350). -/
def released (s : State) (p kind : Nat) (plain : Bytes) : State :=
  let c := s.cusPort p
  let rec_ := slice plain 0 64
  let sig := slice plain 64 96
  let t := if kind = 1 then s.cus.cer.aSet else s.cus.cer.keySet.getD { kind := kind }
  let good := plain.length = 160 && s.mayRelease_ p kind && shardForm rec_ kind (s.setSaggar kind) (s.setSlotNo kind) &&
    Config.verifyP384 c.cardKey (Config.sha384 (rec_ ++ padTo 48 s.cus.cer.cd)) sig && shardFits t rec_ &&
    (kind ≠ 1 || shM rec_ = s.quorumRoster.m)
  if !(s.setsLeft.contains kind) then s.serveCard p kind
  else if t.shares.any fun e => e.1 == c.custId then s.cardFails p .duplicate
  else if !good then s.cardFails p .shardInvalid
  else
    let t := shardAdded t c.custId rec_
    let s := s.modCer fun x => if kind = 1 then { x with aSet := t } else { x with keySet := some t }
    let s := (s.cerRecord 0x0903 (padTo 12 c.custId ++ [byte kind] ++ shSetId rec_ ++ [byte (shX rec_)])).journalCard p .ok sig
    let s := s.modCusPort p fun x => { x with last := .ok, exch := .none }
    let s := s.combineSet kind
    if s.cerRuns then s.serveCard p kind else s

/-- A stored output (R355 step 5). -/
def stored (s : State) (p i : Nat) (plain : Bytes) : State :=
  let c := s.cusPort p
  match s.cus.cer.outputs[i]? with
  | none => s
  | some o =>
    let digest := slice plain 0 32
    let sig := slice plain 32 96
    if plain.length ≠ 128 || digest != padTo 32 (Config.sha256 o.record) ||
        !(Config.verifyP384 c.cardKey (Config.sha384 (digest ++ padTo 48 s.cus.cer.cd)) sig) then s.cardFails p .storeFailed
    else
      let s := s.modCer fun x => { x with outputs := x.outputs.modify i fun y => { y with stored := true } }
      let s := (s.cerRecord 0x0905 (padTo 12 c.custId ++ [byte (shKind o.record), byte (shX o.record)])).journalCard p .ok sig
      let s := s.modCusPort p fun x => { x with last := .ok, exch := .none }
      (s.serveCard p 0).writingDone

/-- A secured response of exchange `x`; a tag that fails ends the session (R346). -/
def onSecured (s : State) (p ins sw : Nat) (x : Exchange) (data : Bytes) (f : State → Bytes → State) : State :=
  s.onResponse p x sw fun s =>
    match s.openSecure p ins data with
    | none => s.cardFails p .authFailed
    | some plain => f (s.modCusPort p fun c => { c with recvCtr := c.recvCtr + 1 }) plain

/-! ## Beginning a ceremony (R355 step 1) -/

/-- The record passes every check: number, CD, journal, CER_BEGIN. An armed answer lapses (R497). -/
def beginCeremony (s : State) (r : Bytes) : State :=
  let boot := crKind r = 1 && crSag r = 0
  let r := r.take (crLength r)
  let cd := padTo 48 (Config.sha384 r)
  let s := s.modCus fun c =>
    { c with
      cer := { number := c.cer.number + 1, kind := crKind r, step := 1, saggar := crSag r, slot := crSlot r, limitMin := byteAt r 3,
               record := r, cd := cd, fromMode := modeCode s.sys.mode, bootstrap := boot, quorumSag := crQuorum r,
               keySet := if crKind r = 2 then some { kind := 3 } else if crKind r = 1 ∧ byteAt r 24 = 1 then some { kind := 2 } else none },
      journal := ({ number := c.cer.number + 1, record := r, cd := cd, beginRtc := s.sys.rtc.toNat } :: c.journal).take 64 }
  let s := s.modLcc fun l => { l with purpose := 0 }
  s.cerRecord 0x0901 ([byte (crKind r), byte (crSag r), byte (crSlot r)] ++ slice cd 0 16)

/-- DESIGN CHOICE, log 102. -/
def cerBegin (s : State) (p : Bytes) (record : Option Bytes) : State × Answer :=
  if s.cerRuns || !(lcCeremonies s.lcc.state) then (s, .done Mr.SEQUENCE [])
  else match record with
    | none => (s, .done Mr.BUFFER_FAULT [])
    | some r =>
      let r := r.take (bufLen p 8)
      if !(s.kindAdmitted (byteAt p 0) (crSag r)) then (s, .done Mr.SEQUENCE [])
      else if !(crForm (byteAt p 0) ((s.roster (crSag r)).entries.filter keyHolder).length r) then (s, .done Mr.BAD_FIELD [])
      else if !(s.crSaggars r) then (s, .done Mr.SAGGAR_STATE [])
      else if s.crConflict r = some Mr.LIMIT then (s, .done Mr.LIMIT [])
      else (s.beginCeremony r, .wait)

/-- CER_BEGIN is answered once CEREMONY is entered, or the ceremony has failed before it. (DESIGN CHOICE, log 83) -/
def cerBegun (s : State) : State × Answer :=
  let c := s.cus.cer
  if c.step = 0 then (s, .done c.outcome [])
  else if c.step = 1 then (s, .later)
  else (s, .done Mr.OK (leBytes c.number 4 ++ padTo 48 c.cd))

/-- The answer to CER_STATUS (R358). `left`: the whole seconds that the timer of LIMIT_MIN has left, which bounds steps 3 to 5 (R355). (DESIGN CHOICE, log 10) -/
def cerStatus (s : State) (left : Nat) : Bytes :=
  let c := s.cus.cer
  let left := if 2 ≤ c.step ∧ c.step ≤ 4 then min left (60 * c.limitMin) else 0
  leBytes c.number 4 ++ [byte c.kind, byte c.step, byte c.saggar, 0] ++ leBytes left 2 ++
    [byte c.aSet.shares.length, byte (if c.bootstrap then 0 else (s.roster c.quorumSag).m),
     byte ((c.keySet.map (·.shares.length)).getD 0), byte ((c.keySet.map (·.m)).getD 0),
     byte (c.outputs.filter (·.stored)).length, byte c.outputs.length] ++ leBytes c.outcome 2

/-- What a journal entry holds (R359). (DESIGN CHOICE, log 66) -/
def journalFacts (e : JournalEntry) : Bytes :=
  leBytes e.number 4 ++ leBytes e.beginRtc 8 ++ leBytes (e.endRtc.getD 0) 8 ++ leBytes (e.outcome.getD 0) 2 ++ e.cd ++ e.record ++
    e.cards.flatMap fun x => [byte x.1] ++ padTo 12 x.2.1 ++ [byte x.2.2.1] ++ x.2.2.2

/-- DESIGN CHOICE, log 66. -/
def cerJournal (s : State) (fn : Nat) (p : Bytes) (bufferOk : Bool) : State × Answer :=
  let n := leAt p 0 4
  match s.cus.journal.find? fun e => n = 0 || e.number = n with
  | none => (s, .done Mr.SEQUENCE [])
  | some e =>
    if !bufferOk then (s, .done Mr.BUFFER_FAULT [])
    else
      let data := (Config.journalEntry (journalFacts e)).take (bufLen p 8)
      (s.hostWrite fn (bufAddr p 8) data, .done Mr.OK (leBytes e.number 4 ++ leBytes data.length 4))

def rosterRead (s : State) (g : Nat) : State × Answer :=
  if (s.saggar g).state != .active then (s, .done Mr.SAGGAR_STATE [])
  else
    let o := s.roster g
    (s, .done Mr.OK ([byte o.m, byte o.n, 0, 0] ++ o.entries.flatMap fun e => reCust e ++ [byte (reRoles e), 0, 0, 0]))

/-- Step 2 ends: CEREMONY is entered; a card already present counts as inserted. (DESIGN CHOICE, log 85) -/
def cerDrained (s : State) : State :=
  let s := (s.modCer fun c => { c with step := 2 }).enterMode .ceremony 0
  let s := forEach [0, 1] (fun p s => s.modCusPort p fun c =>
    if c.present then { c with exch := .debounce } else c) s
  s.setsDone

end State

/-! ## The commands of a ceremony -/

/-- CER_BEGIN; `record`: what the buffer held. Its answer follows step 2 of R355. -/
def execCerBegin (fn mailbox : Nat) (record : Option Bytes) (s : State) : Res :=
  mbxCommand 0x0901 fn mailbox (fun p s => s.cerBegin p record) s (fun _ s => s.cerBegun)

def execCerStatus (fn mailbox secondsLeft : Nat) (s : State) : Res :=
  mbxCommand 0x0902 fn mailbox (fun _ s => (s, .done Mr.OK (s.cerStatus secondsLeft))) s

/-- CER_ABORT: refused at step 6 and 7 of R355 (R357). -/
def execCerAbort (fn mailbox : Nat) (s : State) : Res :=
  mbxCommand 0x0903 fn mailbox (fun p s =>
    if !s.cerRuns || s.cus.cer.number ≠ leAt p 0 4 || decide (5 ≤ s.cus.cer.step) then (s, .done Mr.SEQUENCE [])
    else (s.finishCeremony Mr.ABORTED, .done Mr.OK [])) s

def execCerJournal (fn mailbox : Nat) (bufferOk : Bool) (s : State) : Res :=
  mbxCommand 0x0904 fn mailbox (fun p s => s.cerJournal fn p bufferOk) s

def execRosterRead (fn mailbox : Nat) (s : State) : Res := mbxCommand 0x0905 fn mailbox (fun p s => s.rosterRead (byteAt p 0)) s

/-- Every ware in flight has been released (R355 step 2). -/
def execCeremonyDrained (s : State) : Res :=
  onUnit s true (when_ (s.cus.cer.step = 1 && s.inflight = 0) State.cerDrained s)

/-- LIMIT_MIN, before commit (R355, R357). -/
def execCeremonyTimeLimit (s : State) : Res :=
  onUnit s true (when_ (decide (2 ≤ s.cus.cer.step ∧ s.cus.cer.step ≤ 4)) (fun s => s.finishCeremony Mr.TIMED_OUT) s)

/-! ## The ports (R342, R343) -/

/-- A card is inserted: its presence shows; in CEREMONY mode the debounce starts. -/
def execCardInsert (port : Nat) (s : State) : Res :=
  onUnit s (portUnit port) (s.modCusPort port fun c =>
    if c.present then c
    else { c with present := true, exch := if s.sys.mode == .ceremony then .debounce else .none })

/-- 100 ms later the card is activated, in class B. -/
def execCardDebounceExpire (port : Nat) (s : State) : Res :=
  onUnit s (portUnit port) (when_ (s.sys.mode == .ceremony && (s.cusPort port).exch == .debounce) (fun s =>
    s.modCusPort port fun c => { c with powered := true, classA := false, state := .activating, exch := .atr, failures := 0 }) s)

/-- The card leaves: deactivation; an exchange in progress is void (R343, R357). -/
def execCardRemove (port : Nat) (s : State) : Res :=
  onUnit s (portUnit port) (
    let busy := (s.cusPort port).exch != .none && (s.cusPort port).exch != .debounce
    let s := if busy then s.cardFails port .removed .empty
      else s.modCusPort port fun c => { c.off .empty with custId := [], cardKey := [] }
    s.modCusPort port fun c => { c with present := false })

/-- PPS moves to this TA1: Fi 372 or 512 and Di 1, 2, 4, 8 or 16 (R342). (PRESUMED, log 34) -/
def ppsMoves (ta1 : Nat) : Bool := [0, 1, 9].contains (ta1 / 16) && decide (1 ≤ ta1 % 16 ∧ ta1 % 16 ≤ 5)

/-- The link parameters after PPS and the IFS request (R342). (PRESUMED, log 34) -/
def linkOf (a : Atr) : CardLink :=
  { fiDi := (a.ta1.filter ppsMoves).getD 0x11
    ifsc := (a.ta3.filter fun v => decide (16 ≤ v ∧ v ≤ 254)).getD 32
    bwi := (a.tb3.map (· / 16)).getD 4
    cwi := (a.tb3.map (· % 16)).getD 13
    crc := a.crc }

/-- The ATR arrives (R342): with T=1, a TA3 of 16 or more and a BWI of at most 9, PPS, the IFS request and SELECT follow. A BWI above 9
is refused as the protocol R342 does not take. (DESIGN CHOICE, log 85) -/
def execAtrReceive (port : Nat) (offersT1 : Bool) (atr : Atr) (s : State) : Res :=
  onUnit s (portUnit port) (when_ (s.sys.mode == .ceremony && (s.cusPort port).exch == .atr) (fun s =>
    if !offersT1 || atr.ta3.any (fun v => decide (v < 16)) || decide (9 < (linkOf atr).bwi) then s.cardFails port .protocol
    else (s.modCusPort port fun c => { c with state := .connected, link := linkOf atr }).sendApdu port apduSelect .select) s)

/-- No ATR: class A after class B, then NO_ATR (R342). -/
def execAtrTimeout (port : Nat) (s : State) : Res :=
  onUnit s (portUnit port) (when_ (s.sys.mode == .ceremony && (s.cusPort port).exch == .atr) (fun s =>
    if (s.cusPort port).classA then s.cardFails port .noAtr
    else s.modCusPort port fun c => { c with classA := true }) s)

/-- The port awaits a response to a command APDU. -/
def State.apduWaits (s : State) (port : Nat) : Bool :=
  s.sys.mode == .ceremony && match (s.cusPort port).exch with
    | .none | .debounce | .atr => false
    | _ => true

/-- A response takes more than 30 s in total (R342). -/
def execApduTimeout (port : Nat) (s : State) : Res :=
  onUnit s (portUnit port) (when_ (s.apduWaits port) (fun s => s.cardFails port .timeout) s)

/-- One failure of the error recovery; the third ends with PROTOCOL (R342). -/
def State.blockFailure (s : State) (port : Nat) : State :=
  if 2 ≤ (s.cusPort port).failures then s.cardFails port .protocol
  else s.modCusPort port fun c => { c with failures := c.failures + 1 }

def execBlockWaitingTimeExpire (port : Nat) (s : State) : Res :=
  onUnit s (portUnit port) (when_ (s.apduWaits port) (fun s => s.blockFailure port) s)

def execCardBlockError (port : Nat) (s : State) : Res :=
  onUnit s (portUnit port) (when_ (s.apduWaits port) (fun s => s.blockFailure port) s)

/-- A waiting time extension: honoured within the 30 s, else TIMEOUT (R342). -/
def execWaitingTimeExtension (port : Nat) (within : Bool) (s : State) : Res :=
  onUnit s (portUnit port) (when_ (s.apduWaits port && !within) (fun s => s.cardFails port .timeout) s)

/-! ## The card's responses (R344 to R346) -/

def execSelectByName (port sw : Nat) (s : State) : Res :=
  onUnit s (portUnit port) (s.onResponse port .select sw fun s => s.sendApdu port (apduHeader 0x10) .identity)

def execGetIdentity (port sw : Nat) (data : Bytes) (s : State) : Res :=
  onUnit s (portUnit port) (s.onResponse port .identity sw fun s => s.identified port data)

def execPutDeviceCert (port sw : Nat) (s : State) : Res :=
  onUnit s (portUnit port) (s.onResponse port .deviceCert sw fun s => s.challengeCard port)

def execAuthenticate (port sw : Nat) (data : Bytes) (s : State) : Res :=
  onUnit s (portUnit port) (s.onResponse port .authenticate sw fun s => s.authenticated port data)

def execReleaseShard (port sw : Nat) (data : Bytes) (s : State) : Res :=
  onUnit s (portUnit port) (match (s.cusPort port).exch with
    | .release k => s.onSecured port 0x20 sw (.release k) data fun s plain => s.released port k plain
    | _ => s)

def execStoreShard (port sw : Nat) (data : Bytes) (s : State) : Res :=
  onUnit s (portUnit port) (match (s.cusPort port).exch with
    | .store i => s.onSecured port 0x22 sw (.store i) data fun s plain => s.stored port i plain
    | _ => s)

/-! ## The key store's write port at ceremony (R219) -/

/-- CEREMONY_WRITE: in CEREMONY mode with the latch set, an image that verifies; never in a ceremony begun from SAFE (R219, R352). -/
def execKeystoreCeremonyWrite (saggar slot : Nat) (image : Bytes) (s : State) : Res :=
  onUnit s (decide (saggar < 256 ∧ slot < 16)) (
    if s.sys.mode == .ceremony && (s.saggar saggar).latch && s.cus.cer.fromMode ≠ modeCode .safe then
      match s.imageKey saggar slot image with
      | none => s.portRefuse saggar .badImage
      | some k => s.portDone.setMaster saggar slot k
    else s.portRefuse saggar .notAuthorised)

/-- ERASE: in CEREMONY mode with the latch set, or while the saggar is erased (R219). -/
def execKeystoreErase (saggar slot : Nat) (s : State) : Res :=
  onUnit s (decide (saggar < 256 ∧ slot < 16)) (
    if (s.sys.mode == .ceremony && (s.saggar saggar).latch) || (s.saggar saggar).state == .erasing then
      s.portDone.modSaggar saggar fun g => { g with slots := mset none g.slots slot none }
    else s.portRefuse saggar .notAuthorised)

end Sys2Proof.Machine
end

