-- ==== Sys2Proof/Machine/Cones.lean ====
section
/-! DEFINITION. The cones (R452 to R463): due and overdue kilns, the measurement window, a measurement and its plan, trips, ring
oscillator counts, and reports. -/

namespace Sys2Proof.Machine

/-! ## The plan of a measurement (R453) -/

/-- F as a FREQ code: the lower of 1,600 MHz and FMAX - 50 MHz; none below 1,200 MHz. -/
def planFreq (fmax : Option Nat) : Option Nat :=
  match fmax with
  | none => none
  | some f => if f < 2 then none else some (min 16 (f - 2))

/-- V as a VOLT code: VMIN(F) + 20 mV, within 650 to 850 mV. -/
def planVolt (vmin : Nat) : Nat := min 40 (vmin + 4)

/-- The plan (FREQ, VOLT, lowered by a canary); none where the kiln fails its measurement. -/
def planOf (floor : Nat) (m : Measured) : Option (Nat × Nat × Bool) :=
  match planFreq m.fmax with
  | none => none
  | some f =>
    if f < floor then none
    else if m.canaryOk then some (f, planVolt m.vmin, false)
    else if f = 0 ∨ f - 1 < floor then none
    else some (f - 1, 40, true)

/-- Ticks of 7 and of 30 days. -/
def sevenDays : Nat := 7 * 86400 * 32768
def thirtyDays : Nat := 30 * 86400 * 32768

/-- Ascending order. -/
def insertAsc (n : Nat) : List Nat → List Nat
  | [] => [n]
  | x :: xs => if n ≤ x then n :: x :: xs else x :: insertAsc n xs

namespace State

/-- Four points over at least 30 days allow a projection (R462). (DESIGN CHOICE, log 44) -/
def projected (c : ConeKiln) : Bool :=
  decide (4 ≤ c.history.length) && (match c.history.head?, c.history.getLast? with
    | some new, some old => decide (old.1 + thirtyDays ≤ new.1)
    | _, _ => false)

/-- One history point per 7 days of measurements; the stress hours come from the temperature sites, and the fit is Kazkel's (DESIGN CHOICE, log 44). -/
def addHistory (s : State) (k : Nat) : State :=
  let now := s.sys.rtc.toNat
  let c := s.coneKiln k
  if c.history.head?.any fun h => decide (now < h.1 + sevenDays) then s
  else (s.drew 8).modConeKiln k fun c => { c with history := (now, c.fmax, c.rodeg, leNat (s.fresh 8)) :: c.history }

/-- YEARS of a kiln: 0xFFFF while it is not projected. (DESIGN CHOICE, log 44) -/
def project (s : State) (k : Nat) : State :=
  if projected (s.coneKiln k) then (s.drew 2).modConeKiln k fun c => { c with years := BitVec.ofNat 16 (leNat (s.fresh 2)) }
  else s.modConeKiln k fun c => { c with years := 0xFFFF }

/-- The device projections: SPARES_YRS from the kilns' (R462), CAP75_YRS from a fit. (DESIGN CHOICE, log 44) -/
def projectDevice (s : State) : State :=
  let ys := (((s.activeKilns.map fun k => (s.coneKiln k).years.toNat).filter (· ≠ 0xFFFF)).foldl (fun l y => insertAsc y l) [])
  let spares := ys.getD s.sparesLeft 0xFFFF
  let cap := leNat (s.fresh 2)
  (s.drew 2).modCone fun c =>
    { c with sparesYrs := BitVec.ofNat 16 spares, cap75Yrs := if ys.isEmpty then 0xFFFF else BitVec.ofNat 16 cap }

/-- What was measured, before the plan. (DESIGN CHOICE, log 98) -/
def noteMeasured (s : State) (k : Nat) (m : Measured) : State :=
  let s := s.modConeKiln k fun c =>
    { c with
      fmax := match m.fmax with
        | none => 0x1F
        | some f => BitVec.ofNat 5 f
      vmin := if (planFreq m.fmax).isSome then BitVec.ofNat 6 m.vmin else c.vmin
      rodeg := BitVec.ofNat 16 m.rodeg, hours := 0, count := satInc c.count, due := false, overdue := false }
  let s := s.modCone fun c => { c with queue := c.queue.filter (· ≠ k) }
  ((s.addHistory k).project k).projectDevice

/-- A measurement that passed: the plan is applied, and the kiln is DRAINED again. -/
def takePlan (s : State) (k f v : Nat) (canary : Bool) : State :=
  let f0 := (s.kiln k).freq.toNat
  let v0 := (s.kiln k).volt.toNat
  let s := s.modConeKiln k fun c => { c with canary := canary }
  let s := s.modKiln k fun x => { x with freq := BitVec.ofNat 5 f, volt := BitVec.ofNat 6 v, ownPlan := true, drainFor := none }
  let s := (s.setKilnState k .drained).marginRecord k 1 f0 v0
  let s := when_ (f ≠ f0 || v ≠ v0) (fun s => (s.marginRecord k 2 f0 v0).coneIrq 1) s
  if s.cone.lastLost then s.lastKilnBack else s

/-- A measurement that failed: the kiln is retired; the last one stays WITHDRAWN (R454, R459, R460). -/
def failMeasure (s : State) (k : Nat) : State :=
  let s := (s.marginNote k 5).coneIrq 7
  if s.lastKiln k then (s.withdraw k).lastKilnLost k
  else (s.modKiln k fun x => { x with drainFor := some .retire }).setKilnState k .drained

/-- A kiln is overdue: measured at once where nothing else is (R456). (DESIGN CHOICE, log 98) -/
def kilnOverdue (s : State) (k : Nat) : State :=
  let s := when_ (!(s.coneKiln k).overdue) (fun s =>
    ((s.modConeKiln k fun c => { c with overdue := true, due := true }).marginNote k 6).coneIrq 5) s
  when_ (s.mayMeasure k) (fun s => s.startDrain k .measure) s

/-- A MARGIN record of block j: 0 setter, 1 host port, 2 and 3 the stores. -/
def blockReport (s : State) (j : Nat) : State :=
  let c := s.coneBlock j
  s.kazkelRecord 0x0B01 ([byte (0x80 + j), byte 7] ++ zeros 6 ++ leBytes c.rodeg.toNat 2 ++ leBytes c.years.toNat 2 ++
    [byte (b2n c.canary), byte s.sparesLeft] ++ leBytes s.capacity 2)

end State

/-- The fault bank of block j: the setter's is 1, the host port's 0 (R415). -/
def blockBank (j : Nat) : Nat := if j = 0 then 1 else if j = 1 then 0 else j

/-! ## The commands -/

/-- A replica or canary trips in service (R461): kilns 0 to 67; 0x80 setter, 0x81 host port, 0x82 and 0x83 the stores. -/
def execCanaryTrip (unit : Nat) (s : State) : Res :=
  onUnit s (kilnUnit unit || decide (0x80 ≤ unit ∧ unit ≤ 0x83)) (
    if unit < 68 then
      when_ (kilnOn (s.kiln unit).state) (fun s => (s.occur (kilnBank unit) 2 none).kilnOverdue unit) s
    else
      let j := unit - 0x80
      when_ (s.sys.mode != .dormant) (fun s =>
        ((s.occur (blockBank j) 2 none).modConeBlock j fun c => { c with canary := true }).coneIrq 6) s)

/-- The window opens: due kilns in service are measured in ascending order (R456). -/
def execMeasureWindowStart (s : State) : Res :=
  onUnit s true (
    let s := s.modCone fun c => { c with round := true }
    match (s.kilnsIn .inService).find? fun k => (s.coneKiln k).due with
    | none => s
    | some k => when_ (s.mayMeasure k) (fun s => s.startDrain k .measure) s)

/-- The window closes; kilns left over wait (R456, R457). -/
def execMeasureWindowEnd (s : State) : Res := onUnit s true (s.modCone fun c => { c with round := false })

/-- 20 h of counted time: the kiln is due (R456). (DESIGN CHOICE, log 98) -/
def execKilnDue (kiln : Nat) (s : State) : Res :=
  onUnit s (kilnUnit kiln) (when_ (kilnOn (s.kiln kiln).state) (fun s =>
    s.modConeKiln kiln fun c => { c with due := true, hours := 20 }) s)

/-- 48 h of counted time: the kiln is overdue (R456). -/
def execKilnOverdue (kiln : Nat) (s : State) : Res :=
  onUnit s (kilnUnit kiln) (when_ (kilnOn (s.kiln kiln).state) (fun s =>
    (s.modConeKiln kiln fun c => { c with hours := 48 }).kilnOverdue kiln) s)

/-- A measurement's results: the plan, or the failure (R453, R454). -/
def State.measured (s : State) (k : Nat) (m : Measured) : State :=
  let s := s.noteMeasured k m
  match planOf s.cone.floor m with
  | some (f, v, canary) => s.takePlan k f v canary
  | none => s.failMeasure k

/-- A drained kiln is measured (R453 to R455, R459, R460): with nothing found yet the measurement begins, and the kiln is MEASURING;
with what it found it ends. (DESIGN CHOICE, log 127) -/
def execKilnMeasure (kiln : Nat) (found : Option Measured) (s : State) : Res :=
  onUnit s (kilnUnit kiln && found.all Measured.ok) (
    match found with
    | none =>
      when_ ((s.kiln kiln).state == .drained && (s.kiln kiln).drainFor == some .measure && !(s.otherDrained kiln) &&
          s.sys.mode != .boot && s.sys.mode != .dormant) (fun s => (s.setKilnState kiln .measuring).confirmAll kiln) s
    | some m => when_ ((s.kiln kiln).state == .measuring) (fun s => s.measured kiln m) s)

/-- Each second the ring oscillators of the setter, the host port controller and the store controllers are counted (R452, R462). -/
def execRoCountTimer (losses : List (BitVec 16)) (s : State) : Res :=
  onUnit s (decide (losses.length = 4)) (when_ (s.sys.mode != .dormant) (fun s =>
    forEach [0, 1, 2, 3] (fun j s => (s.drew 2).modConeBlock j fun c =>
      { c with rodeg := losses.getD j 0, years := BitVec.ofNat 16 (leNat (s.fresh 2)) }) s) s)

/-- A report interval ends (R463). -/
def execMarginReportTimer (s : State) : Res :=
  onUnit s true (when_ (s.sys.mode != .dormant && s.sys.mode != .boot) (fun s =>
    let ks := State.allKilns.filter fun k => !((s.kiln k).state == .retired || (s.kiln k).state == .absent)
    let s := forEach ks (fun k s => s.marginNote k 7) s
    (forEach [0, 1, 2, 3] (fun j s => s.blockReport j) s).coneIrq 0) s)

end Sys2Proof.Machine
end

