-- ==== Sys2Proof/Machine/Lifecycle.lean ====
section
/-! DEFINITION. Lifecycle transitions and the answers that authorise them (R485 to R490, R495 to R498). -/

namespace Sys2Proof.Machine

/-! ## Outcomes of a transition (R499) -/

namespace LcOut
abbrev BURNED : Nat := 1
abbrev NOT_ALLOWED : Nat := 2
abbrev TOKEN : Nat := 3
abbrev NO_ANSWER : Nat := 4
abbrev EXHAUSTED : Nat := 5
abbrev MODE : Nat := 6
abbrev PWRFAIL : Nat := 7
abbrev PRECONDITION : Nat := 8
abbrev STOPPED : Nat := 9
abbrev INVALID : Nat := 10
abbrev PENDING : Nat := 11
end LcOut

/-- The state that a code names as a target. -/
def lcTarget (code : Nat) : Option LcState := lcRecorded.find? fun st => lcCode st = code

/-- The purpose of the answer that a transition requires (R486). -/
def lcPurpose : LcState → LcState → Option Nat
  | .field, .fieldService => some 1
  | .fieldService, .returned => some 2
  | _, _ => none

namespace State

/-- TEST_USED and FS_USED (R487, R499). -/
def testUsed (s : State) : Nat := lcUsed s.lcc.ledger .testOpen
def fsUsed (s : State) : Nat := lcUsed s.lcc.ledger .fieldService

/-- The 128-bit token in LCC_TOKEN_0 to _3, as the bytes its digest covers. (PRESUMED, log 101) -/
def tokenBytes (s : State) : Bytes := (s.lcc.token.take 4).flatMap fun w => leBytes w.toNat 4

/-- The latest ceremony journal entry, where it is a committed OPEN_FIELD_SERVICE. -/
def openedService (s : State) : Option JournalEntry :=
  s.cus.journal.head?.filter fun e => crKind e.record = 6 && e.outcome == some Mr.OK

/-- The preconditions of R486 on saggars and journal for an entry into FIELD_SERVICE. -/
def mayOpenService (s : State) : Bool :=
  ((List.range 256).all fun g => (s.saggar g).state == .none) && s.openedService.isSome

/-- The preconditions of R486, the token and the answer apart. -/
def lcPrecondition (s : State) (old target : LcState) (facts : LcFacts) : Bool :=
  match old, target with
  | .testSealed, .personalised => facts.certificate
  | .field, .fieldService => s.mayOpenService
  | .field, .scrapped | .fieldService, .scrapped => s.sys.mode == .erased
  | _, _ => true

/-- A token or an allowance remains (R487). -/
def lcRemains (s : State) (target : LcState) : Bool :=
  match target with
  | .testOpen => decide (s.testUsed < 16)
  | .fieldService => decide (s.fsUsed < 8)
  | _ => true

/-- The mode admits a transition (R485, order 3). -/
def lcModeOk (s : State) : Bool :=
  s.sys.mode == .safe || s.sys.mode == .erased || (s.sys.mode == .drain && s.inflight = 0)

/-- R485: the outcome of the first condition that fails. -/
def lcRefusal (s : State) (code : Nat) (facts : LcFacts) : Option Nat :=
  let old := s.lcc.state
  if s.lcc.pending then some LcOut.PENDING
  else match lcTarget code with
    | none => some LcOut.NOT_ALLOWED
    | some target =>
      if !(lcAllowed old target) then some LcOut.NOT_ALLOWED
      else if !s.lcModeOk then some LcOut.MODE
      else if s.sys.pwrfail then some LcOut.PWRFAIL
      else if !(s.lcRemains target) then some LcOut.EXHAUSTED
      else if !(s.lcPrecondition old target facts) then some LcOut.PRECONDITION
      else if target == .testOpen && padTo 32 (Config.sha256 s.tokenBytes) != padTo 32 (Config.testTokenDigest s.testUsed) then
        some LcOut.TOKEN
      else if (lcPurpose old target).any fun p => s.lcc.purpose.toNat ≠ p then some LcOut.NO_ANSWER
      else none

/-- Step 8 of R488: the registers, the token zeroed, and the LIFECYCLE record. (DESIGN CHOICE, log 102) -/
def lcEnd (s : State) (code outcome : Nat) : State :=
  let old := lcCode s.lcc.state
  (s.modLcc fun l =>
    { l with target := BitVec.ofNat 4 code, outcome := BitVec.ofNat 4 outcome, token := List.replicate 4 0, busy := false }).record
    { stream := devStream, source := srcOf Unit.kazkel 0, code := 0x0A01, reserved := true, data := bytesOf [old, code, outcome] }

/-- Steps 3 and 4 of R488: the guard lines close, and what R401 erases is erased. The mode stays. -/
def lcErase (s : State) : State :=
  let s := s.mirrorReset.modMir fun m => { m with switchback := none }
  (s.modLcc fun l => { l with guarded := true }).eraseSecrets

/-- Steps 6 and 7 of R488: the slot as it reads back after the burn. A burn only sets bits, so the slot holds no bit that the codeword
lacks (R483); a slot left at zero is blank. (DESIGN CHOICE, log 100) -/
def lcBurn (s : State) (target : LcState) (readBack : BitVec 128) : State × Nat :=
  let w := ((lcSelector target).map lcCodeword).getD 0 &&& readBack
  let s := if w = 0 then s else s.modLcc fun l => { l with ledger := l.ledger ++ [w], pending := true }
  (s, if lcDecode s.lcc.ledger == target then LcOut.BURNED else LcOut.INVALID)

/-- R488: the transition of an accepted write. DOUBLE is an ERASE_HALT, so a pair of verdicts that differ stops the burn (R407,
R490). (DESIGN CHOICE, log 100) -/
def lcTransition (s : State) (target : LcState) (facts : LcFacts) : State × Nat :=
  let answered := (lcPurpose s.lcc.state target).isSome
  let s := when_ answered (fun s => s.modLcc fun l => { l with purpose := 0 }) s
  if !facts.secondOk then ((s.lcErase.doubleMismatch (if answered then 3 else 1)), LcOut.STOPPED)
  else if !facts.confirmed then (s.lcErase.doubleMismatch 4, LcOut.STOPPED)
  else if facts.stopped then (s.lcErase, LcOut.STOPPED)
  else s.lcErase.lcBurn target facts.readBack

/-- A write of `code` to LCC_XSTATE (R485, R488). -/
def writeXstate (s : State) (code : Nat) (facts : LcFacts) : State :=
  match s.lcRefusal code facts, lcTarget code with
  | some o, _ => s.lcEnd code o
  | none, none => s
  | none, some target =>
    let r := s.lcTransition target facts
    r.1.lcEnd code r.2

/-! ## Challenge and answer (R495 to R497) -/

/-- The 64-byte record of a challenge. -/
def challengeRecord (s : State) (purpose : Nat) (nonce : Bytes) : Bytes :=
  bytesOf [0x5A, 0x56, 0x4C, 0x43, purpose, lcCode s.lcc.state, if purpose = 1 then 5 else 6, s.fsUsed] ++
    leBytes Config.uid.toNat 8 ++ padTo 32 nonce ++
    leBytes (if purpose = 1 then (s.openedService.map (·.number)).getD 0 else 0) 4 ++ leBytes s.sys.rtc.toNat 8 ++ zeros 4

/-- The state and the preconditions of R486 admit the purpose. -/
def purposeAdmitted (s : State) (purpose : Nat) : Bool :=
  if purpose = 1 then s.lcc.state == .field && s.mayOpenService else s.lcc.state == .fieldService

/-- LC_CHALLENGE (R495, R498); while the control DRBG refuses, the command waits (R316). (DESIGN CHOICE, log 87) -/
def lcChallenge (s : State) (purpose : Nat) : State × Answer :=
  if !(s.purposeAdmitted purpose) then (s, .done Mr.SEQUENCE [])
  else if purpose = 1 ∧ 8 ≤ s.fsUsed then (s, .done Mr.LIMIT [])
  else match s.controlBytes 32 with
    | (s', none) => (s', .later)
    | (s', some nonce) =>
      let r := s'.challengeRecord purpose nonce
      (s'.modLcc fun l => { l with challenge := r, purpose := 0 },
       .done Mr.OK (r ++ padTo 96 (Config.deviceSign (padTo 48 (Config.sha384 r)))))

/-- Whole minutes left of an armed answer (R497, R499). -/
def minutesLeft (s : State) : Nat :=
  if s.lcc.purpose = 0 then 0 else (3600 * rtcSecond - (s.sys.rtc.toNat - s.lcc.armedAt)) / (60 * rtcSecond)

/-- The header of an answer matches the outstanding challenge (R497). (DESIGN CHOICE, log 103) -/
def answerMatches (s : State) (h : Bytes) : Bool :=
  slice h 4 1 == slice s.lcc.challenge 4 1 && slice h 5 1 == slice s.lcc.challenge 6 1 &&
  slice h 8 8 == slice s.lcc.challenge 8 8 && slice h 16 48 == padTo 48 (Config.sha384 s.lcc.challenge)

/-- The header of an answer is well formed (R496). -/
def answerForm (a : Bytes) : Bool :=
  decide (a.length = 4691) && slice a 0 4 == bytesOf [0x5A, 0x56, 0x4C, 0x41] && leAt a 6 2 = 0

/-- LC_ANSWER (R497, R498). (DESIGN CHOICE, log 103) -/
def lcAnswer (s : State) (p : Bytes) (answer : Option Bytes) : State × Answer :=
  if bufLen p 8 ≠ 4691 then (s, .done Mr.BAD_FIELD [])
  else match answer with
    | none => (s, .done Mr.BUFFER_FAULT [])
    | some a =>
      let a := a.take 4691
      let h := a.take 64
      if !(answerForm a) then (s, .done Mr.BAD_FIELD [])
      else if !(Config.verifyMlDsa87 0 h (a.drop 64)) then (s, .done Mr.IMAGE_SIGNATURE [])
      else if s.lcc.challenge.isEmpty || byteAt h 4 ≠ byteAt p 0 || !(s.answerMatches h) then (s, .done Mr.SEQUENCE [])
      else
        let s := s.modLcc fun l => { l with purpose := BitVec.ofNat 2 (byteAt p 0), armedAt := s.sys.rtc.toNat }
        (s, .done Mr.OK [byte (byteAt p 0), byte s.minutesLeft, 0, 0])

/-- The answer to LC_STATUS (R498). -/
def lcStatusBytes (s : State) : Bytes :=
  bytesOf [lcCode s.lcc.state, s.lcc.target.toNat, s.lcc.outcome.toNat, s.testUsed, s.fsUsed, s.lcc.ledger.length,
           s.lcc.purpose.toNat, s.minutesLeft]

end State

/-! ## The commands -/

/-- A write of a target code to LCC_XSTATE, by the global owner's PF, or through JTAG_ where its reach is core debug or full. -/
def execLifecycleTransition (fn target : Nat) (jtag : Bool) (facts : LcFacts) (s : State) : Res :=
  onUnit s (fnUnit fn && decide (target < 16)) (
    if jtag then
      when_ (decide (2 ≤ lcReach s.lcc.state) && decide (3 ≤ s.sys.bootStep) && !s.tmp.halted && s.sys.mode != .dormant)
        (fun s => s.writeXstate target facts) s
    else s.globalWrite fn fun s => s.writeXstate target facts)

/-- 60 minutes have passed since an answer was armed (R497). (DESIGN CHOICE, log 103) -/
def execAnswerLapse (s : State) : Res := onUnit s true (s.modLcc fun l => { l with purpose := 0 })

def execLcChallenge (fn mailbox : Nat) (s : State) : Res :=
  mbxCommand 0x0A01 fn mailbox (fun p s => s.lcChallenge (byteAt p 0)) s

/-- LC_ANSWER; `answer`: what the buffer held, none where its read failed. -/
def execLcAnswer (fn mailbox : Nat) (answer : Option Bytes) (s : State) : Res :=
  mbxCommand 0x0A02 fn mailbox (fun p s => s.lcAnswer p answer) s

def execLcStatus (fn mailbox : Nat) (s : State) : Res :=
  mbxCommand 0x0A03 fn mailbox (fun _ s => (s, .done Mr.OK s.lcStatusBytes)) s

end Sys2Proof.Machine
end

