-- ==== Sys2Proof/Machine/MirrorLink.lean ====
section
/-! DEFINITION. The mirror link's operations (R361 to R378, R382 to R386): frames sent and accepted, what a standby applies, the roles,
resynchronisation, and the pairing of two modules. -/

namespace Sys2Proof.Machine

/-! ## Frames (R366) -/

/-- The TYPE of a frame. -/
abbrev frHello : Nat := 0x01
abbrev frDelta : Nat := 0x02
abbrev frAck : Nat := 0x03
abbrev frHeartbeat : Nat := 0x04
abbrev frResyncReq : Nat := 0x05
abbrev frResyncData : Nat := 0x06
abbrev frResyncDone : Nat := 0x07
abbrev frNack : Nat := 0x08
abbrev frKeyxfer : Nat := 0x09
abbrev frPair : Nat := 0x10

/-- The own slot: that of the pair, or the one the authorised role takes (R361, R363). -/
def Mirror.ownSlot (m : Mirror) : Bool :=
  match m.pair with
  | some p => p.slot1
  | none => m.auth.any (·.standbyRole)

/-- Labels of R363 and R366. -/
def labelPair : Bytes := bytesOf [0x5A, 0x56, 0x2D, 0x4D, 0x49, 0x52, 0x2D, 0x50, 0x41, 0x49, 0x52]
def labelSess : Bytes := bytesOf [0x5A, 0x56, 0x2D, 0x4D, 0x49, 0x52, 0x2D, 0x53, 0x45, 0x53, 0x53]

/-- The session keys of a bring-up: N0 and N1 are the nonces of slot 0 and slot 1 (R366). -/
def sessionKeys (pk n0 n1 : Bytes) : Bytes := hkdf384 (n0 ++ n1) pk labelSess 64

namespace State

/-- The mirror engine works: booted past the hearth, not cut off by a guard response, a fence or a halt (R390, R425). -/
def mirrorRuns (s : State) : Bool :=
  s.sys.mode != .dormant && !s.tmp.halted && !s.lcc.guarded && !(s.bank 15).fenced && decide (s.tmp.govern < respGuard) && decide (7 ≤ s.sys.bootStep)

/-- A frame's payload and tag under the session key of its direction; HELLO and pairing frames go unencrypted, with no session key to
tag them (R366). (DESIGN CHOICE, log 40) -/
def sealFrame (m : Mirror) (kind n : Nat) (hdr payload : Bytes) : Bytes :=
  if kind = frHello ∨ frPair ≤ kind then payload ++ zeros 16
  else
    let sealed := Config.gcmSeal (slice m.session (if m.ownSlot then 32 else 0) 32) (zeros 4 ++ leBytes n 8) hdr payload
    padTo payload.length sealed.1 ++ padTo 16 sealed.2

/-- A frame goes out: its header, payload and tag (R366). What its payload encodes is the model's. (DESIGN CHOICE, log 40) -/
def sendFrame (s : State) (kind : Nat) (payload : Bytes) : State :=
  let m := s.mir
  let hdr := [byte kind, byte (b2n m.ownSlot)] ++ leBytes payload.length 2 ++ zeros 4 ++ leBytes (m.fcountTx + 1) 8
  (s.modMir fun m => { m with fcountTx := m.fcountTx + 1 }).emit (.mirrorFrame kind (hdr ++ sealFrame m kind (m.fcountTx + 1) hdr payload))

/-- Frames of one TYPE for as many bytes as there are (R366). (DESIGN CHOICE, log 40) -/
def sendLong (s : State) (kind : Nat) (payload : Bytes) : State := forEach (framesOf payload) (fun p s => s.sendFrame kind p) s

/-- Delta groups go out, several in one frame, and the wrapped keys of their KEYXFER deltas behind them (R366, R368, R370). -/
def sendGroups (s : State) (gs : List Group) : State :=
  let s := s.sendLong frDelta (gs.flatMap groupBytes)
  forEach (gs.flatMap (·.deltas)) (fun d s => match d with
    | .keyxfer g w => s.sendLong frKeyxfer (byte g :: w)
    | _ => s) s

/-- A session protects frames: LINK is RESYNC or MIRRORED. -/
def secured (s : State) : Bool := s.mirrorRuns && (s.mir.link == .resync || s.mir.link == .mirrored)

/-- A protected frame arrives: its tag, its counter, then `act` (R366, R386). (DESIGN CHOICE, log 94) -/
def frameIn (hdr : FrameHdr) (act : State → State) (s : State) : State :=
  if !s.secured then s
  else if !hdr.tagOk then when_ hdr.eighth State.mirrorReset (s.partnerViol false 0)
  else if hdr.fcount ≠ s.mir.fcountRx + 1 then (s.partnerViol false 1).linkDown false
  else act (s.modMir fun m => { m with fcountRx := m.fcountRx + 1 })

/-! ## READY (R382) -/

/-- Ticks of 2 s. (DESIGN CHOICE, log 10) -/
abbrev twoSeconds : Nat := 2 * 32768

def witnessKey (s : State) : Option KeyVal := mget none (s.saggar 0).slots 15

def mirReady (s : State) : Bool :=
  s.paired && s.sys.mode == .standby && (s.mir.link == .mirrored || s.mir.lossOnly) &&
  (match s.mir.lostAt with
   | none => true
   | some t => decide (t + twoSeconds ≤ s.sys.rtc.toNat)) &&
  s.ent.ready && s.witnessKey.isSome && !(s.kilnsIn .inService).isEmpty

/-! ## What a standby applies (R370, R371) -/

/-- The module holds the saggar's records. (DESIGN CHOICE, log 91) -/
def holdsSaggar (s : State) (g : Nat) : Bool := !(s.saggar g).cnonce.isEmpty

/-- A ceremony record of the active; its keys and roster come as KEYXFER (R213, R368). CNONCE is this module's own (R216). -/
def standbyCeremony (s : State) (r : Bytes) : State :=
  match crKind r with
  | 1 => s.withControl 16 (.create r) fun nonce s => s.createSaggar r nonce
  | 2 => s
  | _ => s.crEffect r

/-- The group can be applied: every saggar it names is held, or created by it (R386). -/
def deltaFits (s : State) (d : Delta) : Bool :=
  match d with
  | .replay g _ _ _ _ _ _ _ _ => s.holdsSaggar g
  | .counter g _ _ _ => s.holdsSaggar g
  | .timestamp g _ _ => s.holdsSaggar g
  | .control code p =>
    if code = cerControl then (if crKind p = 1 then !(s.holdsSaggar (crSag p)) else crItem p = 4 || s.holdsSaggar (crSag p))
    else s.holdsSaggar (byteAt p 0)
  | .keyxfer _ _ => true

/-- One delta of a group (R370, R374, R375, R382). -/
def applyDelta (s : State) (d : Delta) : State :=
  match d with
  | .replay g rid code digest status step inline unmirrored result =>
    s.setReplay g rid (some { code := code, digest := digest, status := status, step := step, inline := inline,
                              unmirrored := unmirrored, result := result, complete := true })
  | .counter g handle serial n =>
    (s.modSaggar g fun x =>
      { x with origs := x.origs.map fun o =>
          if o.handle = handle && o.serial = serial then { o with allocated := max o.allocated n } else o }).raiseCeiling g serial n
  | .timestamp g serial ts => s.modSaggar g fun x =>
    let old := ((x.hosts.find? fun h => h.1 = serial).map (·.2)).getD 0
    { x with hosts := (serial, max old ts) :: x.hosts.filter fun h => h.1 ≠ serial }
  | .control code p => if code = cerControl then s.standbyCeremony p else (s.applyControl code p).1
  | .keyxfer _ _ => s

/-- The groups of a frame in SEQ order (R371, R386); `true` while every one was applied. -/
def applyGroups : List Group → State → State × Bool
  | [], s => (s, true)
  | g :: rest, s =>
    let first := s.mir.resyncFull && s.mir.applied = 0
    if g.seq ≠ s.mir.applied + 1 && !first then ((s.partnerViol false 1).linkDown false, false)
    else if !(g.deltas.all fun d => s.deltaFits d) then ((s.sendFrame frNack []).partnerViol false 2, false)
    else applyGroups rest ((forEach g.deltas (fun d s => s.applyDelta d) s).modMir fun m => { m with applied := g.seq })

/-! ## Roles (R380, R383, R384) -/

/-- The lease ends. (DESIGN CHOICE, log 92) -/
def leaseLost (s : State) : State :=
  if s.mir.lease then (s.modMir fun m => { m with lease := false, remainMs := 0 }).mirEvent mirLeaseLost else s

/-- LINK leaves MIRRORED for RESYNC. -/
def linkResync (s : State) : State :=
  let was := s.mir.link
  if was == .mirrored || was == .resync then
    let s := s.modMir fun m =>
      { m with link := .resync, resyncFull := false, resyncSource := false, resyncAsked := false, snapSeen := [] }
    if was == .mirrored then s.mirEvent mirLinkDown else s
  else s

/-- Asks for resynchronisation, with the highest SEQ applied and the boot number (R373). -/
def askResync (s : State) : State :=
  (s.sendFrame frResyncReq (leBytes s.mir.applied 8 ++ leBytes ((s.mir.pair.map (·.boot)).getD 0) 4)).modMir fun m =>
    { m with resyncAsked := true, resyncSource := false }

/-- Changes still waiting for the peer's acknowledgement are refused (R325, R356). -/
def dropControls (s : State) : State :=
  let cs := s.mir.controls
  forEach cs (fun c s => match c.2 with
    | .mailbox fn k => s.endCommand fn k Mr.UNMIRRORED []
    | .advance _ => s
    | .ceremony => s.finishCeremony Mr.UNMIRRORED) (s.modMir fun m => { m with controls := [] })

/-- A switchback ends before the handover. -/
def endSwitchback (s : State) (result : Nat) (payload : Bytes) : State :=
  match s.mir.switchback with
  | none => s
  | some w => if w.handedOver then s else s.endCommand (w.mbx / 8) (w.mbx % 8) result payload

/-- State-changing wares in flight that no check refused. -/
def changingWares (s : State) : List Nat := s.tagsWhere fun w => w.phase != .refused && wareChangesState w.desc

/-- The active demotes itself (R384). (DESIGN CHOICE, log 92) (DESIGN CHOICE, log 112) -/
def demote (s : State) (term : Word) : State :=
  if !s.mir.active then s
  else
    let s := (s.endSwitchback Mr.SEQUENCE []).dropControls
    let s := s.modMir fun m =>
      { m with active := false, term := if m.term.toNat < term.toNat then term else m.term, lease := false, remainMs := 0,
               switchback := none, applied := m.acked, dlog := [], seq := m.acked }
    let s := (forEach s.changingWares (fun t s => s.modeAbort t) s).settleEpochs
    let s := (s.mirEvent mirDemoted).modSys fun m => { m with cmdDrain := false }
    let s := if s.sys.mode == .service || s.sys.mode == .drain then s.enterMode .standby 0
      else if s.sys.mode == .ceremony then s.modCer fun c => { c with fromMode := modeCode .standby } else s
    if s.secured then s.linkResync.askResync else s

/-- The standby becomes active (R383). (DESIGN CHOICE, log 92) (DESIGN CHOICE, log 111) -/
def promote (s : State) (term : Word) : State :=
  let s := s.modMir fun m =>
    { m with active := true, term := term, lease := true, remainMs := 50, seq := max m.seq m.applied,
             acked := max m.acked m.applied, genRaised := false, genGranted := false }
  let s := s.modKeys fun k =>
    { k with saggars := mmap {} (fun g x => { x with attempts := 0, origs := origsAfterReset s.mir.ceilings g x.origs }) k.saggars }
  ((s.linkResync.mirEvent mirPromoted).enterMode .service 0).drainIfLost

/-! ## The source of a resynchronisation (R373) -/

/-- This module is the source against a peer of that role, TERM, GEN and SEQ. (DESIGN CHOICE, log 111) -/
def sourceAgainst (s : State) (peerActive : Bool) (term gen applied : Nat) : Bool :=
  let m := s.mir
  if m.active then true
  else if peerActive then false
  else if m.term.toNat ≠ term then decide (term < m.term.toNat)
  else if m.gen.toNat ≠ gen then decide (gen < m.gen.toNat)
  else if m.applied ≠ applied then decide (applied < m.applied)
  else !m.ownSlot

/-- DELTA frames for the groups above `after`, then RESYNC_DONE. -/
def sendRest (s : State) (after : Nat) : State :=
  let gs := s.mir.dlog.filter fun g => decide (after < g.seq)
  let s := if gs.isEmpty then s else s.sendGroups gs
  let s := s.modMir fun m => { m with dlog := m.dlog.map fun g => { g with sent := true }, resyncSource := true }
  s.sendFrame frResyncDone (leBytes s.mir.term.toNat 4 ++ leBytes s.mir.gen.toNat 4 ++ leBytes (max s.mir.seq s.mir.applied) 8)

/-- The saggars whose records the module holds. -/
def heldSaggars (s : State) : List Nat := s.listedSaggars.filter fun g => s.holdsSaggar g

/-- The master keys of a saggar, by slot. -/
def masterKeys (s : State) (g : Nat) : List (Nat × KeyVal) := (s.saggar g).slots.filterMap fun e => e.2.map fun k => (e.1, k)

/-- The pair key PK. -/
def pairKey (s : State) : Bytes := (s.mir.pair.map (·.pk)).getD []

/-- The full resynchronisation: the replay window, then the records of each saggar with its keys and roster, then DONE (R373).
(DESIGN CHOICE, log 40) -/
def sendSnapshot (s : State) : State :=
  let s := s.sendLong frResyncData (windowBytes s.mir.replay)
  let s := forEach s.heldSaggars (fun g s =>
    (s.sendLong frResyncData (saggarBytes g (s.saggar g))).sendLong frKeyxfer
      (byte g :: wrapped s.pairKey (s.masterKeys g) (s.roster g))) s
  s.sendRest (max s.mir.seq s.mir.applied)

/-- The delta log holds every group after `n` (R373). (DESIGN CHOICE, log 91) -/
def logCovers (s : State) (n : Nat) : Bool :=
  decide (n ≤ s.mir.seq) && (s.mir.dlog.filter fun g => decide (n < g.seq)).length = s.mir.seq - n

/-! ## What a receiver takes (R373) -/

/-- This module's own CNONCE of a saggar it comes to hold (R216, R307). -/
def newNonce (s : State) (g : Nat) : State :=
  s.withControl 16 (.nonce g) fun nonce s => s.modSaggar g fun x => { x with cnonce := nonce }

/-- An entry of the snapshot. (DESIGN CHOICE, log 91) -/
def applySnap (s : State) (i : Snap) : State :=
  match i with
  | .replay g rid e => s.setReplay g rid (some { e with complete := true, attached := [] })
  | .roster g r => s.setRoster g r
  | .saggar g r =>
    let held := s.holdsSaggar g
    let s := when_ (!held) (fun s => s.newNonce g) s
    let s := s.modSaggar g fun x =>
      { x with baseK := r.baseK, sizeK := r.sizeK,
               cacheQuota := r.cacheQuota, extQuota := r.extQuota, pol := r.pol, polOld := r.pol, wraps := x.wraps,
               revoked := r.revoked, origs := r.origs, hosts := r.hosts, ksetBase := r.ksetBase, ksetCount := r.ksetCount }
    let s := forEach r.origs (fun o s => if o.allocated = 0 then s else s.raiseCeiling g o.serial o.allocated) s
    s.modMir fun m => { m with snapSeen := g :: m.snapSeen }

/-- The first frame of a snapshot: what it overwrites goes (R373, R384). -/
def beginSnapshot (s : State) : State :=
  if s.mir.resyncFull then s else s.modMir fun m => { m with resyncFull := true, applied := 0, replay := [], snapSeen := [] }

/-- Saggars that a completed snapshot did not list go, as their erasure on the source would have it (R217). (DESIGN CHOICE, log 91) -/
def eraseUnseen (s : State) : State :=
  if !s.mir.resyncFull then s
  else forEach (s.heldSaggars.filter fun g => !(s.mir.snapSeen.contains g)) (fun g s => s.eraseSaggar g) s

/-- Master keys from the peer: this module's own slot images of them take their nonces from the control DRBG (R213, R219). (DEDUCED, log 144) -/
def takeMasters (s : State) (g : Nat) (keys : List (Nat × KeyVal)) : State :=
  if keys.isEmpty then s
  else s.withControl (12 * keys.length) (.images g keys) fun iv s =>
    forEach keys.zipIdx (fun e s => if e.1.1 < 16 then s.installKey g e.1.1 e.1.2 (slice iv (12 * e.2) 12) else s) s

/-- Master keys and the roster of a saggar from the peer (R213, R347). (DESIGN CHOICE, log 90) -/
def takeKeys (s : State) (g : Nat) (keys : List (Nat × KeyVal)) (r : Roster) : State := (s.setRoster g r).takeMasters g keys

/-- LINK becomes MIRRORED; at the end of pairing the standby-role module enters STANDBY (R363 step 7). -/
def mirroredNow (s : State) : State :=
  let s := s.linkMirrored
  if !s.mir.active && s.sys.mode == .service then s.enterMode .standby 0 else s

/-! ## Acknowledgement of a CONTROL group (R356, R370) -/

/-- The change of an acknowledged group is applied, and its command answered. -/
def controlDone (s : State) (c : Control) : State :=
  match c with
  | .mailbox fn k => match (s.box fn k).running with
    | none => s
    | some r =>
      let x := s.applyControl (reqCode r) (reqBody r)
      x.1.endCommand fn k Mr.OK x.2
  | .advance g => s.autoAdvance g
  | .ceremony =>
    let r := s.cus.cer.record
    let s := s.commitNow
    if crKind r = 7 then s.saggarRecord (crSag r) Config.eraseConfirmCode [] true else s

/-- Every group up to `n` is acknowledged (R370). -/
def acknowledge (s : State) (n : Nat) : State :=
  let cs := s.mir.controls.filter fun c => decide (c.1 ≤ n)
  let s := s.modMir fun m =>
    { m with acked := max m.acked n, dlog := m.dlog.filter fun g => decide (n < g.seq),
             controls := m.controls.filter fun c => decide (n < c.1) }
  forEach cs (fun c s => s.controlDone c.2) s

/-- The deltas of a group that is not to be applied go; its SEQ stays taken. (DESIGN CHOICE, log 81) -/
def voidGroup (s : State) (n : Nat) : State :=
  s.modMir fun m => { m with dlog := m.dlog.map fun g => if g.seq = n then { g with deltas := [] } else g }

/-- The saggar whose policy governs a waiting change. -/
def controlSaggar (s : State) (c : Control) : Nat :=
  match c with
  | .mailbox fn k => ((s.box fn k).running.map fun r => byteAt (reqBody r) 0).getD 0
  | .advance g => g
  | .ceremony => crSag s.cus.cer.record

/-- The policy that governs it continues (R356, R377). -/
def controlContinues (s : State) (c : Control) : Bool :=
  match c with
  | .ceremony =>
    if crKind s.cus.cer.record = 1 then polContinue (slice s.cus.cer.record 32 256) else s.continues (s.controlSaggar c)
  | _ => s.continues (s.controlSaggar c)

/-- The acknowledgement has not come within 100 ms: the change is unmirrored (R370, R377, R378). (DESIGN CHOICE, log 81) -/
def controlUnacked (s : State) (n : Nat) (c : Control) : State :=
  let s := s.modMir fun m => { m with controls := m.controls.filter fun x => x.1 ≠ n }
  if !(s.controlContinues c) then
    let s := s.voidGroup n
    match c with
    | .mailbox fn k => s.endCommand fn k Mr.UNMIRRORED []
    | .advance _ => s
    | .ceremony => s.finishCeremony Mr.UNMIRRORED
  else if s.mirrored || s.unmirroredGo then
    match c with
    | .ceremony => s.commitNow
    | _ => s.controlDone c
  else
    let s := (s.voidGroup n).raiseGen
    match c with
    | .mailbox fn k => s.modBox fn k fun b => { b with acting := false }
    | _ => s

/-! ## Pairing (R362, R363) -/

/-- ATTR of an ML-KEM-768 key pair (R218, R220). -/
def kemAttr : Nat := Us.K3 + Alg.MLKEM * 2 ^ 12 + 768 * 2 ^ 16

/-- A pairing step that fails keeps the link down (R386). -/
def pairFails (s : State) : State :=
  ((s.partnerViol false 3).modMir fun m => { m with pairing := {}, lanes := 0 }).linkDown false

/-- The two ceremonies do not fit: nothing is authorised, and the ceremony's outcome is SEQUENCE (R362). -/
def unauthorise (s : State) : State :=
  (s.pairFails.modMir fun m => { m with auth := none }).modCer fun c => if c.kind = 5 then { c with outcome := Mr.SEQUENCE } else c

/-- The role that HELLO names: standby or active, by the authorisation in force or as the module is (R363). (DESIGN CHOICE, log 40) -/
def helloRole (m : Mirror) : Bool :=
  match m.auth with
  | some a => a.standbyRole
  | none => !m.active

/-- A bring-up begins: fresh frame counters, and HELLO with identifier, slot, role, glaze level and a fresh nonce (R307, R362, R363,
R366). (DESIGN CHOICE, log 40) -/
def sendHello (s : State) : State :=
  s.withControl 32 .hello fun nonce s =>
    (s.modMir fun m => { m with fcountTx := 0, fcountRx := 0, nonceOwn := nonce }).sendFrame frHello
      (leBytes Config.uid.toNat 8 ++ [byte (b2n s.mir.ownSlot), byte (b2n (helloRole s.mir))] ++ leBytes s.fw.glazeLevel.toNat 2 ++ nonce)

/-- Step 2: the certificate chain of slot 0. -/
def sendChain (s : State) : State := s.sendLong frPair s.chainOf

/-- Step 3 on the active-role module: an encapsulation key and an ephemeral key, signed. -/
def sendKems (s : State) : State :=
  s.withControl 112 .kems fun r s =>
    let eph := slice r 64 48
    let kp := Config.keyPair kemAttr (slice r 0 64)
    let body := padTo 1184 kp.2 ++ padTo 97 (Config.publicP384 eph)
    let s := s.modMir fun m =>
      { m with pairing := { m.pairing with kemKey := kp.1, ephemeral := eph, transcript := m.pairing.transcript ++ body } }
    s.sendFrame (frPair + 1) (body ++ padTo 96 (Config.deviceSign (Config.sha384 s.mir.pairing.transcript)))

/-- Steps 4 to 6: PK, the pair record, and a session in which the standby-role module takes everything over. (PRESUMED, log 41) -/
def formPair (s : State) (k z : Bytes) : State :=
  match s.mir.auth with
  | none => s
  | some a =>
    let pk := hkdf384 (padTo 48 (Config.sha384 s.mir.pairing.transcript)) (k ++ z) labelPair 32
    let own := s.mir.nonceOwn
    let peer := s.mir.noncePeer
    let sess := if a.standbyRole then sessionKeys pk peer own else sessionKeys pk own peer
    let s := s.modMir fun m =>
      { m with pair := some { peer := a.peer, slot1 := a.standbyRole, pk := pk, boot := (m.pair.map (·.boot)).getD 0 },
               term := 1, gen := 0, active := !a.standbyRole, auth := none, pairing := {}, link := .resync, session := sess,
               lease := false, remainMs := 0, lostAt := none, genRaised := false, genGranted := false }
    if a.standbyRole then (forEach s.heldSaggars (fun g s => s.eraseSaggar g) s).askResync else s

/-- Step 3 on the standby-role module: the ciphertext, its ephemeral key, its signature. (DESIGN CHOICE, log 42) -/
def answerKems (s : State) (data : Bytes) : State :=
  let t := s.mir.pairing.transcript ++ slice data 0 1281
  if data.length ≠ 1377 || !(Config.verifyP384 s.mir.pairing.peerKey (Config.sha384 t) (slice data 1281 96)) then s.pairFails
  else s.withControl 80 (.answerKems data) fun r s =>
    let eph := slice r 0 48
    let e := Config.mlkemEncaps 768 (slice data 0 1184) (slice r 48 32)
    match Config.ecdhP384 eph (slice data 1184 97) with
    | none => s.pairFails
    | some z =>
      let body := padTo 1088 e.2 ++ padTo 97 (Config.publicP384 eph)
      let s := s.modMir fun m => { m with pairing := { m.pairing with transcript := t ++ body } }
      (s.sendFrame (frPair + 2) (body ++ padTo 96 (Config.deviceSign (Config.sha384 (t ++ body))))).formPair (padTo 32 e.1) z

/-- Step 3 on the active-role module: the peer's answer. (DESIGN CHOICE, log 42) -/
def takeKems (s : State) (data : Bytes) : State :=
  let p := s.mir.pairing
  let t := p.transcript ++ slice data 0 1185
  if data.length ≠ 1281 || !(Config.verifyP384 p.peerKey (Config.sha384 t) (slice data 1185 96)) then s.pairFails
  else match Config.ecdhP384 p.ephemeral (slice data 1088 97) with
    | none => s.pairFails
    | some z =>
      (s.modMir fun m => { m with pairing := { m.pairing with transcript := t } }).formPair
        (padTo 32 (Config.mlkemDecaps 768 p.kemKey (slice data 0 1088))) z

/-- Step 2: the peer's chain verifies and certifies the authorised identifier. The transcript takes what was sent in both directions,
the active role's first (log 41). (DESIGN CHOICE, log 42) -/
def takeChain (s : State) (data : Bytes) : State :=
  match s.mir.auth, Config.verifyChain data with
  | some a, some (pk, id) =>
    if leNat id ≠ a.peer then s.pairFails
    else
      let chains := if a.standbyRole then data ++ s.chainOf else s.chainOf ++ data
      let s := s.modMir fun m =>
        { m with pairing := { m.pairing with step := 3, peerKey := pk, transcript := m.pairing.transcript ++ chains } }
      if a.standbyRole then s else s.sendKems
  | _, _ => s.pairFails

end State

end Sys2Proof.Machine
end

