-- ==== Sys2Proof/Machine/Mirror.lean ====
section
/-! DEFINITION. The commands of the mirror link (R362, R363, R366, R367, R370, R371, R373, R375, R384, R386, R387). -/

namespace Sys2Proof.Machine

/-! ## Training and bring-up (R365 to R367, R386) -/

/-- 60 minutes after its commit an authorisation lapses (R362). -/
def execPairAuthLapse (s : State) : Res := onUnit s true (s.modMir fun m => { m with auth := none, pairing := {} })

/-- The lanes train: on a DOWN link each second, and for an authorised pairing (R363, R367). -/
def execLinkTrainRetry (s : State) : Res :=
  onUnit s true (when_ s.mirrorRuns (fun s => s.modMir fun m =>
    if m.link == .down then { m with link := .training }
    else if m.link == .unpaired && m.auth.isSome && m.lanes = 0 then { m with pairing := { step := 1 } } else m) s)

/-- MIR_STAT.LANES of 4, 2 or 1 lanes. -/
def lanesCode (n : Nat) : BitVec 2 := if n = 4 then 3 else if n = 2 then 2 else if n = 1 then 1 else 0

/-- Training ends: 4, 2 or 1 lanes lock, or it fails (R365, R367). -/
def execLinkLanesLock (lanes : Nat) (s : State) : Res :=
  onUnit s (decide (lanes = 0 ∨ lanes = 1 ∨ lanes = 2 ∨ lanes = 4)) (when_ s.mirrorRuns (fun s =>
    if s.mir.link == .training then
      if lanes = 0 then s.modMir fun m => { m with link := .down }
      else (s.modMir fun m => { m with link := .securing, lanes := lanesCode lanes, pairing := { step := b2n m.auth.isSome } }).sendHello
    else if s.mir.link == .unpaired && s.mir.pairing.step = 1 && lanes ≠ 0 then
      (s.modMir fun m => { m with lanes := lanesCode lanes }).sendHello
    else s) s)

/-- HELLO of the peer: towards a pairing that its identifier is authorised for, or a session of the pair (R363, R366, R386). Two equal
roles or different glaze levels leave nothing authorised (R362). (DESIGN CHOICE, log 111) -/
def execMirrorHello (uid slot : Nat) (offer : HelloOffer) (nonce : Bytes) (s : State) : Res :=
  onUnit s (decide (slot < 2)) (
    let waits := s.mir.link == .securing || (s.mir.link == .unpaired && s.mir.pairing.step = 1 && s.mir.lanes ≠ 0)
    when_ (s.mirrorRuns && waits) (fun s =>
      let hello := fun (role : Bool) (id : Nat) (n : Bytes) => leBytes id 8 ++ [byte (b2n role)] ++ n
      let auth := s.mir.auth.filter fun a => a.peer = uid
      match auth, s.mir.pair with
      | some a, _ =>
        if a.standbyRole == offer.standbyRole || offer.glaze ≠ s.fw.glazeLevel then s.unauthorise
        else
          let own := hello a.standbyRole Config.uid.toNat s.mir.nonceOwn
          let peer := hello offer.standbyRole uid nonce
          (s.modMir fun m =>
            { m with noncePeer := nonce, fcountRx := 1,
                     pairing := { step := 2, transcript := if a.standbyRole then peer ++ own else own ++ peer } }).sendChain
      | none, some p =>
        if uid ≠ p.peer ∨ slot = b2n p.slot1 then (s.partnerViol false 3).linkDown false
        else
          let n0 := if p.slot1 then nonce else s.mir.nonceOwn
          let n1 := if p.slot1 then s.mir.nonceOwn else nonce
          s.modMir fun m =>
            { m with link := .resync, noncePeer := nonce, fcountRx := 1, session := sessionKeys p.pk n0 n1, pairing := {} }
      | none, none => s.pairFails) s)

/-- A pairing frame: 0x10 chains, 0x11 the active role's keys, 0x12 the standby role's answer; 0x13 and 0x14 have nothing left to say
(log 42). -/
def execPairingFrame (kind : Nat) (data : Bytes) (s : State) : Res :=
  onUnit s (decide (0x10 ≤ kind ∧ kind ≤ 0x14)) (when_ (s.mirrorRuns && s.mir.auth.isSome) (fun s =>
    let s' := s.modMir fun m => { m with fcountRx := m.fcountRx + 1 }
    let standby := s.mir.auth.any (·.standbyRole)
    if kind = 0x10 && s.mir.pairing.step = 2 then s'.takeChain data
    else if kind = 0x11 && s.mir.pairing.step = 3 && standby then s'.answerKems data
    else if kind = 0x12 && s.mir.pairing.step = 3 && !standby then s'.takeKems data
    else s) s)

/-! ## Deltas (R370, R371) -/

/-- The standby takes a DELTA frame, applies what follows in order, and acknowledges the highest applied (R370, R371, R386). -/
def execDelta (hdr : FrameHdr) (groups : List Group) (s : State) : Res :=
  onUnit s true (s.frameIn hdr fun s =>
    if s.mir.active then s
    else match s.applyGroups groups with
      | (s, true) => s.sendFrame frAck (leBytes s.mir.applied 8)
      | (s, false) => s)

/-- The highest SEQ sent: below the first group that waits (R370). -/
def State.sentUpTo (s : State) : Nat :=
  match s.mir.dlog.find? fun g => !g.sent with
  | some g => g.seq - 1
  | none => max s.mir.seq s.mir.applied

/-- An ACK names the highest SEQ applied (R370); after RESYNC_DONE it makes the link MIRRORED (R367). -/
def execMirrorAck (hdr : FrameHdr) (seq : Nat) (s : State) : Res :=
  onUnit s true (s.frameIn hdr fun s =>
    if s.sentUpTo < seq then (s.partnerViol false 1).linkDown false
    else
      let done := s.mir.link == .resync && s.mir.resyncSource && seq = s.sentUpTo
      let s := s.acknowledge seq
      if done then s.mirroredNow else s)

/-- Groups not yet sent go out, several in one frame (R370), with the keys they announce (R366). -/
def execDeltaSend (s : State) : Res :=
  onUnit s true (
    let gs := s.mir.dlog.filter fun g => !g.sent
    when_ (s.secured && s.mirrored && s.mir.active && !gs.isEmpty) (fun s =>
      (s.modMir fun m => { m with dlog := m.dlog.map fun g => { g with sent := true } }).sendGroups gs) s)

/-- The peer could not apply a group: the source sends everything again (R386). -/
def execNack (hdr : FrameHdr) (s : State) : Res :=
  onUnit s true (s.frameIn hdr fun s =>
    if s.mir.active then ((s.partnerViol false 2).linkResync).sendSnapshot else s.partnerViol false 2)

/-- A CONTROL group has waited 100 ms (R370). -/
def execControlAckTimeout (seq : Nat) (s : State) : Res :=
  onUnit s true (match s.mir.controls.find? fun c => c.1 = seq with
    | none => s
    | some c => s.controlUnacked seq c.2)

/-- A complete replay entry has lived 2 s (R375). -/
def execReplayEntryExpire (saggar rid : Nat) (s : State) : Res :=
  onUnit s (decide (saggar < 256 ∧ rid < 2 ^ 64)) (match s.replayOf saggar rid with
    | none => s
    | some e => when_ e.complete (fun s => s.setReplay saggar rid none) s)

/-! ## Heartbeats and loss of the link (R367, R378, R384, R386) -/

/-- Both modules hold the current TERM as active (R386): without a lease this one demotes. Whether the peer holds one too is not for
this module to see: where it does, both act as without a lease. (DESIGN CHOICE, log 93) -/
def State.twoActive (s : State) : State :=
  let s := s.partnerViol false 3
  if !s.mir.lease then s.demote s.mir.term
  else if Config.freeChoice s.freeCtr 2 % 2 = 1 then (s.drew 1).leaseLost else s.drew 1

/-- HEARTBEAT (R367). -/
def execHeartbeat (hdr : FrameHdr) (mode : Nat) (term gen : Word) (ready active : Bool) (applied : Nat) (s : State) : Res :=
  onUnit s (decide (mode < 8)) (s.frameIn hdr fun s =>
    let s := s.modMir fun m => { m with peerReady := ready }
    let s := if s.mir.active && decide (s.mir.term.toNat < term.toNat) then s.demote term
      else if s.mir.active && active && s.mir.term = term then s.twoActive
      else s
    let s := when_ (!s.mir.active && active && s.mirrored) (fun s => s.modMir fun m => { m with gen := gen }) s
    when_ (s.mir.link == .resync && !s.mir.resyncAsked && !(s.sourceAgainst active term.toNat gen.toNat applied)) State.askResync s)

/-- Nothing was sent for 100 µs: mode, TERM, GEN, READY and the highest SEQ applied (R367). -/
def execHeartbeatSendTimer (s : State) : Res :=
  onUnit s true (when_ s.secured (fun s => s.sendFrame frHeartbeat
    ([byte (modeCode s.sys.mode)] ++ leBytes s.mir.term.toNat 4 ++ leBytes s.mir.gen.toNat 4 ++ [byte (b2n s.mirReady)] ++
      leBytes s.mir.applied 8)) s)

/-- No valid frame for 1 ms on a MIRRORED link (R367). -/
def execLinkFrameTimeout (s : State) : Res := onUnit s true (when_ s.mirrored (fun s => s.linkDown true) s)

/-- A MIRROR reset (R367). -/
def execMirrorReset (s : State) : Res := onUnit s true s.mirrorReset

/-! ## Resynchronisation (R373) -/

/-- RESYNC_REQ: incremental where the log covers it and the receiver, in the boot it was last MIRRORED with, has kept its state; full
otherwise (R373). (DEDUCED, log 145) -/
def execResyncReq (hdr : FrameHdr) (applied boot : Nat) (keptState : Bool) (s : State) : Res :=
  onUnit s (decide (boot < 2 ^ 32)) (s.frameIn hdr fun s =>
    when_ (s.mir.link == .resync && !s.mir.resyncAsked) (fun s =>
      let kept := keptState && s.mir.peerBoot == some boot
      let s := s.modMir fun m => { m with askBoot := some boot }
      if kept && s.logCovers applied then s.sendRest applied else s.sendSnapshot) s)

/-- A snapshot frame at the receiver. -/
def execResyncData (hdr : FrameHdr) (items : List Snap) (s : State) : Res :=
  onUnit s true (s.frameIn hdr fun s =>
    when_ (s.mir.link == .resync && !s.mir.active) (fun s => forEach items (fun i s => s.applySnap i) s.beginSnapshot) s)

/-- The end of a resynchronisation: TERM and GEN of the source are adopted (R373, R378). -/
def execResyncDone (hdr : FrameHdr) (term gen : Word) (seq : Nat) (s : State) : Res :=
  onUnit s true (s.frameIn hdr fun s =>
    when_ (s.mir.link == .resync && !s.mir.active) (fun s =>
      if !s.mir.resyncFull && seq ≠ s.mir.applied then (s.partnerViol false 1).linkDown false
      else
        let s := s.eraseUnseen.modMir fun m => { m with term := term, gen := gen, applied := seq }
        (s.sendFrame frAck (leBytes seq 8)).mirroredNow) s)

/-- KEYXFER: master keys and a roster, unwrapped under PK (R213, R347, R368). -/
def execKeyxfer (hdr : FrameHdr) (saggar : Nat) (keys : List (Nat × KeyVal)) (roster : Roster) (s : State) : Res :=
  onUnit s (decide (saggar < 256)) (s.frameIn hdr fun s =>
    when_ (!s.mir.active && s.holdsSaggar saggar) (fun s => s.takeKeys saggar keys roster) s)

/-- MIR_RETRAIN (R387). -/
def execMirRetrain (fn mailbox : Nat) (s : State) : Res :=
  mbxCommand 0x0603 fn mailbox (fun _ s =>
    if !s.paired then (s, .done Mr.SEQUENCE []) else (s.mirrorReset, .done Mr.OK [])) s

/-- State-changing wares held for acknowledgement (R387): those that head their flow, as R115 counts held wares. (DESIGN CHOICE, log 142) -/
def State.heldForAck (s : State) : Nat :=
  (s.tagsWhere fun w => w.phase == .ended && s.headsFlow w && State.mustBeHeld w && !(s.acknowledged w)).length

/-- MIR_STATUS (R387). -/
def execMirStatus (fn mailbox : Nat) (s : State) : Res :=
  mbxCommand 0x0601 fn mailbox (fun _ s =>
    match s.mir.pair with
    | none => (s, .done Mr.SEQUENCE [])
    | some p =>
      (s, .done Mr.OK ([byte (linkCode s.mir.link), byte (b2n p.slot1), byte (modeCode s.sys.mode),
        byte (b2n s.mir.lease + 2 * b2n s.mirReady)] ++ leBytes s.mir.term.toNat 4 ++ leBytes s.mir.gen.toNat 4 ++
        leBytes p.peer 8 ++ leBytes (if s.mir.active then s.mir.acked else s.mir.applied) 8 ++ leBytes s.heldForAck 4))) s

end Sys2Proof.Machine
end

