-- ==== Sys2Proof/Machine/Recorder.lean ====
section
/-! DEFINITION. The commands of the event recorder (R436 to R450): windows, budgets, the NOR writer, flushes, paced vectors, and the
mailbox commands of group 0x07. -/

namespace Sys2Proof.Machine

namespace State

/-! ## The writer (R445, R446) -/

/-- The NOR writer runs. (DESIGN CHOICE, log 95) -/
def norRuns (s : State) : Bool :=
  s.sys.mode != .dormant && !s.tmp.halted && !(s.bank 13).fenced && !s.log.stopped && decide (5 ≤ s.sys.bootStep)

/-- The record at `g` is written, where a slot can be had, and settles. -/
def writeRecord (s : State) (g : Nat) : State :=
  match s.recAt g with
  | none => s.settle g
  | some r => match s.programRecord r true with
    | none => s
    | some s => s.settle g

/-- The writer's next record: written, or skipped while the budget is spent (R445). -/
def writeNext (s : State) : State :=
  match s.nextRecord with
  | none => s
  | some g => if s.log.budget ≤ 0 && !(s.freeOfBudget g) then s.skipRecord g else s.writeRecord g

/-- A period flush closes the open page of each stream (R446). (DESIGN CHOICE, log 95) -/
def closePages (s : State) : State :=
  forEach (s.log.streams.map (·.1)) (fun i s => match (s.stream i).blocks.getLast? with
    | none => s
    | some b =>
      let pad := pagePad b.used
      (s.modLog fun l => { l with budget := max (-1048576) (l.budget - pad) }).modOpen i fun b => { b with used := b.used + pad }) s

/-- A flush has ended: FLUSH_DONE. -/
def flushDone (s : State) : State := (s.modLog fun l => { l with flush := .none }).logIrq 3

/-- A fault flush ends once everything accepted before its trigger is written (R446). -/
def endFaultFlush (s : State) (upTo : Nat) : State :=
  (forEach (s.log.unsettled.filter fun g => decide (g < upTo)) (fun g s => s.writeRecord g) s).flushDone

/-- The power-fail flush ends: the reserved lane is written, POWER_FAIL counts the normal-lane records not reached, and the writer
stops, unless power has come back (R446, R447). -/
def endPowerFlush (s : State) : State :=
  let s := forEach (s.log.unsettled.filter s.reservedAt) (fun g s => s.writeRecord g) s
  let left := s.log.unsettled.length
  let s := s.record { stream := devStream, source := srcOf Unit.recorder 0, code := 0x0F03, reserved := true, data := leBytes left 4 }
  let s := forEach (s.log.unsettled.filter s.reservedAt) (fun g s => s.writeRecord g) s
  if s.sys.pwrfail then (s.logIrq 3).modLog fun l => { l with stopped := true } else s.flushDone

/-! ## What a reader finds (R448, R450) -/

/-- The records of a stream that the ring and NOR flash hold, by SEQ. (DESIGN CHOICE, log 95) -/
def streamRecs (s : State) (n : Nat) : SMap Rec :=
  let ring := s.log.ring.filterMap fun e => e.2.filter fun r => r.stream = n
  ((ring ++ (s.stream n).blocks.flatMap (·.recs)).foldl (fun m r => minsert m r.seq r) [])

/-- The lowest SEQ held; the next SEQ where none is. -/
def lowestSeq (s : State) (n : Nat) : Nat := ((s.streamRecs n).head?.map (·.1)).getD (s.stream n).next

/-- The records from SEQ `first` on. -/
def recsFrom (s : State) (n first : Nat) : List Rec := ((s.streamRecs n).filter fun e => decide (first ≤ e.1)).map (·.2)

def logStatus (s : State) (p : Bytes) : State × Answer :=
  let n := leAt p 0 2
  let t := s.stream n
  (s, .done Mr.OK (leBytes t.next 8 ++ leBytes (s.lowestSeq n) 8 ++ [byte (b2n t.keepFirst), 0] ++ leBytes t.quota 2 ++
    leBytes t.first 2 ++ leBytes t.blocks.length 2))

def logRead (s : State) (p : Bytes) : State × Answer :=
  let n := leAt p 0 2
  let rs := s.recsFrom n (leAt p 8 8)
  (s, .done Mr.OK ([byte (min 6 rs.length), byte (b2n (decide (6 < rs.length)))] ++ zeros 6 ++ leBytes (s.lowestSeq n) 8 ++
    (rs.take 6).flatMap recBytes))

def logFetch (s : State) (fn : Nat) (p : Bytes) (bufferOk : Bool) : State × Answer :=
  let n := leAt p 0 2
  let rs := s.recsFrom n (leAt p 8 8)
  if !bufferOk then (s, .done Mr.BUFFER_FAULT [])
  else
    let k := min rs.length (bufLen p 16 / 64)
    let after := ((rs.drop k).head?.map (·.seq)).getD (s.stream n).next
    (when_ (k ≠ 0) (fun s => s.hostWrite fn (bufAddr p 16) ((rs.take k).flatMap recBytes)) s,
     .done Mr.OK (leBytes k 4 ++ zeros 4 ++ leBytes after 8))

/-- Quotas of the saggar streams together (R444). -/
def quotaSum (s : State) (but : Nat) : Nat := (((List.range 256).filter fun i => i ≠ but).map fun i => (s.stream i).quota).sum

/-- LOG_CONFIG (R444, R450); under WRAP no block is kept, so FIRST is 0. -/
def logConfig (s : State) (p : Bytes) : State × Answer :=
  let n := leAt p 0 2
  let keep := byteAt p 2 = 1
  let quota := leAt p 4 2
  let first := if keep then leAt p 6 2 else 0
  if decide (256 ≤ n) && quota ≠ (s.stream n).quota then (s, .done Mr.BAD_FIELD [])
  else if decide (n < 256) && (decide (quota < 2 ∨ 864 < quota) || decide (864 < s.quotaSum n + quota)) then (s, .done Mr.LIMIT [])
  else if keep && decide (first < 1 ∨ quota < first + 2) then (s, .done Mr.LIMIT [])
  else
    let s := s.modStream n fun t => { t with keepFirst := keep, quota := quota, first := first }
    let s := s.fitStream n quota 1024
    let now := [byte (b2n keep), 0] ++ leBytes quota 2 ++ leBytes first 2
    (s.record { stream := n, source := srcOf Unit.kazkel 0, code := 0x0F07, data := now }, .done Mr.OK (leBytes n 2 ++ now))

end State

/-! ## Intake -/

/-- A producer hands the recorder a record (R438 to R441). -/
def execRecordAccept (event : Event) (s : State) : Res :=
  onUnit s (decide (event.stream ≤ 257)) (when_ (s.sys.mode != .dormant) (fun s => s.record event) s)

/-- A window ends: what it folded becomes one record, and a new window opens; else it closes (R439). -/
def execCoalesceWindowEnd (stream source code : Nat) (s : State) : Res :=
  let e : Event := { stream := stream, source := source, code := code }
  onUnit s (decide (stream ≤ 257)) (match s.log.windows.find? (State.sameTriple e) with
    | none => s
    | some w =>
      if w.folded = 0 then s.modLog fun l => { l with windows := l.windows.filter fun x => !(State.sameTriple e x) }
      else
        let s := s.modLog fun l =>
          { l with windows := l.windows.map fun x => if State.sameTriple e x then { x with folded := 0 } else x }
        s.budgetRecord { e with fn := w.fn, data := w.data } (min 0xFFFF w.folded) true)

/-- The end of 10 ms: one DROP_SUMMARY for each unit that dropped records, and ten milliseconds' gain for each bucket (R440). -/
def execDropSummaryTimer (s : State) : Res :=
  onUnit s true (
    let units := (s.log.buckets.filter fun e => e.2.dropped ≠ 0).map (·.1)
    let s := forEach units (fun u s =>
      let b := s.budgetOf u
      let s := s.modLog fun l => { l with buckets := mset { level := l.burst } l.buckets u { level := b.level } }
      s.record { stream := devStream, source := srcOf Unit.recorder 0, code := 0x0F01, reserved := true,
                 data := [byte u, 0, 0, 0] ++ leBytes b.dropped 4 ++ leBytes b.firstCode 2 ++ leBytes b.lastCode 2 }) s
    s.modLog fun l =>
      { l with buckets := mmap { level := l.burst } (fun _ b => { b with level := min l.burst (b.level + 10 * l.rate) }) l.buckets })

/-! ## The writer -/

/-- The writer takes the next record (R446). -/
def execNorRecordWrite (s : State) : Res := onUnit s true (when_ s.norRuns State.writeNext s)

/-- The program of the next record fails: NOR_WRITE, and the record goes to the next slot (R445). -/
def execNorProgramFail (s : State) : Res :=
  onUnit s true (when_ s.norRuns (fun s => match s.nextRecord.bind s.recAt with
    | none => s
    | some r => match s.programRecord r false with
      | none => s
      | some s => s.occur 13 5 none) s)

/-- The end of a second: the budget's gain, and one SKIP_SUMMARY where the writer skipped any (R445). -/
def execSkipSummaryTimer (s : State) : Res :=
  onUnit s true (
    let n := s.log.skipCount
    let first := s.log.skipFirst
    let s := s.modLog fun l => { l with budget := min 1048576 (l.budget + 256), skipCount := 0, skipFirst := 0 }
    when_ (n ≠ 0) (fun s => s.record
      { stream := devStream, source := srcOf Unit.recorder 0, code := 0x0F02, reserved := true,
        data := leBytes n 4 ++ leBytes first 4 }) s)

/-- Every LOG_CFG.PERIOD_MS (R446). -/
def execPeriodFlush (s : State) : Res := onUnit s true (when_ s.norRuns State.closePages s)

/-- A flush ends (R446, R447); a CHIP reaction that waited for it resets the device (R422). -/
def execFlushEnd (facts : BootFacts) (s : State) : Res :=
  onUnit s true (
    let s := when_ s.norRuns (fun s => match s.log.flush with
      | .none => s
      | .fault upTo => s.endFaultFlush upTo
      | .power => s.endPowerFlush) s
    when_ (s.flt.chipDue && s.log.flush != .power && s.sys.mode != .dormant && !s.tmp.halted) (fun s =>
      if respGuard ≤ s.tmp.govern then s.modFlt fun f => { f with chipDue := false }
      else s.reboot resetWarm 5 facts) s)

/-- The erase of a released block ends: the block returns to the free pool, or a worn or failed one is removed (R444, R445). An erase is
suspended during a power-fail flush. -/
def execNorBlockEraseDone (block : Nat) (ok : Bool) (s : State) : Res :=
  onUnit s (decide (block < 1024)) (match s.log.erasing.find? fun e => e.1 = block with
    | none => s
    | some (_, n) => when_ (s.norRuns && s.log.flush != .power) (fun s =>
      let s := s.modLog fun l => { l with erasing := l.erasing.filter fun e => e.1 ≠ block }
      if !ok then s.occur 13 5 none
      else if 100000 ≤ n + 1 then s.occur 13 6 none
      else s.modLog fun l => { l with free := l.free ++ [(block, n + 1)] }) s)

/-- The pacing interval of a PF vector ends (R442). -/
def execVectorPaceExpire (vector : Nat) (s : State) : Res :=
  onUnit s (decide (16 ≤ vector ∧ vector ≤ 21)) (match s.log.pacing.find? fun e => e.1 = vector with
    | none => s
    | some (_, again) =>
      if again then
        (s.modLog fun l => { l with pacing := l.pacing.map fun e => if e.1 = vector then (vector, false) else e }).raiseVector
          s.ownerPf vector
      else s.modLog fun l => { l with pacing := l.pacing.filter fun e => e.1 ≠ vector })

/-! ## The mailbox commands of group 0x07 (R450) -/

def execLogStatus (fn mailbox : Nat) (s : State) : Res := mbxCommand 0x0701 fn mailbox (fun p s => s.logStatus p) s

def execLogRead (fn mailbox : Nat) (s : State) : Res := mbxCommand 0x0702 fn mailbox (fun p s => s.logRead p) s

/-- LOG_FETCH; `bufferOk`: every write to the buffer was taken. -/
def execLogFetch (fn mailbox : Nat) (bufferOk : Bool) (s : State) : Res :=
  mbxCommand 0x0703 fn mailbox (fun p s => s.logFetch fn p bufferOk) s

def execLogConfig (fn mailbox : Nat) (s : State) : Res := mbxCommand 0x0704 fn mailbox (fun p s => s.logConfig p) s

/-- LOG_GRANT (R437). -/
def execLogGrant (fn mailbox : Nat) (s : State) : Res :=
  mbxCommand 0x0705 fn mailbox (fun p s =>
    (s.modLog fun l => { l with grants := mset 0 l.grants (leAt p 0 2) (BitVec.ofNat 2 (byteAt p 2)) }, .done Mr.OK [])) s

end Sys2Proof.Machine
end

