-- ==== Sys2Proof/Machine/RegMap.lean ====
section
/-! DEFINITION. What a read of a register returns (R10, R11, R53, R55 and the register tables): one function per block of the BAR map,
none at an offset that holds no register. Reserved bits and WO fields read zero. -/

namespace Sys2Proof.Machine

/-- A word from fields and their lowest bits. -/
def wordOf (fields : List (Nat × Nat)) : Word := BitVec.ofNat 32 (fields.map fun f => f.1 * 2 ^ f.2).sum

/-- A word from one number. -/
def word (n : Nat) : Word := BitVec.ofNat 32 n

/-- The low and the high word of a 64-bit number. -/
def loWord (n : Nat) : Word := word n
def hiWord (n : Nat) : Word := word (n / 2 ^ 32)

/-- Bit `i` set for every `i` below 32 that `p` admits. -/
def wordBits (p : Nat → Bool) : Word := wordOf ((List.range 32).map fun i => (b2n (p i), i))

/-- Index and offset within a run of `count` blocks of `stride` bytes from `base`. -/
def blockAt (base stride count o : Nat) : Option (Nat × Nat) :=
  if base ≤ o ∧ o < base + stride * count then some ((o - base) / stride, (o - base) % stride) else none

/-- Two or four counters in one word, the first in the low bits. -/
def packed (width : Nat) : List Nat → Nat
  | [] => 0
  | x :: xs => x + 2 ^ width * packed width xs

/-- The number of a ring state and of the cause of an error (R101). -/
def ringCode : RingState → Nat
  | .disabled => 0 | .running => 1 | .error => 2 | .resetting => 3
def ringCauseCode : RingCause → Nat
  | .none => 0 | .sqRange => 1 | .cqRange => 2 | .descFetch => 3 | .config => 4

namespace State

/-! ## The registers that SMBus shows as well (R414, R431, R464, R480, R499) -/

def regModGlobal (s : State) : Word :=
  wordOf [(modeCode s.sys.mode, 0), (s.tmp.govern, 3), (b2n s.flt.grave, 6), (b2n s.ent.ready, 7), (b2n s.mir.active, 8),
          (b2n s.mir.lease, 9)]

/-- DESIGN CHOICE, log 4. -/
def regTmpStat (s : State) : Word :=
  wordOf [(s.tmp.govern, 0), (b2n s.tmp.sealed, 3), (b2n s.recoverable, 4), (((List.range 28).filter s.alarmLive).length, 8)]

def regFltSum (s : State) : Word := wordOf [(b2n s.flt.grave, 0), (b2n s.flt.parity, 1), (b2n s.flt.errOut, 2)]

def regPwrStat (s : State) : Word :=
  wordOf [((allKilns.filter fun k => kilnOn (s.kiln k).state).length, 0), (b2n s.host.portA.d3hot, 8), (b2n s.host.portB.d3hot, 9),
          (b2n s.sys.pwrfail, 10)]

def regConeCapacity (s : State) : Word := wordOf [(s.capacity, 0)]

def regLccStat (s : State) : Word :=
  wordOf [(lcCode s.lcc.state, 0), (b2n (lcDebugOpen s.lcc.state), 8), (b2n (decide (1 ≤ lcReach s.lcc.state)), 9),
          (b2n s.lcc.pending, 10), (b2n s.lcc.busy, 11), (s.lcc.target.toNat, 12), (s.lcc.outcome.toNat, 16),
          (s.lcc.ledger.length, 20)]

/-! ## The host port's block (R71, R480) -/

/-- HIF_LINK_STAT. -/
def regLinkStat (s : State) : Word :=
  let a := s.host.portA
  let b := s.host.portB
  wordOf [(a.speed.toNat, 0), (a.width.toNat, 3), (b2n a.up, 8), (b.speed.toNat, 16), (b.width.toNat, 19), (b2n b.up, 24),
          (b2n s.host.split, 31)]

/-- Offsets 0x000 to 0x0FF: identity, link, host port control, global status. -/
def readHif (s : State) (o : Nat) : Option Word :=
  match o with
  | 0x00 => some (wordOf [(Config.part, 0), (Config.stepping, 8)])
  | 0x04 => some (wordOf [(Config.kilnsOffered, 0), (Config.sparesOffered, 7), (Config.storeGib, 16), (b2n Config.x16, 24)])
  | 0x10 => some s.regLinkStat
  | 0x14 => some (wordOf [(b2n s.host.ownerB, 0), (b2n s.host.ideRequired, 1)])
  | 0x18 => some (wordOf [(s.host.violLimit.toNat, 0), (s.host.violWindowMs.toNat, 16)])
  | 0x20 => some s.regModGlobal
  | _ => none

/-- FN_BIND to FN_IRQ_CAUSE of function `w`, from the offset of FN_BIND. -/
def readFn (s : State) (w o : Nat) : Option Word :=
  let f := s.fn w
  match o with
  | 0x00 => some (match f.bound with
    | some g => wordOf [(g, 0), (1, 31)]
    | none => 0)
  | 0x04 => some (wordOf [(f.gen.toNat, 0), (b2n (s.genWaiting w), 8)])
  | 0x08 => some f.staleCnt
  | 0x0C => some (f.viol.setWidth 32)
  | 0x10 => some (wordOf [(f.violWindow.toNat, 0), (f.violTotal.toNat, 16)])
  | 0x14 => some (wordOf [(b2n f.quarantined, 0)])
  | 0x18 => some (f.irqCause.setWidth 32)
  | _ => none

/-- FN_DPL_CTL to FN_DPL_PAGES. -/
def readDpl (d : Dpl) (o : Nat) : Option Word :=
  match o with
  | 0x220 => some (wordOf [(b2n d.enable, 0), (b2n d.select, 1)])
  | 0x224 => some (wordOf [(b2n d.switched, 0), (b2n d.outside, 1), (b2n d.readErr, 2)])
  | 0x228 => some (loWord d.bmp0.toNat)
  | 0x22C => some (hiWord d.bmp0.toNat)
  | 0x230 => some (loWord d.bmp1.toNat)
  | 0x234 => some (hiWord d.bmp1.toNat)
  | 0x238 => some (loWord d.win.toNat)
  | 0x23C => some (hiWord d.win.toNat)
  | 0x240 => some (d.pages.setWidth 32)
  | _ => none

/-- What a PF's window at 0x200 shows: the function HIF_FN_SEL names, where it is of the PF's port (R69). -/
def windowFn (s : State) (i : Nat) : Option Nat :=
  let w := (s.port (s.portOf i)).fnSel.toNat
  if s.portOf w = s.portOf i then some w else none

/-! ## Rings, mailboxes and MSI-X (R53, R55, R101, R341) -/

/-- A register of ring `q` of function `i`. -/
def readRing (s : State) (i q o : Nat) : Option Word :=
  let r := s.ring i q
  match o with
  | 0x00 => some (wordOf [(b2n r.enable, 0), (r.sqLog2, 4), (r.cqLog2, 8), (r.prio, 12), (b2n r.shadowEn, 14)])
  | 0x04 => some (loWord r.sqBase.toNat)
  | 0x08 => some (hiWord r.sqBase.toNat)
  | 0x0C => some (loWord r.cqBase.toNat)
  | 0x10 => some (hiWord r.cqBase.toNat)
  | 0x14 => some (loWord r.shadow.toNat)
  | 0x18 => some (hiWord r.shadow.toNat)
  | 0x20 => some (wordOf [(r.sqHead, 0)])
  | 0x24 => some (wordOf [(r.cqTail, 0), (b2n r.phase, 16)])
  | 0x28 => some (wordOf [(r.coalCount, 0), (r.coalTime, 8)])
  | 0x2C => some (wordOf [(ringCode r.state, 0), (if r.state == .error then ringCauseCode r.cause else 0, 4), (r.errIndex, 16)])
  | 0x30 => some (word (s.ringInflight i q))
  | 0x34 => some r.dropped
  | 0x38 => some 0
  | _ => none

/-- A doorbell: WO. -/
def readDoorbell (o : Nat) : Option Word := if o = 0 ∨ o = 4 then some 0 else none

/-- A register of mailbox `k` of function `i` (R341). -/
def readBox (s : State) (i k o : Nat) : Option Word :=
  let b := s.box i k
  match o with
  | 0x000 => some 0
  | 0x004 => some (wordOf [(mbxCode b.state, 0), (b2n b.abortSeen, 2)])
  | 0x008 => some (wordOf [(s.levelOf i, 0), (s.servedLevels.1, 8), (s.servedLevels.2, 16)])
  | 0x00C => some b.dropped
  | _ =>
    if 0x40 ≤ o ∧ o < 0x200 then some (if b.state == .posted || b.state == .busy then 0 else word (leAt b.data (o - 0x40) 4)) else none

/-- A word of an MSI-X table entry. (PRESUMED, log 25) -/
def readMsix (s : State) (i e o : Nat) : Option Word :=
  let x := (s.fn i).entry e
  match o with
  | 0x0 => some (loWord x.addr.toNat)
  | 0x4 => some (hiWord x.addr.toNat)
  | 0x8 => some x.data
  | 0xC => some (word (b2n x.masked))
  | _ => none

/-- Word `w` of a function's pending bit array. -/
def readPba (s : State) (i w : Nat) : Word := ((s.fn i).pba >>> (32 * w)).setWidth 32

/-! ## The setter (R126) -/

/-- Wares held under R20: they head their flow, their firing has ended, and acknowledgement or lease is wanting (R20, R115). -/
def heldWares (s : State) : Nat := (s.tagsWhere fun w => w.phase == .ended && s.headsFlow w && !(s.mayRelease w)).length

/-- Background graphs suspended in a kiln. -/
def suspendedIn (s : State) (k : Nat) : Nat := (s.tagsWhere fun w => w.kiln = k && w.phase == .suspended).length

/-- Offsets 0x00 to 0x7F of a group's block, from the snapshot (R123, R125). -/
def readGroup (s : State) (g o : Nat) : Option Word :=
  let f := mget {} s.setter.snapshot g
  if o = 0 then some (word (mget 1 s.setter.weights g))
  else if 0x10 ≤ o ∧ o < 0x20 then some (word (f.depth.getD ((o - 0x10) / 4) 0))
  else if o = 0x20 then some f.disp
  else if 0x40 ≤ o ∧ o < 0x80 then some (f.hist.getD ((o - 0x40) / 4) 0) else none

/-- A saggar's setter block; that of a saggar that does not exist reads zero. -/
def readSetSag (s : State) (g o : Nat) : Option Word :=
  let x := s.saggar g
  let p := x.pol.record 0
  let v : Option Word := match o with
    | 0x00 => some (loWord (polGroups p))
    | 0x04 => some (hiWord (polGroups p))
    | 0x08 => some (wordOf [(x.epoch.toNat, 0), (b2n x.busy, 16), (b2n x.mixed, 17)])
    | 0x0C => some (wordOf [(polHomeBase p, 0), (polHomeSize p, 8), (polCeiling p, 16)])
    | 0x10 => some (word (polInflight p))
    | 0x14 => some (word (s.sagInflight g))
    | 0x18 => some x.demoted
    | _ => none
  if x.state == .none then v.map fun _ => 0 else v

/-- The setter observation block. -/
def readSetter (s : State) (o : Nat) : Option Word :=
  let t := s.setter
  match o with
  | 0x4000 => some (t.quantum.setWidth 32)
  | 0x4004 => some (wordOf [(t.slack.toNat, 0), (t.kqLimit, 8), (t.preemptMax, 16)])
  | 0x4008 => some (word s.inflight)
  | 0x400C => some (word s.heldWares)
  | 0x4010 => some (wordOf [(b2n t.snapDone, 1), (t.snapSeq.toNat, 16)])
  | 0x4014 => some t.busySeq
  | _ =>
    match blockAt 0x4100 4 16 o, blockAt 0x4200 8 68 o, blockAt 0x5000 0x80 64 o, blockAt 0x7000 0x40 68 o, blockAt 0x9000 0x40 256 o with
    | some (z, 0), _, _, _, _ => some (word (t.costs.getD z 0))
    | _, some (k, 0), _, _, _ => some (wordOf [((s.kiln k).queue.length, 0), (s.firingCount k, 8), (s.suspendedIn k, 16),
        (b2n (s.kiln k).hold, 24), (b2n (s.eligible k), 25)])
    | _, some (k, 4), _, _, _ => let x := mget (0, 0) t.kilnBusy k
        some (wordOf [(x.1.toNat, 0), (x.2.toNat, 16)])
    | _, _, some (g, x), _, _ => s.readGroup g x
    | _, _, _, some (n, x), _ => if x % 4 = 0 then some ((mget 0 t.engBusy (16 * n + x / 4)).setWidth 32) else none
    | _, _, _, _, some (g, x) => s.readSetSag g x
    | _, _, _, _, _ => none

/-! ## Kilns and wheels (R154, R289) -/

/-- A kiln's block; of an absent kiln all but STATE reads zero (R2). -/
def readKiln (s : State) (k o : Nat) : Option Word :=
  let x := s.kiln k
  let v : Option Word := match o with
    | 0x00 => some (wordOf [(kilnCode x.state, 0), (b2n (x.bankB.valid && (!x.bankA.valid || decide (x.bankA.level < x.bankB.level))), 4),
        (b2n x.bankA.valid, 5), (b2n x.bankB.valid, 6), (b2n (s.stageFull k), 7)])
    | 0x04 => some (wordOf [(x.bankA.level.toNat, 0), (x.bankB.level.toNat, 16)])
    | 0x08 => some (wordOf [(x.freq.toNat, 0), (x.volt.toNat, 8)])
    | 0x0C => some (wordOf [(x.slots.length, 0), ((x.slots.filter fun t => decide (0 < t.pins)).length, 16)])
    | 0x10 => some (word x.sagMax)
    | 0x14 => some (word (s.stageUsed k))
    | 0x18 => some x.firings
    | 0x1C => some x.aborts
    | 0x20 => some (wordOf [(x.resets.toNat, 0), (x.lastCause.toNat, 16)])
    | 0x24 => some (wordOf [(min 2 x.withdrawnRecent, 0), (x.withdrawnTotal.toNat, 16)])
    | _ => none
  if x.state == .absent then v.map fun _ => if o = 0 then word (kilnCode x.state) else 0 else v

/-- WHL_m_STAT.STATE: 0 OFF, 1 IDLE, 2 CLAIMED, 3 RUNNING. -/
def wheelState (s : State) (m : Nat) : Nat :=
  let x := s.kiln (m / 2)
  if !(kilnOn x.state) then 0
  else match (if m % 2 = 0 then x.wheelA else x.wheelB) with
    | none => 1
    | some tag => match s.ware tag with
      | none => 1
      | some w =>
        let u := w.stepIn w.graphStep
        if w.phase == .firing && w.graphFail.isNone && usesWheel u.code u.params then 3 else 2

/-- A wheel's block. -/
def readWheel (s : State) (m o : Nat) : Option Word :=
  let x := s.wheel m
  match o with
  | 0x00 => some (wordOf [(s.wheelState m, 0), (x.lastWop.toNat, 8)])
  | 0x04 => some x.ops
  | 0x08 => some x.aborts
  | 0x0C => some (wordOf [(x.degenerate.toNat, 0), (x.faultChk.toNat, 16)])
  | _ => none

/-- Wheel blocks, the page pool and the saggars' pages. -/
def readWheels (s : State) (o : Nat) : Option Word :=
  if o = 0x38800 then some (word s.store.total)
  else if o = 0x38804 then some (word s.freePages)
  else match blockAt 0x30000 0x100 136 o, blockAt 0x39000 4 256 o with
    | some (m, x), _ => s.readWheel m x
    | _, some (g, 0) => some (if (s.saggar g).state == .none then 0 else
        wordOf [((s.operandPages g).length, 0), ((s.busyPages g).length, 16)])
    | _, _ => none

/-! ## The event recorder (R451) -/

/-- The newest record whose position g has g mod 512 = j, and its word w (R448); nothing recorded there reads zero. (DESIGN CHOICE, log 140) -/
def readLogWin (s : State) (j w : Nat) : Word :=
  let n := s.log.gpos
  let g := n - 1 - (n - 1 + 512 - j) % 512
  if n = 0 ∨ n - 1 < (n - 1 + 512 - j) % 512 then 0
  else match s.recAt g with
    | some r => word (leAt (recBytes r) (4 * w) 4)
    | none => 0

/-- The event recorder window. NEXT and FREE read their reset values until Kazkel has read the flash back (R436). (DESIGN CHOICE, log 140) -/
def readLog (s : State) (o : Nat) : Option Word :=
  let l := s.log
  match o with
  | 0x40000 => some (wordOf [(b2n s.norRuns, 0), (b2n (l.flush != .none), 1), (b2n (decide (l.budget ≤ 0)), 2),
    (if 5 ≤ s.sys.bootStep then l.free.length else 0, 16)])
  | 0x40004 => some (word (if 5 ≤ s.sys.bootStep then l.gpos else 0))
  | 0x40008 => some (wordOf [(l.unsettled.length, 0), ((l.unsettled.filter s.reservedAt).length, 16)])
  | 0x4000C => some (BitVec.ofInt 32 l.budget)
  | 0x40010 => some l.dropped
  | 0x40014 => some l.skipped
  | 0x40018 => some (l.irq.setWidth 32)
  | 0x40020 => some (wordOf [(l.periodMs, 0), (l.paceUs, 16)])
  | 0x40024 => some (wordOf [(l.rate, 0), (l.burst, 8)])
  | _ => match blockAt 0x41000 0x10 258 o, blockAt 0x48000 0x40 512 o with
    | some (i, x), _ =>
      let t := s.stream i
      (match x with
       | 0x0 => some (loWord t.next)
       | 0x4 => some (hiWord t.next)
       | 0x8 => some (wordOf [(b2n t.keepFirst, 0), (t.quota, 16)])
       | 0xC => some (wordOf [(t.blocks.length, 0), (if t.keepFirst then t.first else 0, 16)])
       | _ => none)
    | _, some (j, x) => if x % 4 = 0 then some (s.readLogWin j (x / 4)) else none
    | _, _ => none

/-! ## Fault banks (R415, R421, R431) -/

/-- A fault bank's block: while its domain is off it reads zero but for its reaction words and FENCED (R415). -/
def readBank (s : State) (b o : Nat) : Option Word :=
  let x := s.bank b
  let live := s.bankLive b
  if !(isBank b) then none
  else if o = 0 then some (if live then x.sticky else 0)
  else if o = 4 then some (wordOf [(if live then Machine.levelOf x b else 0, 0), (b2n x.fenced, 2), (b2n (live && x.parity), 3),
    (if live then sourceCount b else 0, 8)])
  else match blockAt 0x100 4 32 o with
    | some (i, 0) => some (wordOf [((reactionsOf x b i).toNat, 0), (faultSev b i, 8), ((forcedOf b i).toNat, 16), ((availOf b i).toNat, 24)])
    | _ => none

/-- The banks and their summary. -/
def readFaults (s : State) (o : Nat) : Option Word :=
  let banks := fun (w : Nat) (p : Nat → Bool) => wordBits fun j => isBank (32 * w + j) && p (32 * w + j)
  match o with
  | 0x5E000 => some s.regFltSum
  | 0x5E004 => some 0
  | _ => match blockAt 0x50000 0x200 100 o, blockAt 0x5E010 0x10 3 o with
    | some (b, x), _ => s.readBank b x
    | _, some (t, x) =>
      if x % 4 ≠ 0 then none
      else some (banks (x / 4) fun b =>
        if t = 0 then s.bankLive b && decide ((s.bank b).sticky ≠ 0) else if t = 1 then (s.bank b).fenced else !(s.bankLive b))
    | _, _ => none

/-! ## Tamper monitors (R414) -/

/-- The tamper status block. -/
def readTamper (s : State) (o : Nat) : Option Word :=
  let t := s.tmp
  match o with
  | 0x60000 => some s.regTmpStat
  | 0x60004 => some 0
  | 0x60010 => some (t.alarm.setWidth 32)
  | 0x60014 => some (wordBits fun i => decide (i < 28) && s.alarmLive i)
  | 0x60018 => some (wordOf [(t.latchResp, 0), (t.latchSource, 8), (t.latchCount.toNat, 16)])
  | 0x60020 => some (word t.last)
  | 0x60024 => some (wordOf [(t.last - t.copied, 0), (b2n t.norFull, 10), (t.overflow.toNat, 16)])
  | 0x60028 => some (word (packed 16 [t.fabric.toNat, t.decision.toNat]))
  | _ => match blockAt 0x60100 4 28 o, blockAt 0x60180 4 8 o, blockAt 0x60200 4 28 o, blockAt 0x68000 0x20 512 o with
    | some (i, 0), _, _, _ => some (wordOf [((s.tsource i).resp, 0), (floorResp i, 4), (b2n (s.tsource i).fitted, 8)])
    | _, some (k, 0), _, _ => let c := t.loops.getD k {}
        some (wordOf [(c.nominal.toNat, 0), (c.tol, 16)])
    | _, _, some (i, 0), _ => some (wordOf [((s.tsource i).measA.toNat, 0), ((s.tsource i).measB.toNat, 16)])
    | _, _, _, some (i, x) => if x % 4 ≠ 0 then none else some (match mget none t.ring i with
        | some e => word (leAt (evBytes e) x 4)
        | none => 0)
    | _, _, _, _ => none

/-! ## Entropy (R310) -/

/-- The entropy block. LOW is shown once the conditioner has stopped for it. (DESIGN CHOICE, log 140) -/
def readEntropy (s : State) (o : Nat) : Option Word :=
  let e := s.ent
  match o with
  | 0x70000 => some (wordOf [(b2n e.ready, 0), (b2n e.stopped, 1), (s.inPool, 8), (s.sourcesRetired, 16)])
  | 0x70004 => some (word e.waitMs)
  | 0x70008 => some 0
  | 0x7000C => some (e.irq.setWidth 32)
  | 0x70010 => some (word e.seeds.length)
  | 0x70014 => some e.waits
  | 0x70018 => some e.refused
  | 0x7001C => some (wordOf [(e.rctC.toNat, 0), (e.aptC.toNat, 16)])
  | _ => match blockAt 0x70100 8 16 o, blockAt 0x70200 8 69 o with
    | some (i, 0), _ => some (word (srcCode (s.source i).state))
    | some (i, 4), _ => some (wordOf [((s.source i).recent, 0), ((s.source i).total.toNat, 16)])
    | _, some (d, 0) => some (wordOf [(drbgCode (s.drbg d).state, 0), (b2n (s.drbg d).spare.isSome, 3)])
    | _, some (d, 4) => some (word (min (s.drbg d).calls (2 ^ 32 - 1)))
    | _, _ => none

/-! ## Lifecycle, mirror, witness, cones (R388, R464, R499) -/

/-- The lifecycle block. -/
def readLcc (s : State) (o : Nat) : Option Word :=
  match o with
  | 0x80000 => some s.regLccStat
  | 0x80004 => some (wordOf [(s.testUsed, 0), (s.fsUsed, 8)])
  | 0x80008 | 0x80010 | 0x80014 | 0x80018 | 0x8001C => some 0
  | 0x80020 => some (wordOf [(s.lcc.purpose.toNat, 0), (s.minutesLeft, 8)])
  | 0x80024 => some (loWord Config.uid.toNat)
  | 0x80028 => some (hiWord Config.uid.toNat)
  | _ => none

/-- WIT_STAT.NOKEY: a paired module without MK(0, 15) sets it (R364). -/
def witNoKey (s : State) : Bool := s.paired && s.witnessKey.isNone

/-- The mirror and witness block. -/
def readMirror (s : State) (o : Nat) : Option Word :=
  let m := s.mir
  let seq := if m.active then m.acked else m.applied
  match o with
  | 0x90000 => some (wordOf [(linkCode m.link, 0), (b2n m.ownSlot, 3), (b2n m.active, 4), (b2n s.mirReady, 5), (m.lanes.toNat, 6)])
  | 0x90004 => some m.term
  | 0x90008 => some m.gen
  | 0x9000C => some (word m.warmKilns)
  | 0x90010 => some (loWord seq)
  | 0x90014 => some (hiWord seq)
  | 0x90018 => some (word m.replay.length)
  | 0x9001C => some (word (packed 8 [m.badTag.toNat, m.order.toNat, m.nack.toNat, m.peerErr.toNat]))
  | 0x90020 => some (m.irq.setWidth 32)
  | 0x90100 => some (wordOf [(b2n m.lease, 0), (b2n s.witNoKey, 1), (m.remainMs, 8)])
  | 0x90104 => some (word (packed 8 [m.badMac.toNat, m.oldSeq.toNat, m.stray.toNat, m.refusedErr.toNat]))
  | 0x90108 => some m.grants
  | _ => none

/-- The cones and margins block. -/
def readCones (s : State) (o : Nat) : Option Word :=
  let c := s.cone
  match o with
  | 0xA0000 => some (wordOf [(c.winStart, 0), (c.winLen, 16)])
  | 0xA0004 => some (wordOf [(c.floor, 0), (c.reportH, 8)])
  | 0xA0008 => some (wordOf [(b2n c.round, 0), (b2n (allKilns.any fun k => (s.coneKiln k).overdue), 1), (s.measuringKiln.getD 0x7F, 8),
      (s.activeKilns.length, 16), (s.sparesLeft, 24)])
  | 0xA000C => some s.regConeCapacity
  | 0xA0010 => some (wordOf [(c.sparesYrs.toNat, 0), (c.cap75Yrs.toNat, 16)])
  | 0xA0014 => some (c.irq.setWidth 32)
  | _ => match blockAt 0xA1000 0x10 68 o, blockAt 0xA2000 8 4 o with
    | some (k, 0), _ => let x := s.coneKiln k
        some (wordOf [(x.fmax.toNat, 0), (x.vmin.toNat, 8), (x.rodeg.toNat, 16)])
    | some (k, 4), _ => some (wordOf [((s.coneKiln k).hours.toNat, 0), ((s.coneKiln k).count.toNat, 16)])
    | some (k, 8), _ => let x := s.coneKiln k
        some (wordOf [(x.years.toNat, 0), (b2n x.canary, 16), (b2n x.due, 17)])
    | _, some (j, 0) => some (wordOf [((s.coneBlock j).rodeg.toNat, 0), (b2n (s.coneBlock j).canary, 16)])
    | _, some (j, 4) => some ((s.coneBlock j).years.setWidth 32)
    | _, _ => none

/-! ## Power, clocks, modes; custodians (R360, R475, R480) -/

/-- MOD_STAT.ENT_WAIT: the boot waits for entropy READY before its step 7 (R469). -/
def entWait (s : State) : Bool := s.sys.mode == .boot && s.sys.bootStep = 6 && !s.ent.ready

/-- Domain `d` of R475 is on; the power-up of the others is over with boot step 1. (DESIGN CHOICE, log 140) -/
def domainOn (s : State) (d : Nat) : Bool :=
  if d < 68 then kilnOn (s.kiln d).state else decide (d ≤ 90) && s.sys.mode != .dormant && decide (1 ≤ s.sys.bootStep)

/-- CUS_p_STAT. -/
def regCusPort (s : State) (p : Nat) : Word :=
  let c := s.cusPort p
  wordOf [(b2n c.present, 0), (b2n c.powered, 1), (b2n c.classA, 2), (cardCode c.state, 3), (cardResultCode c.last, 8)]

/-- The power, clocks and modes block. -/
def readModes (s : State) (o : Nat) : Option Word :=
  let m := s.sys
  match o with
  | 0xB0000 => some (wordOf [(modeCode m.mode, 0), (modeCode m.prev, 4), (m.cause.toNat, 8), (m.bootStep, 16), (b2n s.entWait, 20)])
  | 0xB0004 => some (wordOf [(m.lastReset.toNat, 0), (m.warmCause.toNat, 4), (m.boots.toNat, 16)])
  | 0xB0008 => some (m.bootMs.setWidth 32)
  | 0xB000C => some (wordOf [(b2n m.parkEnable, 0), (m.minAwake, 8)])
  | 0xB0010 => some s.regPwrStat
  | 0xB0014 | 0xB0018 | 0xB001C => some (wordBits fun j => s.domainOn (8 * (o - 0xB0014) + j))
  | 0xB0020 => some (wordOf [(m.pll.toNat, 0), (b2n (m.refclkOk && !(s.alarmLive 21)), 8), (b2n m.mrclkOk, 9), (b2n (m.xtalOk && !(s.alarmLive 22)), 10)])
  | 0xB0024 => some (loWord m.rtc.toNat)
  | 0xB0028 => some m.rtcHi
  | 0xBE000 => some (s.regCusPort 0)
  | 0xBE010 => some (s.regCusPort 1)
  | 0xBE020 =>
    let c := s.cus.cer
    some (wordOf [(c.kind, 0), (c.step, 4), (c.saggar, 8), (c.aSet.shares.length, 16), (if c.bootstrap then 0 else c.aSet.m, 21)])
  | 0xBE024 => some (word (packed 16 [s.cus.fail0.toNat, s.cus.fail1.toNat]))
  | _ => none

/-! ## DMA channels (R511) -/

/-- A channel's block. -/
def readDmaReg (s : State) (c o : Nat) : Option Word :=
  let x := s.chan c
  match o with
  | 0x00 => some (wordOf [(b2n x.enable, 0), (x.pollUs.toNat, 8), (x.log2, 16)])
  | 0x04 => some (wordOf [(x.fn, 0), (b2n x.lent, 15), (x.prioMax, 16)])
  | 0x08 => some (loWord x.ring.toNat)
  | 0x0C => some (hiWord x.ring.toNat)
  | 0x10 => some (word x.index)
  | 0x14 => some (wordOf [(dmaCode x.state, 0), (x.lastCause.toNat, 4)])
  | 0x18 => some x.done
  | 0x1C => some x.bad
  | _ => none

/-! ## Routing, key cache and key store (R244, R266) -/

/-- A routing grant and a table of it (R250, R251). -/
def regGrant (s : State) (k : Nat) : Word :=
  match (s.grant k).saggar with
  | some g => wordOf [(g, 0), ((s.grant k).filter.toNat, 8), (1, 31)]
  | none => 0
def regTable (s : State) (k len : Nat) : Word :=
  match mget none (s.grant k).live len with
  | some t => wordOf [(t.base, 0), (t.log2n, 18), (1, 31)]
  | none => 0

/-- PRT_SEG_STAT of the segment PRT_SEG_SEL names; LIVE counts the entries that lookups see. -/
def regSegStat (s : State) : Word :=
  let g := s.segment s.routing.segSel.toNat
  if g.state == .free then 0 else wordOf [(segCode g.state, 0), (b2n g.hash, 2), (g.saggar, 8), (g.live.length, 16)]

/-- PRT_SAG_s and KST_SAG_s blocks. -/
def readPrtSag (s : State) (g o : Nat) : Option Word :=
  let x := s.saggar g
  match o with
  | 0x0 => some (if x.state == .none then 0 else word (polSegQuota (x.pol.record 0)))
  | 0x4 => some (word (s.routing.segments.filter fun e => e.2.state != .free && e.2.saggar = g).length)
  | 0x8 => some (wordOf [(x.ksetBase, 0), (x.ksetCount, 16)])
  | 0xC => some (word (s.routing.rows.filter fun r => r.saggar = g).length)
  | _ => none

/-- A saggar's key store block; that of a saggar in state NONE reads zero. -/
def readKstSag (s : State) (g o : Nat) : Option Word :=
  let x := s.saggar g
  let v : Option Word := match o with
    | 0x00 => some (wordOf ((sagCode x.state, 0) :: (List.range 16).map fun j => (b2n (mget none x.slots j).isSome, 16 + j)))
    | 0x04 => some (wordOf [(x.baseK, 0), (x.sizeK, 16)])
    | 0x08 => some (word x.cacheQuota)
    | 0x0C => some (word x.residence.length)
    | 0x10 => some (wordOf [(x.extQuota, 0), ((s.extsUsed g).length, 16)])
    | 0x14 => some (wordOf [(x.pol.bepochs.current.toNat, 0), (x.pol.bepochs.oldest.toNat, 16)])
    | 0x18 => some x.wraps
    | 0x1C => some (wordOf [(x.revoked.length, 0), (x.origs.length, 16), (x.hosts.length, 24)])
    | _ => none
  if x.state == .none then v.map fun _ => 0 else v

/-- KST_STAT: hearth, master slots loaded, saggars ACTIVE. -/
def regKstStat (s : State) : Word :=
  wordOf [(s.keys.hearth.toNat, 0), (((s.keys.saggars.map fun e => (e.2.slots.filter fun x => x.2.isSome).length)).sum, 8),
          ((s.keys.saggars.filter fun e => e.2.state == .active).length, 23)]

/-- The routing table and key cache control block. -/
def readRouting (s : State) (o : Nat) : Option Word :=
  let r := s.routing
  let k := s.keys
  match o with
  | 0xD0000 => some (wordOf [(r.rows.length, 0), (s.lockedSegments fun _ => true, 17),
      (((List.range 8).filter fun k => (s.grant k).saggar.isSome).length, 24)])
  | 0xD0004 => some (r.lockMaxMs.setWidth 32)
  | 0xD0008 => some 0
  | 0xD000C => some (wordOf [(b2n r.busy, 0), (r.result.toNat, 1), (r.failed, 8)])
  | 0xD0010 => some (r.segSel.setWidth 32)
  | 0xD0014 => some s.regSegStat
  | 0xD0020 => some r.routed
  | 0xD0024 => some r.noRoute
  | 0xD0028 => some r.malformed
  | 0xD2000 => some (word k.cache.length)
  | 0xD2004 => some (word ((k.cache.map fun e => (e.2.map (·.pins)).getD 0).sum))
  | 0xD2010 => some k.hit
  | 0xD2014 => some k.miss
  | 0xD2018 => some k.relearn
  | 0xD201C => some k.evict
  | 0xD2020 => some k.full
  | 0xD2024 => some k.retry
  | 0xDC000 => some s.regKstStat
  | _ =>
    match blockAt 0xD0100 4 8 o, blockAt 0xD0200 0x20 8 o, blockAt 0xD1000 0x10 256 o, blockAt 0xD3000 4 256 o, blockAt 0xD8000 0x40 256 o with
    | some (k, 0), _, _, _, _ => some (s.regGrant k)
    | _, some (k, x), _, _, _ => if x % 4 = 0 ∧ x < 0x1C then some (s.regTable k (x / 4 + 6)) else none
    | _, _, some (g, x), _, _ => s.readPrtSag g x
    | _, _, _, some (g, 0), _ => some (word (b2n ((s.saggar g).state != .none && polEvictRandom ((s.saggar g).pol.record 0))))
    | _, _, _, _, some (g, x) => s.readKstSag g x
    | _, _, _, _, _ => none

/-! ## The BAR maps (R53, R55) -/

/-- BAR sizes, and the stride of the VF BAR0 aperture (R53, R55). -/
def pfBarSize : Nat := 0x100000
def vfBarSize : Nat := 0x4000
def vfBarAt (n : Nat) : Nat := (n - 1) * vfBarSize

/-- A device register, the same through every PF and from inside (R31, R53). -/
def readGlobal (s : State) (o : Nat) : Option Word :=
  if o < 0x100 then s.readHif o
  else if o < 0x4000 then none
  else if o < 0x10000 then s.readSetter o
  else if o < 0x30000 then (blockAt 0x10000 0x400 68 o).bind fun b => s.readKiln b.1 b.2
  else if o < 0x40000 then s.readWheels o
  else if o < 0x50000 then s.readLog o
  else if o < 0x60000 then s.readFaults o
  else if o < 0x70000 then s.readTamper o
  else if o < 0x80000 then s.readEntropy o
  else if o < 0x90000 then s.readLcc o
  else if o < 0xA0000 then s.readMirror o
  else if o < 0xB0000 then s.readCones o
  else if o < 0xC0000 then s.readModes o
  else if o < 0xD0000 then (blockAt 0xC0000 0x100 32 o).bind fun b => s.readDmaReg b.1 b.2
  else if o < 0xE0000 then s.readRouting o
  else none

/-- A register of PF `i`'s own blocks: function window, mailboxes, rings, doorbells, MSI-X. -/
def readPfOwn (s : State) (i o : Nat) : Option Word :=
  if o = 0x100 then some ((s.port (s.portOf i)).fnSel.setWidth 32)
  else if 0x200 ≤ o ∧ o < 0x244 then (s.windowFn i).bind fun w => if o < 0x220 then s.readFn w (o - 0x200) else readDpl (s.fn w).dpl o
  else match blockAt 0x1000 0x200 8 o, blockAt 0x2000 0x100 8 o, blockAt 0x2800 0x100 8 o, blockAt 0xF0000 0x10 256 o, blockAt 0xF1000 4 8 o with
    | some (k, x), _, _, _, _ => s.readBox i k x
    | _, some (q, x), _, _, _ => s.readRing i q x
    | _, _, some (_, x), _, _ => readDoorbell x
    | _, _, _, some (e, x), _ => s.readMsix i e x
    | _, _, _, _, some (w, 0) => some (s.readPba i w)
    | _, _, _, _, _ => none

/-- A register of VF `i`. -/
def readVf (s : State) (i o : Nat) : Option Word :=
  match blockAt 0 0x100 8 o, blockAt 0x800 0x100 8 o, blockAt 0x1000 0x200 1 o, blockAt 0x2000 0x10 16 o, blockAt 0x2800 4 2 o with
  | some (q, x), _, _, _, _ => s.readRing i q x
  | _, some (_, x), _, _, _ => readDoorbell x
  | _, _, some (k, x), _, _ => s.readBox i k x
  | _, _, _, some (e, x), _ => s.readMsix i e x
  | _, _, _, _, some (w, 0) => some (s.readPba i w)
  | _, _, _, _, _ => if 0x3000 ≤ o then s.readFn i (o - 0x3000) else none

/-- What a read at `o` of function `i`'s BAR returns; none at an unmapped offset. An offset without a register of its own is unmapped,
whether or not a rule lists it. (DESIGN CHOICE, log 140) -/
def regRead (s : State) (i o : Nat) : Option Word :=
  if s.isPf i then (s.readPfOwn i o).or (s.readGlobal o) else s.readVf i o

end State

end Sys2Proof.Machine
end

