-- ==== Sys2Proof/Machine/ConfigSpace.lean ====
section
/-! DEFINITION. What the configuration space of a function says of it (R46, R47): identifiers, class code and the settings of its
capabilities. The spec places only the vendor identifier, at offset 0x00; the items stand under their names, and none stands for a
capability that the host port does not expose. -/

namespace Sys2Proof.Machine

/-- The items of R46 and R47. -/
inductive ConfigItem where
  | vendorId | deviceId | classCode
  | maxPayload | maxReadRequest
  | msixVectors
  | totalVfs | firstVfOffset | vfStride | numVfs
  | aerSeverity
  | serialLo | serialHi
  | ideStreams
  | flrTimeMs
  | d3hot
  deriving DecidableEq, Repr

namespace State

/-- The value of an item for function `i`. -/
def configRead (s : State) (i : Nat) (x : ConfigItem) : Nat :=
  let p := s.port (s.portOf i)
  match x with
  | .vendorId => Config.vendorId.toNat
  | .deviceId => if s.isPf i then Config.pfDeviceId else Config.vfDeviceId
  | .classCode => Config.classCode
  | .maxPayload => Config.maxPayload
  | .maxReadRequest => Config.maxReadRequest
  | .msixVectors => if s.isPf i then 256 else 16
  | .totalVfs => s.totalVfs
  | .firstVfOffset => 1
  | .vfStride => 1
  | .numVfs => p.numVfs
  | .aerSeverity => p.aerSeverity.toNat
  | .serialLo => (loWord Config.uid.toNat).toNat
  | .serialHi => (hiWord Config.uid.toNat).toNat
  | .ideStreams => 5
  | .flrTimeMs => Config.flrReadyMs
  | .d3hot => b2n p.d3hot

/-- The first dword of the configuration header: the vendor identifier at offset 0x00, the device identifier above it (R47). The upper
half is where PCIe has it. (PRESUMED, log 25) -/
def configId (s : State) (i : Nat) : Word := wordOf [(s.configRead i .vendorId, 0), (s.configRead i .deviceId, 16)]

end State

end Sys2Proof.Machine
end

