-- ==== Sys2Proof/Machine/Registers.lean ====
section
/-! DEFINITION. Reads of registers, with what a read of an RC field or of CLK_RTC_LO changes, and writes to registers (R10, R54, R69,
R97, R313, R480 and the register tables). -/

namespace Sys2Proof.Machine

/-- The low or the high word of a 64-bit address register whose lowest `2 ^ align` bytes are reserved. -/
def putLo (a : Addr) (align v : Nat) : Addr := BitVec.ofNat 64 (a.toNat / 2 ^ 32 * 2 ^ 32 + v / 2 ^ align * 2 ^ align)
def putHi (a : Addr) (v : Nat) : Addr := BitVec.ofNat 64 (v * 2 ^ 32 + a.toNat % 2 ^ 32)

namespace State

/-! ## What a read changes (R10, R480) -/

/-- A read of the RC register at `o` of a function's own blocks, whose ring blocks and mailboxes stand at `rings` and `boxes`. -/
def rcOwn (s : State) (i rings boxes n o : Nat) : Option State :=
  match blockAt rings 0x100 8 o, blockAt boxes 0x200 n o with
  | some (q, 0x34), _ => some (s.modRing i q fun r => { r with dropped := 0 })
  | _, some (k, 0x00C) => some (s.modBox i k fun b => { b with dropped := 0 })
  | _, _ => none

/-- A read of FN_STALE_CNT of a function. -/
def rcStale (s : State) (i : Nat) : State := s.modFn i fun f => { f with staleCnt := 0 }

/-- A read of a device register: RC fields are cleared, and CLK_RTC_LO latches CLK_RTC_HI. -/
def rcGlobal (s : State) (o : Nat) : State :=
  match o with
  | 0x40010 => s.modLog fun l => { l with dropped := 0 }
  | 0x40014 => s.modLog fun l => { l with skipped := 0 }
  | 0x60028 => s.modTmp fun t => { t with fabric := 0, decision := 0 }
  | 0x70014 => s.modEnt fun e => { e with waits := 0 }
  | 0x70018 => s.modEnt fun e => { e with refused := 0 }
  | 0x9001C => s.modMir fun m => { m with badTag := 0, order := 0, nack := 0, peerErr := 0 }
  | 0x90104 => s.modMir fun m => { m with badMac := 0, oldSeq := 0, stray := 0, refusedErr := 0 }
  | 0x90108 => s.modMir fun m => { m with grants := 0 }
  | 0xB0024 => s.modSys fun m => { m with rtcHi := hiWord m.rtc.toNat }
  | 0xBE024 => s.modCus fun c => { c with fail0 := 0, fail1 := 0 }
  | 0xD0020 => s.modRouting fun r => { r with routed := 0 }
  | 0xD0024 => s.modRouting fun r => { r with noRoute := 0 }
  | 0xD0028 => s.modRouting fun r => { r with malformed := 0 }
  | 0xD2010 => s.modKeys fun k => { k with hit := 0 }
  | 0xD2014 => s.modKeys fun k => { k with miss := 0 }
  | 0xD2018 => s.modKeys fun k => { k with relearn := 0 }
  | 0xD201C => s.modKeys fun k => { k with evict := 0 }
  | 0xD2020 => s.modKeys fun k => { k with full := 0 }
  | 0xD2024 => s.modKeys fun k => { k with retry := 0 }
  | _ => match blockAt 0x9000 0x40 256 o, blockAt 0xC0000 0x100 32 o with
    | some (g, 0x18), _ => when_ ((s.saggar g).state != .none) (fun s => s.modSaggar g fun x => { x with demoted := 0 }) s
    | _, some (c, 0x1C) => s.modChan c fun x => { x with bad := 0 }
    | _, _ => s

/-- What a read at `o` of a function's BAR changes. A VF's read of its own FN_STALE_CNT clears it as the PF's does. (DESIGN CHOICE, log 131) -/
def rcRead (s : State) (i o : Nat) : State :=
  if s.isPf i then
    if o = 0x208 then match s.windowFn i with
      | some w => s.rcStale w
      | none => s
    else (s.rcOwn i 0x2000 0x1000 8 o).getD (s.rcGlobal o)
  else if o = 0x3008 then s.rcStale i else (s.rcOwn i 0 0x1000 1 o).getD s

/-- A BAR read: the register, then what the read changes; zero and a violation at an unmapped offset (R10, R69); zero while an FLR of the
function runs (R59). -/
def barRead (s : State) (i o : Nat) : State :=
  match s.answers i, s.regRead i o with
  | true, some v => (s.rcRead i o).barAnswer i o v
  | _, _ => s.refusedAccess i violUnmapped true o

/-! ## Writes to a function's own registers -/

/-- A write to the ring register at `o` of a ring block (R97). (DESIGN CHOICE, log 28) -/
def ringWrite (s : State) (i q o v : Nat) : State :=
  s.modRing i q fun r =>
    let off := r.state == .disabled
    match o with
    | 0x00 => if bitAt v 0 then r else { ringConfig r v with enable := false }
    | 0x04 => if off then { r with sqBase := putLo r.sqBase 12 v } else r
    | 0x08 => if off then { r with sqBase := putHi r.sqBase v } else r
    | 0x0C => if off then { r with cqBase := putLo r.cqBase 12 v } else r
    | 0x10 => if off then { r with cqBase := putHi r.cqBase v } else r
    | 0x14 => { r with shadow := putLo r.shadow 6 v }
    | 0x18 => { r with shadow := putHi r.shadow v }
    | 0x28 => { r with coalCount := field v 0 7, coalTime := field v 8 7 }
    | _ => r

/-- A write to the data window of a mailbox (R313). -/
def boxWrite (s : State) (i k o v : Nat) : State :=
  if 0x40 ≤ o ∧ o < 0x200 ∧ o % 4 = 0 then
    s.modBox i k fun b =>
      if b.state == .idle || b.state == .done then
        { b with data := (padTo 448 b.data).take (o - 0x40) ++ leBytes v 4 ++ (padTo 448 b.data).drop (o - 0x40 + 4) }
      else { b with dropped := satInc b.dropped }
  else s

/-- A write to an entry of the MSI-X table: address, data, mask. (PRESUMED, log 25) -/
def msixWrite (s : State) (i e o v : Nat) : State :=
  let put := fun (f : MsixEntry → MsixEntry) => s.modFn i fun x => { x with msix := mmod {} x.msix e f }
  match o with
  | 0x0 => put fun x => { x with addr := putLo x.addr 2 v }
  | 0x4 => put fun x => { x with addr := putHi x.addr v }
  | 0x8 => put fun x => { x with data := BitVec.ofNat 32 v }
  | 0xC => if bitAt v 0 then put fun x => { x with masked := true } else s.unmask i e
  | _ => s

/-- W1C of FN_VIOL and FN_IRQ_CAUSE of function `w`. (DESIGN CHOICE, log 110) -/
def causeWrite (s : State) (w o v : Nat) : Option State :=
  match o with
  | 0x0C => some (s.modFn w fun f => { f with viol := w1c f.viol v })
  | 0x18 => some (s.modFn w fun f => { f with irqCause := w1c f.irqCause v })
  | _ => none

/-- A write of FN_DPL_CTL: an ENABLE that rises finds no cached word, for the bitmap was zeroed before it (R62). (DESIGN CHOICE, log 97) -/
def Dpl.control (d : Dpl) (enable select : Bool) : Dpl :=
  let d := if enable && !d.enable then { d with cache := [] } else d
  { d.choose select with enable := enable }

/-- A bitmap's base changes: words cached of the former place are none of it. (DESIGN CHOICE, log 97) -/
def Dpl.moved (d : Dpl) (b : Bool) : Dpl := { d with cache := d.cache.filter fun e => e.1.1 != b }

/-- A field of the dirty-page logging registers; SWITCHED is RO. -/
def dplField (d : Dpl) (o v : Nat) : Option Dpl :=
  match o with
  | 0x220 => some (Dpl.control d (bitAt v 0) (bitAt v 1))
  | 0x224 => some { d with outside := d.outside && !bitAt v 1, readErr := d.readErr && !bitAt v 2 }
  | 0x228 => some { Dpl.moved d false with bmp0 := putLo d.bmp0 12 v }
  | 0x22C => some { Dpl.moved d false with bmp0 := putHi d.bmp0 v }
  | 0x230 => some { Dpl.moved d true with bmp1 := putLo d.bmp1 12 v }
  | 0x234 => some { Dpl.moved d true with bmp1 := putHi d.bmp1 v }
  | 0x238 => some { d with win := putLo d.win 12 v }
  | 0x23C => some { d with win := putHi d.win v }
  | 0x240 => some { d with pages := BitVec.ofNat 28 v }
  | _ => none

/-- A write through a PF's function window (R54, R69). (DESIGN CHOICE, log 110) -/
def windowWrite (s : State) (i o v : Nat) : State :=
  match s.windowFn i with
  | none => s.violation i violUnmapped
  | some w => match s.causeWrite w (o - 0x200) v, dplField (s.fn w).dpl o v with
    | some t, _ => t
    | none, none => when_ (o = 0x214 && bitAt v 0) (fun s => s.modFn w fun f => { f with quarantined := false }) s
    | none, some d => s.globalWrite i fun s => (s.modFn w fun f => { f with dpl := d }).service w

/-- A write to a PF's own blocks; none where `o` is not among them. -/
def pfWrite (s : State) (i o v : Nat) : Option State :=
  if o = 0x100 then some (s.modPort (s.portOf i) fun p => { p with fnSel := BitVec.ofNat 10 v })
  else if 0x200 ≤ o ∧ o < 0x244 then some (s.windowWrite i o v)
  else match blockAt 0x1000 0x200 8 o, blockAt 0x2000 0x100 8 o, blockAt 0xF0000 0x10 256 o with
    | some (k, x), _, _ => some (s.boxWrite i k x v)
    | _, some (q, x), _ => some (s.ringWrite i q x v)
    | _, _, some (e, x) => some (s.msixWrite i e x v)
    | _, _, _ => none

/-- A write to a VF's registers. -/
def vfWrite (s : State) (i o v : Nat) : State :=
  match blockAt 0x1000 0x200 1 o, blockAt 0 0x100 8 o, blockAt 0x2000 0x10 16 o with
  | some (k, x), _, _ => s.boxWrite i k x v
  | _, some (q, x), _ => s.ringWrite i q x v
  | _, _, some (e, x) => s.msixWrite i e x v
  | _, _, _ => (s.causeWrite i (o - 0x3000) v).getD s

/-! ## Writes to device-global registers (R54) -/

/-- A write to a register of a lent DMA channel (R501, R502, R510, R511). -/
def dmaWrite (s : State) (c o v : Nat) : State :=
  let off := (s.chan c).state == .disabled
  if !(dmaChan c) || !(s.chan c).lent then s
  else match o with
    | 0x00 => if bitAt v 0 then s.dmaEnable c v else
        let s := s.modChan c fun ch =>
          { ch with pollUs := BitVec.ofNat 8 (field v 8 8), log2 := if off then clamp 4 12 (field v 16 4) else ch.log2 }
        when_ (s.chan c).enable (fun s => s.dmaStop c) s
    | 0x08 => if off then s.modChan c fun ch => { ch with ring := putLo ch.ring 6 v } else s
    | 0x0C => if off then s.modChan c fun ch => { ch with ring := putHi ch.ring v } else s
    | _ => s

/-- A write to FLT_b_REACT_i (R420, R421). -/
def reactWrite (s : State) (b i v : Nat) : State :=
  if faultSev b i = 0 || !(s.bankLive b) then s
  else (s.modBank b fun x => { x with react := minsert x.react i (BitVec.ofNat 5 v) }).errPin

/-- A write to the device register at `o`, with the clamps of its table; none where `o` holds no writable field, or one whose write
starts a reset or a lifecycle transition, which its own row makes (TMP_CTL, FLT_CTL, LCC_XSTATE). (DESIGN CHOICE, log 104) -/
def globalReg (s : State) (o v : Nat) : Option State :=
  match o with
  | 0x18 => some (s.setViolLimit v)
  | 0x4000 => some (s.modSetter fun t => { t with quantum := BitVec.ofNat 12 (max 1 (field v 0 12)) })
  | 0x4004 => some (s.modSetter fun t =>
      { t with slack := BitVec.ofNat 5 v, kqLimit := max 16 (field v 8 7), preemptMax := max 1 (field v 16 4) })
  | 0x4010 => some (when_ (bitAt v 0) takeSnapshot s)
  | 0x40018 => some (s.modLog fun l => { l with irq := w1c l.irq v })
  | 0x40020 => some (s.modLog fun l => { l with periodMs := max 10 (field v 0 12), paceUs := max 1 (field v 16 12) })
  | 0x40024 => some (s.modLog fun l => { l with rate := max 1 (field v 0 8), burst := max (max 1 (field v 0 8)) (field v 8 16) })
  | 0x5E004 | 0x60004 | 0x80008 => some s
  | 0x60010 => some (s.clearAlarm v)
  | 0x70004 => some (s.modEnt fun e => { e with waitMs := min 1000 (field v 0 10) })
  | 0x70008 => some (s.reseedWrite v)
  | 0x7000C => some (s.modEnt fun e => { e with irq := w1c e.irq v })
  | 0x80010 => some (s.modLcc fun l => { l with token := l.token.set 0 (word v) })
  | 0x80014 => some (s.modLcc fun l => { l with token := l.token.set 1 (word v) })
  | 0x80018 => some (s.modLcc fun l => { l with token := l.token.set 2 (word v) })
  | 0x8001C => some (s.modLcc fun l => { l with token := l.token.set 3 (word v) })
  | 0x9000C => some (s.modMir fun m => { m with warmKilns := clamp 1 64 (field v 0 7) })
  | 0x90020 => some (s.modMir fun m => { m with irq := w1c m.irq v })
  | 0xA0014 => some (s.modCone fun c => { c with irq := w1c c.irq v })
  | 0xB000C => some (s.modSys fun m => { m with parkEnable := bitAt v 0, minAwake := clamp 1 64 (field v 8 7) })
  | 0xD0004 => some (s.modRouting fun r => { r with lockMaxMs := BitVec.ofNat 16 (max 1 (field v 0 16)) })
  | 0xD0008 => some (prtWrite s v)
  | 0xD0010 => some (s.modRouting fun r => { r with segSel := BitVec.ofNat 18 v })
  | _ => match blockAt 0x5000 0x80 64 o, blockAt 0x50000 0x200 100 o, blockAt 0x60100 4 40 o, blockAt 0xC0000 0x100 32 o with
    | some (g, 0), _, _, _ => some (s.modSetter fun t => { t with weights := mset 1 t.weights g (max 1 (field v 0 8)) })
    | _, some (b, 0), _, _ => some (s.clearSticky b v)
    | _, some (b, x), _, _ => if 0x100 ≤ x ∧ x < 0x180 ∧ x % 4 = 0 then some (s.reactWrite b ((x - 0x100) / 4) v) else none
    | _, _, some (_, 0), _ => some (s.tamperConfig o v)
    | _, _, _, some (c, x) => if x = 0 ∨ x = 8 ∨ x = 0xC then some (s.dmaWrite c x v) else none
    | _, _, _, _ => none

/-- A BAR write at `o`: unmapped offsets and a non-owner's write to a writable device field are violations; a write to a register
whose every field is RO has no effect (R10, R54, R55, R69). (DESIGN CHOICE, log 104) -/
def regWrite (s : State) (i o v : Nat) : State :=
  if (s.regRead i o).isNone then s.violation i violUnmapped
  else if !(s.isPf i) then s.vfWrite i o v
  else match s.pfWrite i o v with
    | some t => t
    | none => if (s.globalReg o v).isSome then s.globalWrite i fun s => (s.globalReg o v).getD s else s

end State

/-! ## The commands -/

/-- A read of CLK_RTC_LO by a PF: the low word, and CLK_RTC_HI latched (R480). A VF maps no such register. -/
def execRtcLoRead (fn : Nat) (s : State) : Res := onUnit s (fnUnit fn) (s.barRead fn 0xB0024)

/-- A read of a register: an RC field is then cleared (R10). -/
def execRcRegisterRead (fn offset : Nat) (s : State) : Res := onUnit s (fnUnit fn) (s.barRead fn offset)

/-- A BAR access to an offset that is unmapped, or that a non-owner PF may not write (R54, R69). One that is neither is an ordinary
access. -/
def execBarUnmappedAccess (fn : Nat) (read : Bool) (offset : Nat) (s : State) : Res :=
  onUnit s (fnUnit fn) (
    if read then s.barRead fn offset
    else if (s.regRead fn offset).isSome && !(s.isPf fn && (s.globalReg offset 0).isSome && s.host.split && s.host.ownerB != decide (fn = 512)) then s
    else s.refusedAccess fn violUnmapped false offset)

/-- A write to a register (R10). -/
def execRegisterWrite (fn offset : Nat) (value : Word) (s : State) : Res :=
  onUnit s (fnUnit fn) (atFn fn (fun s => s.regWrite fn offset value.toNat) s)

end Sys2Proof.Machine
end

