-- ==== Sys2Proof/Machine/Maint.lean ====
section
/-! DEFINITION. The SMBus port (R532), the JTAG_ port and the factory test modes (R493, R494), the power of the backup domain (R522,
R523), and the wait for the control DRBG (R316). -/

namespace Sys2Proof.Machine

namespace State

/-! ## SMBus (R532) -/

/-- The port answers from boot step 2 until DORMANT (R532). (PRESUMED, log 105) -/
def smbusLive (s : State) : Bool := s.sys.mode != .dormant && decide (2 ≤ s.sys.bootStep)

/-- A Block Read of a listed command; a NAK before boot step 2. -/
def smbusRead (s : State) (v : Word) : State := s.emit (.smbus (if s.smbusLive then some v else none))

/-- SMB_ALERT_N is asserted: ALERT_N or ERR_OUT_N is (R396, R429, R532). (PRESUMED, log 105) -/
def smbusAlerting (s : State) : Bool := s.tmp.alarm != 0 || s.flt.errOut

/-! ## JTAG_ (R493) -/

/-- The level the port is open at; Dramel opens it at boot step 3. (DESIGN CHOICE, log 106) -/
def jtagLevel (s : State) : Option Nat :=
  if s.sys.mode == .dormant || s.sys.bootStep < 3 then none else some (lcReach s.lcc.state)

/-- A JTAG_ operation that needs level `n`; below it nothing is reached and nothing is shifted out. -/
def atJtag (s : State) (n : Nat) (f : State → State) : State :=
  if s.jtagLevel.any fun l => decide (n ≤ l) then f s else s.emit (.jtag none)

/-- An instruction other than EXTEST returns the balls to the device's function. -/
def scanEnds (s : State) : State := s.modLcc fun l => { l with extest := false }

/-- Core debug reaches what Kazkel reaches (R36, R493). (DESIGN CHOICE, log 106) -/
def kazkelReaches (s : State) (a : Nat) (write : Bool) : Bool := s.reaches .kazkel a write

/-- An address that some column of R36 reaches, which full reach reaches: the columns together. (DESIGN CHOICE, log 106) -/
def inWindow (a : Nat) : Bool := targetAt a != .nothing && !(decide (0xB0000000 ≤ a ∧ a < 0xC0000000))

/-- Memory whose bytes the state holds (R32). (DESIGN CHOICE, log 106) (DESIGN CHOICE, log 115) -/
def heldAt (s : State) (a : Nat) : Bool :=
  match targetAt a with
  | .segment _ | .stagingPage _ | .operandPage _ => true
  | .ringQueue | .glazeImages | .mirrorStaging | .working => (s.sealOf (a / 64)).isSome
  | _ => false

/-- Memory that a debug write changes. (DESIGN CHOICE, log 106) -/
def takesWrite (a : Nat) : Bool :=
  match targetAt a with
  | .segment _ | .stagingPage _ | .operandPage _ | .ringQueue | .glazeImages | .mirrorStaging | .working => true
  | _ => false

/-- A write through the fabric: memories, and device registers as their Access column states; nothing where the model holds no contents.
(DESIGN CHOICE, log 106) -/
def fabricWrite (s : State) (a : Nat) (v : Word) : State :=
  if takesWrite a then s.dmaPutAll a (leBytes v.toNat 4)
  else if targetAt a == .registers then
    (match s.regRead 0 (a % 0x100000), s.pfWrite 0 (a % 0x100000) v.toNat with
     | none, _ => s.occur 1 0 none
     | some _, some t => t
     | some _, none => (s.globalReg (a % 0x100000) v.toNat).getD s)
  else s

/-- A read through the fabric: memories under their owner tag, a failing tag gives no data and TAG_FAIL in the stack's bank (R35);
device registers, with what the read changes; the recorder's ring; elsewhere free bytes. (DESIGN CHOICE, log 106) -/
def fabricRead (s : State) (a : Nat) : State :=
  let answer := fun (s : State) (n : Nat) => s.emit (.jtag (some n))
  if s.heldAt a then
    if s.tagPasses a then answer s (leNat ((List.range 4).map fun k => s.dmaRead (a + k)))
    else answer (s.occur (dmaTargetBank a) 4 none) 0
  else match targetAt a with
    | .registers => (match s.regRead 0 (a % 0x100000) with
        | some v => answer (s.rcRead 0 (a % 0x100000)) v.toNat
        | none => answer (s.occur 1 0 none) 0)
    | .recorderRing => (match mget none s.log.ring (a % 0x200000 / 64) with
        | some r => answer s (leAt (recBytes r) (a % 64) 4)
        | none => (s.drew 4).emit (.jtag (some (leNat (s.fresh 4)))))
    | _ => answer (s.drew 4) (leNat (s.fresh 4))

/-- A memory access of the debug port; outside its reach a read gives zero, a write is dropped, and the target's bank sets ACCESS
(R36). (DESIGN CHOICE, log 106) -/
def jtagAccess (s : State) (a : Nat) (write : Option Word) : State :=
  let reached := if s.jtagLevel == some 3 then inWindow a else s.kazkelReaches a write.isSome
  match reached, write with
  | true, some v => s.fabricWrite a v
  | true, none => s.fabricRead a
  | false, some _ => s.occur (dmaTargetBank a) 0 none
  | false, none => (s.occur (dmaTargetBank a) 0 none).emit (.jtag (some 0))

/-! ## The factory memory test modes (R494) -/

/-- The factory modes are open: full reach, TEST_OPEN or RETURNED. Entry zeroes the store tweak keys, once until the next reset. (DESIGN CHOICE, log 107) -/
def atFactory (s : State) (f : State → State) : State :=
  s.atJtag 3 fun s =>
    if s.lcc.state == .testOpen || s.lcc.state == .returned then
      f (if s.lcc.factory then s else (s.modLcc fun l => { l with factory := true }).storeLost)
    else s.emit (.jtag none)

/-- The array number of OTP in a direct access. (DESIGN CHOICE, log 45) -/
abbrev arrayOtp : Nat := 4

/-- OTP as direct access shows it: ledger slots, then token digests (DESIGN CHOICE, log 45); it can burn nothing. -/
def otpRead (s : State) (a : Nat) : Option Nat :=
  if a < 64 then some ((s.lcc.ledger.map (·.toNat)).getD a 0)
  else if a < 80 then some (leNat (padTo 32 (Config.testTokenDigest (a - 64)))) else none

/-- A direct read or write of an array: what it wrote before reads back, all else is free. No access under an owner tag sees it, for the
tweak keys are zeroed. (DESIGN CHOICE, log 107) -/
def directAccess (s : State) (array a : Nat) (write : Option Word) : State :=
  let free := (s.drew 4).emit (.jtag (some (leNat (s.fresh 4))))
  if array = arrayOtp then
    match write, s.otpRead a with
    | some _, _ => s
    | none, some v => s.emit (.jtag (some v))
    | none, none => free
  else
    match write, s.lcc.arrays.find? fun e => e.1 == (array, a) with
    | some v, _ => s.modLcc fun l => { l with arrays := ((array, a), v) :: l.arrays.filter fun e => e.1 != (array, a) }
    | none, some e => s.emit (.jtag (some e.2.toNat))
    | none, none => free

/-! ## The backup domain (R394, R395, R473, R523) -/

/-- Everything the backup domain keeps is lost; times of the lost RTC count no more. (DESIGN CHOICE, log 61) (DESIGN CHOICE, log 108) -/
def backupLost (s : State) : State :=
  let s := s.modKeys fun k => { k with stored := none }
  let s := s.modSys fun m => { m with rtc := 0, rtcHi := 0, rtcLost := true, backup := false }
  s.modTmp fun t =>
    { t with
      cellResp := 0, cellSource := 0, cellCount := 0, cellCopy := false, factorySeed := true, meshSeeds := [], ring := [], copied := t.last,
      strongOff := none, sources := t.sources.map fun x => { x with offAt := none } }

end State

/-! ## SMBus -/

def execSmbModGlobal (s : State) : Res := onUnit s true (s.smbusRead s.regModGlobal)
def execSmbTmpStat (s : State) : Res := onUnit s true (s.smbusRead s.regTmpStat)
def execSmbTmpAlarmStat (s : State) : Res := onUnit s true (s.smbusRead (s.tmp.alarm.setWidth 32))
def execSmbFltSumStat (s : State) : Res := onUnit s true (s.smbusRead s.regFltSum)
/-- The hottest Tj of any site in bits [15:0]; the sites measure it. -/
def execSmbHottestTj (celsius : Word) (s : State) : Res := onUnit s true (s.smbusRead (wordOf [(field celsius.toNat 0 16, 0)]))
def execSmbPwrStat (s : State) : Res := onUnit s true (s.smbusRead s.regPwrStat)
def execSmbConeCapacity (s : State) : Res := onUnit s true (s.smbusRead s.regConeCapacity)
def execSmbLccStat (s : State) : Res := onUnit s true (s.smbusRead s.regLccStat)

/-- A write, or a command that R532 does not list: a NAK. -/
def execSmbUnlistedCommand (write : Bool) (command : Nat) (s : State) : Res :=
  onUnit s (decide (command < 256)) (when_ (write || !decide (0x10 ≤ command ∧ command ≤ 0x17)) (fun s => s.emit (.smbus none)) s)

/-- A read of the Alert Response Address, which a target answers while it asserts its alert. -/
def execSmbAlertResponse (s : State) : Res :=
  onUnit s true (when_ (s.smbusLive && s.smbusAlerting) (fun s => s.emit (.smbusAlert 0x6C)) s)

/-! ## JTAG_ -/

def execJtagIdcode (s : State) : Res :=
  onUnit s true (s.atJtag 0 fun s => s.scanEnds.emit (.jtag (some (Config.idcode Config.part Config.stepping).toNat)))

/-- BYPASS: one bit between TDI and TDO, which captures 0 (IEEE 1149.1). -/
def execJtagBypass (tdi : Bool) (s : State) : Res :=
  onUnit s true (s.atJtag 0 fun s => s.scanEnds.emit (.jtag (some (2 * b2n tdi))))

/-- SAMPLE; `balls`: the states of the I/O balls that boundary scan reaches. -/
def execJtagSample (balls : Nat) (s : State) : Res :=
  onUnit s true (s.atJtag 1 fun s => s.scanEnds.emit (.jtag (some balls)))

def execJtagPreload (cells : Nat) (s : State) : Res :=
  onUnit s true (s.atJtag 1 fun s => s.scanEnds.modLcc fun l => { l with boundary := cells })

/-- EXTEST drives the balls from the cells and captures `balls`. -/
def execJtagExtest (balls : Nat) (s : State) : Res :=
  onUnit s true (s.atJtag 1 fun s =>
    ((s.emit (.balls s.lcc.boundary)).emit (.jtag (some balls))).modLcc fun l => { l with extest := true })

/-- A control pair halts: it runs no instructions until the next reset. (DESIGN CHOICE, log 106) -/
def State.haltPair (s : State) (p : Nat) : State := s.modLcc fun l => { l with halted := setBit l.halted p }

def execJtagCoreHalt (core : Nat) (s : State) : Res :=
  onUnit s (decide (core < 2)) (s.atJtag 2 fun s => s.haltPair core)

/-- A halted pair executes one instruction of Kazkel, whose program is not the spec's. -/
def execJtagCoreStep (core : Nat) (s : State) : Res :=
  onUnit s (decide (core < 2)) (s.atJtag 2 fun s => s)

/-- A breakpoint is set; where it is set already, it is reached and the pair halts. -/
def execJtagBreakpoint (core address : Nat) (s : State) : Res :=
  onUnit s (decide (core < 2)) (s.atJtag 2 fun s =>
    if s.lcc.breakpoints.contains (core, address) then s.haltPair core
    else s.modLcc fun l => { l with breakpoints := (core, address) :: l.breakpoints })

def execJtagMemoryAccess (address : Nat) (write : Option Word) (s : State) : Res :=
  onUnit s (decide (address < 2 ^ 44)) (s.atJtag 2 fun s => s.jtagAccess address write)

/-- BIST of an array reports pass or fail and returns no data (R494). -/
def execFactoryBist (array : Nat) (passes : Bool) (s : State) : Res :=
  onUnit s (decide (array < 8)) (s.atFactory fun s => s.emit (.jtag (some (b2n passes))))

def execFactoryDirectAccess (array address : Nat) (write : Option Word) (s : State) : Res :=
  onUnit s (decide (array < 5)) (s.atFactory fun s => s.directAccess array address write)

/-! ## The backup domain -/

/-- The backup domain loses all power: with main power off only, since VDD_IO18 supplies it otherwise (R522, R523). (DESIGN CHOICE, log 108) -/
def execBackupDomainPowerLoss (s : State) : Res :=
  onUnit s true (when_ (s.sys.mode == .dormant) State.backupLost s)

/-- VBAT or VDD_IO18 brings the backup domain up; its LFSRs run from the manufacture seed until the first boot (R394). -/
def execBackupCellConnect (s : State) : Res :=
  onUnit s true (when_ (!s.sys.backup) (fun s =>
    (s.modSys fun m => { m with backup := true }).modTmp fun t => { t with factorySeed := true, meshSeeds := [] }) s)

/-! ## The control DRBG -/

/-- The link is at the point of its bring-up or pairing at which a nonce or keys were asked for (R363, R386). -/
def State.linkAwaits (s : State) (step : Nat) : Bool :=
  s.mirrorRuns && (if step = 0 then s.mir.link == .securing || (s.mir.link == .unpaired && s.mir.pairing.step = 1 && s.mir.lanes ≠ 0)
    else s.mir.pairing.step = step)

/-- An operation that waited for the control DRBG goes on, where what it belongs to still stands (R307). (DESIGN CHOICE, log 137) -/
def State.resume1 (s : State) : ControlWait → State
  | .challenge b n => when_ (s.doeLive b) (fun s => s.spdmChallenge b n) s
  | .measurements b i n => when_ (s.doeLive b) (fun s => s.spdmMeasurements b i n) s
  | .keyExchange b k => when_ (s.doeLive b) (fun s => s.spdmKeyExchange b k) s
  | .hello => when_ (s.linkAwaits 0) (fun s => s.sendHello) s
  | .kems => when_ (s.linkAwaits 3) (fun s => s.sendKems) s
  | .mesh => s.reseedMesh
  | .answerKems d => when_ (s.linkAwaits 3) (fun s => s.answerKems d) s
  | .create r => s.standbyCeremony r
  | .tweak o => when_ (s.tweakKey o).isNone (fun s => s.newTweak o) s
  | .nonce g => when_ ((s.saggar g).cnonce.isEmpty) (fun s => s.newNonce g) s
  | .images g ks => when_ (s.holdsSaggar g) (fun s => s.takeMasters g ks) s

/-- Everything that waits for the control DRBG goes on, oldest first, once it serves (R307). -/
def State.resumeWaits (s : State) : State :=
  if s.drbgRefuses controlDrbg then s
  else forEach s.ent.waiting (fun op s => s.resume1 op) (s.modEnt fun e => { e with waiting := [] })

/-- The pool delivers a seed to the first request (R298); the control DRBG's instantiation at boot lets step 7 run, and a
ceremony that waits for its bytes goes on (R316). A failed known-answer test is a fault of the DRBG's bank (R301, R419). -/
def execSeedDeliver (selfTest : Bool) (s : State) : Res :=
  onUnit s true (
    let first := if s.seedReady then s.firstRequest else none
    let t := s.deliverSeed selfTest
    match first with
    | some (_, d) =>
      if (s.drbg d).state == .unseeded && !selfTest then
        (if d = controlDrbg then t.occur 11 8 none else t.occur (kilnBank d) 11 none)
      else t.bootStep7.applyStep.resumeWaits
    | none => t)

/-- 100 ms have passed: the ceremony's step 4, or the mailbox command that needs the control DRBG, LC_CHALLENGE, ends with
ENTROPY_UNAVAILABLE (R316, R357). (DESIGN CHOICE, log 87) -/
def execControlDrbgWaitExpire (ceremony : Bool) (fn mailbox : Nat) (s : State) : Res :=
  onUnit s (boxUnit fn mailbox) (when_ (s.drbgRefuses controlDrbg) (fun s =>
    if ceremony then when_ (decide (s.cus.cer.step = 3)) (fun s => s.finishCeremony Mr.ENTROPY_UNAVAILABLE) s
    else when_ (((s.box fn mailbox).running.any fun r => reqCode r = 0x0A01) && !(s.box fn mailbox).acting)
      (fun s => s.endCommand fn mailbox Mr.ENTROPY_UNAVAILABLE []) s) s)

end Sys2Proof.Machine
end

