-- ==== Sys2Proof/Machine/MboxRoute.lean ====
section
/-! DEFINITION. The mailbox commands of group 0x04: key sets, segments, hash tables (R250 to R256, R329). -/

namespace Sys2Proof.Machine

namespace State

/-- KSET_WRITE (R253). -/
def ksetWrite (s : State) (p : Bytes) : State × Answer :=
  let g := s.saggar (byteAt p 0)
  let n := leAt p 2 2
  let set := slice p 8 64
  let bad := (List.range 16).any fun r => leAt set (4 * r) 4 ≠ 0 && !(g.inRange (leAt set (4 * r) 4))
  if !(decide (g.ksetBase ≤ n ∧ n < g.ksetBase + g.ksetCount)) then (s, .done Mr.NOT_PERMITTED [])
  else if bad then (s, .done Mr.BAD_FIELD [])
  else (s.modRouting fun r => { r with ksets := mset (zeros 64) r.ksets n set }, .done Mr.OK [])

/-- Slots of a segment whose STATUS is not zero. -/
def failedSlots (s : State) (g : Nat) : Nat := ((s.segment g).slots.filter fun e => reStatus e.2 ≠ 0).length

/-- A command of PRT_CMD sent through a mailbox: it waits while one runs, and its answer shows in PRT_CMD_STAT (R256). -/
def segCommand (s : State) (g : Nat) (op : State → State × Nat) : State × Option Nat :=
  if s.routing.busy then (s, none)
  else
    let r := if (s.bank 8).fenced then (s, 2) else op s
    (r.1.modRouting fun t => { t with busySeg := g, result := BitVec.ofNat 3 r.2 }, some r.2)

/-- DESIGN CHOICE, log 82. -/
def segAnswer (g : Nat) (r : State × Option Nat) : State × Answer :=
  match r.2 with
  | none => (r.1, .later)
  | some n => (r.1, .done Mr.OK [byte n, byte (r.1.failedSlots g), 0, 0])

/-- A hash routing grant holds (R250). -/
def granted (s : State) (g : Nat) : Bool := (s.grantOf g).isSome

/-- SEG_ASSIGN (R248). -/
def segAssign (s : State) (g n : Nat) : State × Answer :=
  if s.granted g then (s, .done Mr.NOT_PERMITTED [])
  else if polSegQuota (s.policyOf g) < s.segmentsOf g + n then (s, .done Mr.LIMIT [])
  else
    let free := (List.range 250000).filter fun i => (s.segment i).state == .free
    let got := pickFree n s.freeCtr free
    if got.length < n then (s, .done Mr.POOL_EXHAUSTED [])
    else
      let s := forEach got (fun i s => s.modSegment i fun _ => { state := .idle, saggar := g }) (s.drew n)
      (s, .done Mr.OK (got.flatMap fun i => leBytes i 4))

/-- SEG_RELEASE. (DESIGN CHOICE, log 82) -/
def segRelease (s : State) (i : Nat) : State × Answer :=
  if (s.segment i).state == .idle && (s.segment i).live.isEmpty then (s.modSegment i fun _ => {}, .done Mr.OK [])
  else (s, .done Mr.SEQUENCE [])

/-! ## Hash tables (R251, R252) -/

/-- Every segment of a table goes back to the region. -/
def freeTable (s : State) (g : Nat) (t : HashTable) : State :=
  forEach (List.range (2 ^ t.log2n)) (fun n s =>
    if (s.segment (t.base + n)).saggar = g && (s.segment (t.base + n)).hash then s.modSegment (t.base + n) fun _ => {} else s) s

/-- The first segments of the runs of free segments that hold a table. (DESIGN CHOICE, log 82) -/
def tableBases (s : State) (log2n : Nat) : List Nat :=
  (List.range (250001 - 2 ^ log2n)).filter fun b => (List.range (2 ^ log2n)).all fun n => (s.segment (b + n)).state == .free

def tableCreate (s : State) (g len log2n : Nat) : State × Answer :=
  match s.grantOf g with
  | none => (s, .done Mr.NOT_PERMITTED [])
  | some k =>
    if polSegQuota (s.policyOf g) < s.segmentsOf g + 2 ^ log2n then (s, .done Mr.LIMIT [])
    else if (mget none (s.grant k).waiting len).isSome then (s, .done Mr.SEQUENCE [])
    else match (pickFree 1 s.freeCtr (s.tableBases log2n)).head? with
      | none => (s, .done Mr.POOL_EXHAUSTED [])
      | some b =>
        let t : HashTable := { base := b, log2n := log2n }
        let s := forEach (List.range (2 ^ log2n)) (fun n s =>
          s.modSegment (b + n) fun _ => { state := .idle, hash := true, saggar := g }) (s.drew 1)
        let now := (mget none (s.grant k).live len).isNone
        let s := s.modGrant k fun r =>
          if now then { r with live := mset none r.live len (some t) } else { r with waiting := mset none r.waiting len (some t) }
        (s.refilter k, .done Mr.OK (leBytes b 4 ++ [byte (b2n now), 0, 0, 0]))

def tableSwitch (s : State) (g len : Nat) : State × Answer :=
  match s.grantOf g with
  | none => (s, .done Mr.SEQUENCE [])
  | some k => match mget none (s.grant k).waiting len with
    | none => (s, .done Mr.SEQUENCE [])
    | some t =>
      let s := match mget none (s.grant k).live len with
        | some old => s.freeTable g old
        | none => s
      let s := s.modGrant k fun r =>
        { r with live := mset none r.live len (some t), waiting := mset none r.waiting len none }
      (s.refilter k, .done Mr.OK (leBytes t.base 4))

def tableDelete (s : State) (g len : Nat) (pending : Bool) : State × Answer :=
  match s.grantOf g with
  | none => (s, .done Mr.SEQUENCE [])
  | some k => match mget none (if pending then (s.grant k).waiting else (s.grant k).live) len with
    | none => (s, .done Mr.SEQUENCE [])
    | some t =>
      let s := (s.freeTable g t).modGrant k fun r =>
        if pending then { r with waiting := mset none r.waiting len none } else { r with live := mset none r.live len none }
      (s.refilter k, .done Mr.OK [])

end State

/-! ## The commands -/

def execKsetWrite (fn mailbox : Nat) (s : State) : Res := mbxCommand 0x0401 fn mailbox (fun p s => s.ksetWrite p) s

def execSegLock (fn mailbox : Nat) (s : State) : Res :=
  mbxCommand 0x0402 fn mailbox (fun p s => State.segAnswer (leAt p 0 4) (s.segCommand (leAt p 0 4) fun s => s.segLock (leAt p 0 4))) s

/-- SEG_COMMIT: the answer follows the commit of R257. -/
def execSegCommit (fn mailbox : Nat) (s : State) : Res :=
  mbxCommand 0x0403 fn mailbox (fun p s =>
      let g := leAt p 0 4
      match s.segCommand g fun s => s.segCommit g with
      | (s, some 0) => (s.modRouting fun t => { t with busy := true }, .wait)
      | r => State.segAnswer g r)
    s (fun p s =>
      if (s.segment (leAt p 0 4)).state == .committing then (s, .later) else State.segAnswer (leAt p 0 4) (s, some 0))

def execSegAbandon (fn mailbox : Nat) (s : State) : Res :=
  mbxCommand 0x0404 fn mailbox
    (fun p s => State.segAnswer (leAt p 0 4) (s.segCommand (leAt p 0 4) fun s => s.segAbandon (leAt p 0 4))) s

def execSegAssign (fn mailbox : Nat) (s : State) : Res :=
  mbxCommand 0x0405 fn mailbox (fun p s => s.segAssign (byteAt p 0) (leAt p 2 2)) s

def execSegRelease (fn mailbox : Nat) (s : State) : Res :=
  mbxCommand 0x0406 fn mailbox (fun p s => s.segRelease (leAt p 0 4)) s

def execTableCreate (fn mailbox : Nat) (s : State) : Res :=
  mbxCommand 0x0407 fn mailbox (fun p s => s.tableCreate (byteAt p 0) (byteAt p 1) (byteAt p 2)) s

def execTableSwitch (fn mailbox : Nat) (s : State) : Res :=
  mbxCommand 0x0408 fn mailbox (fun p s => s.tableSwitch (byteAt p 0) (byteAt p 1)) s

def execTableDelete (fn mailbox : Nat) (s : State) : Res :=
  mbxCommand 0x0409 fn mailbox (fun p s => s.tableDelete (byteAt p 0) (byteAt p 1) (byteAt p 2 = 1)) s

end Sys2Proof.Machine
end

