-- ==== Sys2Proof/Machine/Shapes.lean ====
section
/-! DEFINITION. The commands that may start or end a shape (R22, R111, R135, R161, R208, R228): what a firing meets in its kiln's bank
occurs with the command (R271, R286). -/

namespace Sys2Proof.Machine

/-- A free engine takes a startable ware (R111). -/
def execEngineTakeWare (kiln engine : Nat) (s : State) : Res :=
  onUnit s (decide (kiln < 68 ∧ engine < 16)) (s.engineTakes kiln engine).settleFaults

/-- A key cache fetch completes: the key enters a hot key slot (R22, R261). -/
def execKeyCacheFetchDone (tag : Nat) (s : State) : Res :=
  onUnit s (decide (tag < 65536)) (match s.ware tag with
    | none => s
    | some w =>
      when_ (w.phase == .preparing && w.waits == .cacheFetch) (fun s =>
        match State.pendingField w with
        | none => s
        | some (u, j, r) =>
          let h := match r with
            | .handle h => h
            | .role n => roleOf w.keySet n
            | _ => w.handle
          let s := s.modWare tag fun w => { w with waits := .none }
          match s.cache h with
          | none => (s.prepare tag).settleFaults
          | some e => (((s.fillSlot tag e.key e.doomed).setKey tag u.index j e.key).prepare tag).settleFaults) s)

/-- The read of a blob's ciphertext and tag ends (R228 checks 6 to 8). -/
def execBlobBodyReadDone (tag : Nat) (data : Option Bytes) (s : State) : Res :=
  onUnit s (decide (tag < 65536)) (match s.ware tag with
    | none => s
    | some w =>
      when_ (w.phase == .preparing && w.waits == .blobBody && !s.readHeld w.fn (dBlobPtr w.desc + 48) &&
          s.fetchTurn w.kiln tag) (fun s =>
        let s := (s.dropFetch w.kiln tag).modWare tag fun w => { w with waits := .none, blobHeader := [] }
        match data with
        | none => s.endFiring tag St.BLOB_FETCH_FAILED 0
        | some bs =>
          match s.openedKey w (padTo ((blobFields w.blobHeader).matLen + 16) bs) with
          | none => s.endFiring tag St.BLOB_AUTH_FAILED 0
          | some key =>
            match s.insertKey tag w key with
            | (s, .failed st) => s.endFiring tag st 0
            | (s, .retry) => s.backOff tag
            | (s, .used) =>
              let used := match s.cache key.handle with
                | some e => e.key
                | none => key
              ((s.setKey tag 0 0 used).prepare tag).settleFaults) s)

/-- A single ware's fixed shape ends (R135, R146). -/
def execFiringEnd (tag : Nat) (s : State) : Res :=
  onUnit s (decide (tag < 65536)) (match s.ware tag with
    | none => s
    | some w => when_ (w.phase == .firing && !w.isGraph) (fun s => (s.endSingle tag w).settleFaults) s)

/-- A step of a ware graph ends its shape (R208, R209). -/
def execGraphStepEnd (tag : Nat) (s : State) : Res :=
  onUnit s (decide (tag < 65536)) (match s.ware tag with
    | none => s
    | some w => when_ (w.phase == .firing && w.isGraph) (fun s => (s.endStep tag w).settleFaults) s)

end Sys2Proof.Machine
end

