-- ==== Sys2Proof/Machine/Shelf.lean ====
section
/-! DEFINITION. The shelf of a kiln (R142, R143): its areas, what the wares of the kiln have in it, and the policy images there. Which
line of an area a ware has, no rule states: the bytes stand with the ware, and their owner tag with it. (DESIGN CHOICE, log 141) -/

namespace Sys2Proof.Machine

/-- The areas of R142. -/
inductive ShelfArea where
  | queueInput | policy | staging | bounce | results
  deriving DecidableEq, Repr

/-- The internal address of a kiln's shelf (R31, R142). -/
def shelfAt (k : Nat) : Nat := 0x40000000000 + k * 0x400000

/-- The area of a shelf offset (R142). -/
def shelfArea (o : Nat) : Option ShelfArea :=
  if o < 0x40000 then some .queueInput
  else if o < 0xC0000 then some .policy
  else if o < 0x100000 then some .staging
  else if o < 0x200000 then some .bounce
  else if o < 0x400000 then some .results
  else none

/-- The size of an area in bytes (R142). -/
def ShelfArea.size : ShelfArea → Nat
  | .queueInput => 0x40000 | .policy => 0x80000 | .staging => 0x40000 | .bounce => 0x100000 | .results => 0x200000

namespace State

/-- What a ware has in an area of its kiln's shelf: descriptor, extension and data before its firing, its result in staging after. -/
def shelfBytes (w : Ware) : ShelfArea → Bytes
  | .queueInput => if w.lineTag.isSome && w.phase != .ended then w.desc ++ w.ext ++ w.data.flatten else []
  | .results => if w.lineTag.isSome && w.phase == .ended && w.staged then w.result else []
  | _ => []

/-- The lines in use in an area, with their owner tag: ware, owner, number of lines (R143). -/
def shelfLines (s : State) (k : Nat) (a : ShelfArea) : List (Nat × Nat × Nat) :=
  s.setter.wares.filterMap fun e => e.2.bind fun w =>
    if w.kiln = k && !(shelfBytes w a).isEmpty then w.lineTag.map fun g => (e.1, g, stageLines (shelfBytes w a).length) else none

/-- The policy entries that a kiln in service keeps of a saggar: the current epoch's, and the previous epoch's (R132, R142). -/
def shelfPolicy (s : State) (g : Nat) (previous : Bool) : PolicyView := if previous then (s.saggar g).polOld else (s.saggar g).pol

/-- A read of a ware's lines by an engine for a firing of saggar `g`: nothing under another owner tag (R36, R143). -/
def shelfRead (w : Ware) (g : Nat) (a : ShelfArea) : Option Bytes := if w.lineTag = some g then some (shelfBytes w a) else none

end State

end Sys2Proof.Machine
end

