-- ==== Sys2Proof/Machine/Witness.lean ====
section
/-! DEFINITION. The witness port (R364, R379 to R383, R386) and the switchback (R385). -/

namespace Sys2Proof.Machine

/-! ## Frames (R379) -/

def wfType (f : Bytes) : Nat := byteAt f 0
def wfState (f : Bytes) : Nat := byteAt f 2
def wfTerm (f : Bytes) : Nat := leAt f 4 4
def wfSeq (f : Bytes) : Nat := leAt f 8 8
def wfGen (f : Bytes) : Nat := leAt f 16 4
def wfEcho (f : Bytes) : Nat := leAt f 20 4

/-- The tag of bytes 0 to 23. -/
def witTag (key body : Bytes) : Bytes := (padTo 16 (Config.cmac false key body)).take 8

namespace State

/-- The witness engine works, with its key (R364, R390, R425). (DESIGN CHOICE, log 94) -/
def witRuns (s : State) : Bool :=
  s.paired && s.sys.mode != .dormant && !s.tmp.halted && !s.lcc.guarded && !(s.bank 16).fenced && decide (s.tmp.govern < respGuard) &&
    decide (7 ≤ s.sys.bootStep) && s.witnessKey.isSome

/-- STATE of a module's frame: mode, MIRRORED, READY, holds the lease. -/
def witState (s : State) : Nat :=
  modeCode s.sys.mode + 8 * b2n s.mirrored + 16 * b2n s.mirReady + 32 * b2n s.mir.lease

/-- A frame to the witness, with the module's next SEQ. -/
def sendWitness (s : State) (kind : Nat) : State :=
  let s := s.modMir fun m => { m with witSeq := m.witSeq + 1 }
  let seq := ((s.mir.pair.map (·.boot)).getD 0) * 2 ^ 32 + s.mir.witSeq
  let body := [byte kind, byte (b2n s.mir.ownSlot), byte s.witState, 0] ++ leBytes s.mir.term.toNat 4 ++ leBytes seq 8 ++
    leBytes s.mir.gen.toNat 4 ++ zeros 4
  s.emit (.witnessFrame (body ++ witTag ((s.witnessKey.map (·.material)).getD []) body))

/-- A REQUEST; the witness may echo those of the last 50 ms (R380, R386). -/
def sendRequest (s : State) : State :=
  let s := s.sendWitness 0x01
  s.modMir fun m => { m with requests := ((m.witSeq % 2 ^ 32, m.gen) :: m.requests).take 5 }

/-- A GRANT restores or extends the lease to 50 ms after the REQUEST it answers, `age` REQUESTs ago (R380). -/
def takeLease (s : State) (age : Nat) (gen : Word) : State :=
  let had := s.mir.lease
  let s := s.modMir fun m =>
    { m with lease := true, remainMs := 50 - 10 * age, grants := satInc m.grants,
             genGranted := m.genGranted || (m.genRaised && gen = m.gen) }
  let s := when_ (!had) (fun s => s.mirEvent mirLeaseBack) s
  s.commitStep

/-- The REQUEST that a frame echoes, with its age in REQUESTs. (DESIGN CHOICE, log 99) -/
def echoed (s : State) (f : Bytes) : Option (Nat × Word) :=
  ((s.mir.requests.zipIdx.find? fun e => e.1.1 = wfEcho f)).map fun e => (e.2, e.1.2)

/-- What a frame with a valid tag and SEQ asks for (R380 to R384, R386). -/
def witnessActs (s : State) (f : Bytes) : State :=
  let term := BitVec.ofNat 32 (wfTerm f)
  if wfType f = 0x02 then
    match s.echoed f with
    | none => s.partnerViol true 2
    | some (age, gen) =>
      if !s.mir.active || term ≠ s.mir.term || wfGen f ≠ gen.toNat then s.partnerViol true 2 else s.takeLease age gen
  else if wfType f = 0x03 then
    if wfState f ≠ b2n s.mir.ownSlot then s.demote term
    else if !s.mirReady || s.mir.active || decide (wfTerm f ≤ s.mir.term.toNat) then s.partnerViol true 3
    else (s.promote term).sendRequest
  else if wfType f = 0x04 then
    match s.echoed f with
    | none => s.partnerViol true 2
    | some _ => s.demote term
  else if wfType f = 0x05 then
    match s.echoed f with
    | none => s.partnerViol true 2
    | some _ => s
  else s.partnerViol true 2

/-- A frame from the witness: length, tag, FROM, then SEQ, then its TYPE (R386). (DESIGN CHOICE, log 92) (DESIGN CHOICE, log 94) -/
def witnessIn (s : State) (f : Bytes) : State :=
  if !s.witRuns then s
  else
    let key := (s.witnessKey.map (·.material)).getD []
    if f.length ≠ 32 || slice f 24 8 != witTag key (slice f 0 24) || byteAt f 1 ≠ 2 then s.partnerViol true 0
    else if wfSeq f ≤ s.mir.witLast then s.partnerViol true 1
    else (s.modMir fun m => { m with witLast := wfSeq f }).witnessActs f

end State

/-! ## The commands -/

/-- Every 10 ms; after HANDOVER no more (R380, R385). The lease has 10 ms less to run. (DESIGN CHOICE, log 99) -/
def execWitnessRequestTimer (s : State) : Res :=
  onUnit s true (
    let s := s.modMir fun m => { m with remainMs := m.remainMs - 10 }
    when_ (s.witRuns && !(s.mir.switchback.any (·.handedOver))) State.sendRequest s)

/-- GRANT (R380, R386). -/
def execGrant (frame : Bytes) (s : State) : Res := onUnit s true (s.witnessIn frame)

/-- PROMOTE (R383, R384, R386). -/
def execPromote (frame : Bytes) (s : State) : Res := onUnit s true (s.witnessIn frame)

/-- DEMOTE (R384, R386). -/
def execDemote (frame : Bytes) (s : State) : Res := onUnit s true (s.witnessIn frame)

/-- NOTICE (R379, R386). -/
def execNotice (frame : Bytes) (s : State) : Res := onUnit s true (s.witnessIn frame)

/-- A frame of a TYPE no module accepts (R386). -/
def execWitnessStrayFrame (frame : Bytes) (s : State) : Res := onUnit s true (s.witnessIn frame)

/-- 50 ms have passed since the REQUEST that the last GRANT answered (R380). -/
def execLeaseExpire (s : State) : Res := onUnit s true s.leaseLost

/-! ## Switchback (R385) -/

/-- MIR_SWITCHBACK: step 1; from now on state-changing wares are refused. -/
def execMirSwitchback (fn mailbox : Nat) (s : State) : Res :=
  mbxCommand 0x0602 fn mailbox (fun _ s =>
    if s.mir.active && s.mir.lease && s.mirrored && s.mir.switchback.isNone then
      (s.modMir fun m => { m with switchback := some { mbx := 8 * fn + mailbox } }, .wait)
    else (s, .done Mr.SEQUENCE [])) s

/-- Steps 2 and 3: nothing state-changing is left in flight; HANDOVER goes out and the command is answered. -/
def execSwitchbackHandover (s : State) : Res :=
  onUnit s true (match s.mir.switchback with
    | none => s
    | some w =>
      when_ (!w.handedOver && s.changingWares.isEmpty && s.witRuns) (fun s =>
        let s := s.sendWitness 0x06
        let s := s.endSwitchback Mr.OK (leBytes s.mir.term.toNat 4)
        s.modMir fun m => { m with switchback := some { w with handedOver := true } }) s)

/-- 100 ms after step 1 a state-changing ware is still in flight: the switchback ends. -/
def execSwitchbackTimeout (s : State) : Res :=
  onUnit s true (match s.mir.switchback with
    | none => s
    | some w =>
      when_ (!w.handedOver && !s.changingWares.isEmpty) (fun s =>
        (s.endSwitchback Mr.TIMED_OUT []).modMir fun m => { m with switchback := none }) s)

end Sys2Proof.Machine
end

