-- ==== Sys2Proof/Machine/Dispatch.lean ====
section
/-! DEFINITION. The effect of a command on everything but the queue: one arm per command. -/

namespace Sys2Proof.Machine

def exec (i : Instr) (s : State) : Host.Outcome State Fault Refusal :=
  match i with
  | .powerOn facts => Sys2Proof.Machine.execPowerOn facts s
  | .pinReset facts => Sys2Proof.Machine.execPinReset facts s
  | .warmReset cause facts => Sys2Proof.Machine.execWarmReset cause facts s
  | .bootEnd ms => Sys2Proof.Machine.execBootEnd ms s
  | .bootReadyTimeout => Sys2Proof.Machine.execBootReadyTimeout s
  | .pwrfailFall => Sys2Proof.Machine.execPwrfailFall s
  | .pwrfailRise => Sys2Proof.Machine.execPwrfailRise s
  | .mainRailLoss => Sys2Proof.Machine.execMainRailLoss s
  | .hostPortReset portB => Sys2Proof.Machine.execHostPortReset portB s
  | .hostPortReady portB => Sys2Proof.Machine.execHostPortReady portB s
  | .d3hotEnter portB => Sys2Proof.Machine.execD3hotEnter portB s
  | .d0Enter portB => Sys2Proof.Machine.execD0Enter portB s
  | .flr fn => Sys2Proof.Machine.execFlr fn s
  | .flrComplete fn => Sys2Proof.Machine.execFlrComplete fn s
  | .vfRemove portB numVfs => Sys2Proof.Machine.execVfRemove portB numVfs s
  | .barAlignViolation fn read offset => Sys2Proof.Machine.execBarAlignViolation fn read offset s
  | .barUnmappedAccess fn read offset => Sys2Proof.Machine.execBarUnmappedAccess fn read offset s
  | .poisonedBarWrite fn => Sys2Proof.Machine.execPoisonedBarWrite fn s
  | .violWindowExpire => Sys2Proof.Machine.execViolWindowExpire s
  | .violLimitWrite fn value => Sys2Proof.Machine.execViolLimitWrite fn value s
  | .quarantineLift portB => Sys2Proof.Machine.execQuarantineLift portB s
  | .ideUnsecuredRequest fn => Sys2Proof.Machine.execIdeUnsecuredRequest fn s
  | .ideKm portB km => Sys2Proof.Machine.execIdeKm portB km s
  | .doeDiscovery portB index => Sys2Proof.Machine.execDoeDiscovery portB index s
  | .getVersion portB => Sys2Proof.Machine.execGetVersion portB s
  | .getCapabilities portB => Sys2Proof.Machine.execGetCapabilities portB s
  | .negotiateAlgorithms portB offers => Sys2Proof.Machine.execNegotiateAlgorithms portB offers s
  | .getDigests portB => Sys2Proof.Machine.execGetDigests portB s
  | .getCertificate portB slot part => Sys2Proof.Machine.execGetCertificate portB slot part s
  | .challenge portB ask => Sys2Proof.Machine.execChallenge portB ask s
  | .getMeasurements portB index nonce => Sys2Proof.Machine.execGetMeasurements portB index nonce s
  | .keyExchange portB ask => Sys2Proof.Machine.execKeyExchange portB ask s
  | .finish portB verifies => Sys2Proof.Machine.execFinish portB verifies s
  | .spdmHeartbeat portB => Sys2Proof.Machine.execSpdmHeartbeat portB s
  | .keyUpdate portB => Sys2Proof.Machine.execKeyUpdate portB s
  | .endSession portB => Sys2Proof.Machine.execEndSession portB s
  | .msixVectorUnmask fn vector => Sys2Proof.Machine.execMsixVectorUnmask fn vector s
  | .dplSelectChange fn select => Sys2Proof.Machine.execDplSelectChange fn select s
  | .dplSwitched fn => Sys2Proof.Machine.execDplSwitched fn s
  | .dplReadFail fn => Sys2Proof.Machine.execDplReadFail fn s
  | .sqDoorbell fn ring value => Sys2Proof.Machine.execSqDoorbell fn ring value s
  | .cqDoorbell fn ring value => Sys2Proof.Machine.execCqDoorbell fn ring value s
  | .descriptorFetchIssue fn ring => Sys2Proof.Machine.execDescriptorFetchIssue fn ring s
  | .descriptorArrive fn ring tag desc => Sys2Proof.Machine.execDescriptorArrive fn ring tag desc s
  | .descFetchFail fn ring => Sys2Proof.Machine.execDescFetchFail fn ring s
  | .ringErrorSettle fn ring => Sys2Proof.Machine.execRingErrorSettle fn ring s
  | .ringEnable fn ring value => Sys2Proof.Machine.execRingEnable fn ring value s
  | .ringDisable fn ring => Sys2Proof.Machine.execRingDisable fn ring s
  | .ringDisabled fn ring => Sys2Proof.Machine.execRingDisabled fn ring s
  | .ringReset fn ring => Sys2Proof.Machine.execRingReset fn ring s
  | .ringResetComplete fn ring => Sys2Proof.Machine.execRingResetComplete fn ring s
  | .ringIdleMove fn ring => Sys2Proof.Machine.execRingIdleMove fn ring s
  | .panExtReadDone tag data => Sys2Proof.Machine.execPanExtReadDone tag data s
  | .wareClassify tag => Sys2Proof.Machine.execWareClassify tag s
  | .dispatch => Sys2Proof.Machine.execDispatch s
  | .extensionFetchDone tag data => Sys2Proof.Machine.execExtensionFetchDone tag data s
  | .dataFetchDone tag data => Sys2Proof.Machine.execDataFetchDone tag data s
  | .engineTakeWare kiln engine => Sys2Proof.Machine.execEngineTakeWare kiln engine s
  | .keyCacheFetchDone tag => Sys2Proof.Machine.execKeyCacheFetchDone tag s
  | .blobHeaderReadDone tag data => Sys2Proof.Machine.execBlobHeaderReadDone tag data s
  | .blobBodyReadDone tag data => Sys2Proof.Machine.execBlobBodyReadDone tag data s
  | .returnBackoffExpire tag => Sys2Proof.Machine.execReturnBackoffExpire tag s
  | .firingEnd tag => Sys2Proof.Machine.execFiringEnd tag s
  | .graphStepEnd tag => Sys2Proof.Machine.execGraphStepEnd tag s
  | .wareRelease tag merge => Sys2Proof.Machine.execWareRelease tag merge s
  | .mergeDelayExpire fn ring => Sys2Proof.Machine.execMergeDelayExpire fn ring s
  | .coalTimerExpire fn ring => Sys2Proof.Machine.execCoalTimerExpire fn ring s
  | .epochChange saggar => Sys2Proof.Machine.execEpochChange saggar s
  | .epochNotice saggar kiln => Sys2Proof.Machine.execEpochNotice saggar kiln s
  | .epochConfirmTimeout saggar kiln => Sys2Proof.Machine.execEpochConfirmTimeout saggar kiln s
  | .epochKilnLost saggar kiln => Sys2Proof.Machine.execEpochKilnLost saggar kiln s
  | .busyWindowEnd engines wheels limitReached => Sys2Proof.Machine.execBusyWindowEnd engines wheels limitReached s
  | .snapshotTake fn => Sys2Proof.Machine.execSnapshotTake fn s
  | .snapshotDone => Sys2Proof.Machine.execSnapshotDone s
  | .attemptWindowReset => Sys2Proof.Machine.execAttemptWindowReset s
  | .kilnResetRun kiln cause hashA hashB => Sys2Proof.Machine.execKilnResetRun kiln cause hashA hashB s
  | .glazeBankLoad kiln digest => Sys2Proof.Machine.execGlazeBankLoad kiln digest s
  | .kilnWake kiln => Sys2Proof.Machine.execKilnWake kiln s
  | .kilnWakeDone kiln => Sys2Proof.Machine.execKilnWakeDone kiln s
  | .kilnDrain kiln why => Sys2Proof.Machine.execKilnDrain kiln why s
  | .drainComplete kiln => Sys2Proof.Machine.execDrainComplete kiln s
  | .drainAbandon kiln => Sys2Proof.Machine.execDrainAbandon kiln s
  | .drainRetryTimer kiln => Sys2Proof.Machine.execDrainRetryTimer kiln s
  | .kilnPark kiln => Sys2Proof.Machine.execKilnPark kiln s
  | .kilnReturnService kiln => Sys2Proof.Machine.execKilnReturnService kiln s
  | .kilnRetire kiln => Sys2Proof.Machine.execKilnRetire kiln s
  | .keyInvalidate saggar handle serial => Sys2Proof.Machine.execKeyInvalidate saggar handle serial s
  | .bepochRetireCleanup saggar => Sys2Proof.Machine.execBepochRetireCleanup saggar s
  | .keystoreLoad saggar slot => Sys2Proof.Machine.execKeystoreLoad saggar slot s
  | .keystoreCeremonyWrite saggar slot image => Sys2Proof.Machine.execKeystoreCeremonyWrite saggar slot image s
  | .keystoreErase saggar slot => Sys2Proof.Machine.execKeystoreErase saggar slot s
  | .prtLock fn segment => Sys2Proof.Machine.execPrtLock fn segment s
  | .prtCommit fn segment => Sys2Proof.Machine.execPrtCommit fn segment s
  | .prtAbandon fn segment => Sys2Proof.Machine.execPrtAbandon fn segment s
  | .segmentWritesSettled segment => Sys2Proof.Machine.execSegmentWritesSettled segment s
  | .lockExpire segment => Sys2Proof.Machine.execLockExpire segment s
  | .evictKeyReseed => Sys2Proof.Machine.execEvictKeyReseed s
  | .pageWipe saggar => Sys2Proof.Machine.execPageWipe saggar s
  | .pageWipeDone saggar => Sys2Proof.Machine.execPageWipeDone saggar s
  | .sourceTestFail run => Sys2Proof.Machine.execSourceTestFail run s
  | .startupTestDone run => Sys2Proof.Machine.execStartupTestDone run s
  | .coolingExpire source => Sys2Proof.Machine.execCoolingExpire source s
  | .conditionBlockDone run => Sys2Proof.Machine.execConditionBlockDone run s
  | .entropyLateTimeout => Sys2Proof.Machine.execEntropyLateTimeout s
  | .seedDeliver selfTest => Sys2Proof.Machine.execSeedDeliver selfTest s
  | .entReseedOne fn drbg => Sys2Proof.Machine.execEntReseedOne fn drbg s
  | .entReseedAll fn => Sys2Proof.Machine.execEntReseedAll fn s
  | .entropyWaitTimeout tag => Sys2Proof.Machine.execEntropyWaitTimeout tag s
  | .go fn mailbox => Sys2Proof.Machine.execGo fn mailbox s
  | .ack fn mailbox => Sys2Proof.Machine.execAck fn mailbox s
  | .abort fn mailbox => Sys2Proof.Machine.execAbort fn mailbox s
  | .mbxTake => Sys2Proof.Machine.execMbxTake s
  | .mbxCommandTimeout fn mailbox => Sys2Proof.Machine.execMbxCommandTimeout fn mailbox s
  | .hello fn mailbox => Sys2Proof.Machine.execHello fn mailbox s
  | .fnStatus fn mailbox => Sys2Proof.Machine.execFnStatus fn mailbox s
  | .deviceInfo fn mailbox => Sys2Proof.Machine.execDeviceInfo fn mailbox s
  | .fnBind fn mailbox => Sys2Proof.Machine.execFnBind fn mailbox s
  | .fnUnbind fn mailbox => Sys2Proof.Machine.execFnUnbind fn mailbox s
  | .globalOwner fn mailbox => Sys2Proof.Machine.execGlobalOwner fn mailbox s
  | .dmaAcquire fn mailbox => Sys2Proof.Machine.execDmaAcquire fn mailbox s
  | .dmaRelease fn mailbox => Sys2Proof.Machine.execDmaRelease fn mailbox s
  | .dmaReclaim fn mailbox => Sys2Proof.Machine.execDmaReclaim fn mailbox s
  | .stagePages fn mailbox => Sys2Proof.Machine.execStagePages fn mailbox s
  | .saggarStatus fn mailbox => Sys2Proof.Machine.execSaggarStatus fn mailbox s
  | .policyRead fn mailbox => Sys2Proof.Machine.execPolicyRead fn mailbox s
  | .policyWrite fn mailbox => Sys2Proof.Machine.execPolicyWrite fn mailbox s
  | .quotaSet fn mailbox => Sys2Proof.Machine.execQuotaSet fn mailbox s
  | .drain fn mailbox => Sys2Proof.Machine.execDrain fn mailbox s
  | .undrain fn mailbox => Sys2Proof.Machine.execUndrain fn mailbox s
  | .saggarReset fn mailbox => Sys2Proof.Machine.execSaggarReset fn mailbox s
  | .keyDestroy fn mailbox => Sys2Proof.Machine.execKeyDestroy fn mailbox s
  | .origEnrol fn mailbox => Sys2Proof.Machine.execOrigEnrol fn mailbox s
  | .origWithdraw fn mailbox => Sys2Proof.Machine.execOrigWithdraw fn mailbox s
  | .bepochAdvance fn mailbox => Sys2Proof.Machine.execBepochAdvance fn mailbox s
  | .bepochRetire fn mailbox => Sys2Proof.Machine.execBepochRetire fn mailbox s
  | .ksetWrite fn mailbox => Sys2Proof.Machine.execKsetWrite fn mailbox s
  | .segLock fn mailbox => Sys2Proof.Machine.execSegLock fn mailbox s
  | .segCommit fn mailbox => Sys2Proof.Machine.execSegCommit fn mailbox s
  | .segAbandon fn mailbox => Sys2Proof.Machine.execSegAbandon fn mailbox s
  | .segAssign fn mailbox => Sys2Proof.Machine.execSegAssign fn mailbox s
  | .segRelease fn mailbox => Sys2Proof.Machine.execSegRelease fn mailbox s
  | .tableCreate fn mailbox => Sys2Proof.Machine.execTableCreate fn mailbox s
  | .tableSwitch fn mailbox => Sys2Proof.Machine.execTableSwitch fn mailbox s
  | .tableDelete fn mailbox => Sys2Proof.Machine.execTableDelete fn mailbox s
  | .kilnReset fn mailbox hashA hashB => Sys2Proof.Machine.execKilnReset fn mailbox hashA hashB s
  | .entReinstate fn mailbox => Sys2Proof.Machine.execEntReinstate fn mailbox s
  | .marginConfig fn mailbox => Sys2Proof.Machine.execMarginConfig fn mailbox s
  | .imageStage fn mailbox image => Sys2Proof.Machine.execImageStage fn mailbox image s
  | .imageStatus fn mailbox => Sys2Proof.Machine.execImageStatus fn mailbox s
  | .imageActivate fn mailbox => Sys2Proof.Machine.execImageActivate fn mailbox s
  | .imageCommit fn mailbox => Sys2Proof.Machine.execImageCommit fn mailbox s
  | .cerBegin fn mailbox record => Sys2Proof.Machine.execCerBegin fn mailbox record s
  | .cerStatus fn mailbox secondsLeft => Sys2Proof.Machine.execCerStatus fn mailbox secondsLeft s
  | .cerAbort fn mailbox => Sys2Proof.Machine.execCerAbort fn mailbox s
  | .cerJournal fn mailbox bufferOk => Sys2Proof.Machine.execCerJournal fn mailbox bufferOk s
  | .rosterRead fn mailbox => Sys2Proof.Machine.execRosterRead fn mailbox s
  | .ceremonyDrained => Sys2Proof.Machine.execCeremonyDrained s
  | .ceremonyTimeLimit => Sys2Proof.Machine.execCeremonyTimeLimit s
  | .cardInsert port => Sys2Proof.Machine.execCardInsert port s
  | .cardDebounceExpire port => Sys2Proof.Machine.execCardDebounceExpire port s
  | .cardRemove port => Sys2Proof.Machine.execCardRemove port s
  | .atrReceive port offersT1 atr => Sys2Proof.Machine.execAtrReceive port offersT1 atr s
  | .atrTimeout port => Sys2Proof.Machine.execAtrTimeout port s
  | .apduTimeout port => Sys2Proof.Machine.execApduTimeout port s
  | .getIdentity port sw data => Sys2Proof.Machine.execGetIdentity port sw data s
  | .putDeviceCert port sw => Sys2Proof.Machine.execPutDeviceCert port sw s
  | .authenticate port sw data => Sys2Proof.Machine.execAuthenticate port sw data s
  | .releaseShard port sw data => Sys2Proof.Machine.execReleaseShard port sw data s
  | .storeShard port sw data => Sys2Proof.Machine.execStoreShard port sw data s
  | .pairAuthLapse => Sys2Proof.Machine.execPairAuthLapse s
  | .linkTrainRetry => Sys2Proof.Machine.execLinkTrainRetry s
  | .linkLanesLock lanes => Sys2Proof.Machine.execLinkLanesLock lanes s
  | .mirrorHello uid slot offer nonce => Sys2Proof.Machine.execMirrorHello uid slot offer nonce s
  | .pairingFrame kind data => Sys2Proof.Machine.execPairingFrame kind data s
  | .delta hdr groups => Sys2Proof.Machine.execDelta hdr groups s
  | .mirrorAck hdr seq => Sys2Proof.Machine.execMirrorAck hdr seq s
  | .heartbeat hdr mode term gen ready active applied => Sys2Proof.Machine.execHeartbeat hdr mode term gen ready active applied s
  | .resyncReq hdr applied boot keptState => Sys2Proof.Machine.execResyncReq hdr applied boot keptState s
  | .resyncData hdr items => Sys2Proof.Machine.execResyncData hdr items s
  | .resyncDone hdr term gen seq => Sys2Proof.Machine.execResyncDone hdr term gen seq s
  | .nack hdr => Sys2Proof.Machine.execNack hdr s
  | .keyxfer hdr saggar keys roster => Sys2Proof.Machine.execKeyxfer hdr saggar keys roster s
  | .deltaSend => Sys2Proof.Machine.execDeltaSend s
  | .heartbeatSendTimer => Sys2Proof.Machine.execHeartbeatSendTimer s
  | .linkFrameTimeout => Sys2Proof.Machine.execLinkFrameTimeout s
  | .mirrorReset => Sys2Proof.Machine.execMirrorReset s
  | .controlAckTimeout seq => Sys2Proof.Machine.execControlAckTimeout seq s
  | .replayEntryExpire saggar rid => Sys2Proof.Machine.execReplayEntryExpire saggar rid s
  | .witnessRequestTimer => Sys2Proof.Machine.execWitnessRequestTimer s
  | .grant frame => Sys2Proof.Machine.execGrant frame s
  | .promote frame => Sys2Proof.Machine.execPromote frame s
  | .demote frame => Sys2Proof.Machine.execDemote frame s
  | .notice frame => Sys2Proof.Machine.execNotice frame s
  | .leaseExpire => Sys2Proof.Machine.execLeaseExpire s
  | .mirStatus fn mailbox => Sys2Proof.Machine.execMirStatus fn mailbox s
  | .mirSwitchback fn mailbox => Sys2Proof.Machine.execMirSwitchback fn mailbox s
  | .switchbackHandover => Sys2Proof.Machine.execSwitchbackHandover s
  | .switchbackTimeout => Sys2Proof.Machine.execSwitchbackTimeout s
  | .mirRetrain fn mailbox => Sys2Proof.Machine.execMirRetrain fn mailbox s
  | .tamperSourceAssert source detB cause value => Sys2Proof.Machine.execTamperSourceAssert source detB cause value s
  | .tamperSourceDeassert source => Sys2Proof.Machine.execTamperSourceDeassert source s
  | .backupSourceAssert source detB cause value => Sys2Proof.Machine.execBackupSourceAssert source detB cause value s
  | .detectorDisagreeTimeout source => Sys2Proof.Machine.execDetectorDisagreeTimeout source s
  | .detectorSelfTest failed => Sys2Proof.Machine.execDetectorSelfTest failed s
  | .decisionSecondEval decision first second => Sys2Proof.Machine.execDecisionSecondEval decision first second s
  | .beatIntegrityFail bank => Sys2Proof.Machine.execBeatIntegrityFail bank s
  | .fabricQuietTimeout => Sys2Proof.Machine.execFabricQuietTimeout s
  | .evidenceCopy => Sys2Proof.Machine.execEvidenceCopy s
  | .alarmStatClear fn value => Sys2Proof.Machine.execAlarmStatClear fn value s
  | .tamperConfigWrite fn offset value => Sys2Proof.Machine.execTamperConfigWrite fn offset value s
  | .tamperRecover fn facts => Sys2Proof.Machine.execTamperRecover fn facts s
  | .faultSourceOccur bank source subject => Sys2Proof.Machine.execFaultSourceOccur bank source subject s
  | .bankParityFault bank => Sys2Proof.Machine.execBankParityFault bank s
  | .faultRecover fn facts => Sys2Proof.Machine.execFaultRecover fn facts s
  | .faultStickyClear fn bank value => Sys2Proof.Machine.execFaultStickyClear fn bank value s
  | .errPinHoldExpire => Sys2Proof.Machine.execErrPinHoldExpire s
  | .recordAccept event => Sys2Proof.Machine.execRecordAccept event s
  | .coalesceWindowEnd stream source code => Sys2Proof.Machine.execCoalesceWindowEnd stream source code s
  | .dropSummaryTimer => Sys2Proof.Machine.execDropSummaryTimer s
  | .norRecordWrite => Sys2Proof.Machine.execNorRecordWrite s
  | .skipSummaryTimer => Sys2Proof.Machine.execSkipSummaryTimer s
  | .periodFlush => Sys2Proof.Machine.execPeriodFlush s
  | .flushEnd facts => Sys2Proof.Machine.execFlushEnd facts s
  | .norBlockEraseDone block ok => Sys2Proof.Machine.execNorBlockEraseDone block ok s
  | .norProgramFail => Sys2Proof.Machine.execNorProgramFail s
  | .vectorPaceExpire vector => Sys2Proof.Machine.execVectorPaceExpire vector s
  | .logStatus fn mailbox => Sys2Proof.Machine.execLogStatus fn mailbox s
  | .logRead fn mailbox => Sys2Proof.Machine.execLogRead fn mailbox s
  | .logFetch fn mailbox bufferOk => Sys2Proof.Machine.execLogFetch fn mailbox bufferOk s
  | .logConfig fn mailbox => Sys2Proof.Machine.execLogConfig fn mailbox s
  | .logGrant fn mailbox => Sys2Proof.Machine.execLogGrant fn mailbox s
  | .canaryTrip unit => Sys2Proof.Machine.execCanaryTrip unit s
  | .measureWindowStart => Sys2Proof.Machine.execMeasureWindowStart s
  | .measureWindowEnd => Sys2Proof.Machine.execMeasureWindowEnd s
  | .kilnDue kiln => Sys2Proof.Machine.execKilnDue kiln s
  | .kilnOverdue kiln => Sys2Proof.Machine.execKilnOverdue kiln s
  | .kilnMeasure kiln found => Sys2Proof.Machine.execKilnMeasure kiln found s
  | .roCountTimer losses => Sys2Proof.Machine.execRoCountTimer losses s
  | .marginReportTimer => Sys2Proof.Machine.execMarginReportTimer s
  | .lifecycleTransition fn target jtag facts => Sys2Proof.Machine.execLifecycleTransition fn target jtag facts s
  | .answerLapse => Sys2Proof.Machine.execAnswerLapse s
  | .lcChallenge fn mailbox => Sys2Proof.Machine.execLcChallenge fn mailbox s
  | .lcAnswer fn mailbox answer => Sys2Proof.Machine.execLcAnswer fn mailbox answer s
  | .lcStatus fn mailbox => Sys2Proof.Machine.execLcStatus fn mailbox s
  | .dmaKick fn channel => Sys2Proof.Machine.execDmaKick fn channel s
  | .dmaEnable fn channel value => Sys2Proof.Machine.execDmaEnable fn channel value s
  | .dmaDisable fn channel => Sys2Proof.Machine.execDmaDisable fn channel s
  | .dmaPollTimer channel => Sys2Proof.Machine.execDmaPollTimer channel s
  | .dmaSlotReadDone channel slot => Sys2Proof.Machine.execDmaSlotReadDone channel slot s
  | .dmaSlotReadFail channel interrupt => Sys2Proof.Machine.execDmaSlotReadFail channel interrupt s
  | .dmaHalfPoint channel => Sys2Proof.Machine.execDmaHalfPoint channel s
  | .dmaDescriptorComplete channel outcome => Sys2Proof.Machine.execDmaDescriptorComplete channel outcome s
  | .dmaChannelReset channel => Sys2Proof.Machine.execDmaChannelReset channel s
  | .smbModGlobal => Sys2Proof.Machine.execSmbModGlobal s
  | .smbTmpStat => Sys2Proof.Machine.execSmbTmpStat s
  | .smbTmpAlarmStat => Sys2Proof.Machine.execSmbTmpAlarmStat s
  | .smbFltSumStat => Sys2Proof.Machine.execSmbFltSumStat s
  | .smbHottestTj celsius => Sys2Proof.Machine.execSmbHottestTj celsius s
  | .smbPwrStat => Sys2Proof.Machine.execSmbPwrStat s
  | .smbConeCapacity => Sys2Proof.Machine.execSmbConeCapacity s
  | .smbLccStat => Sys2Proof.Machine.execSmbLccStat s
  | .smbUnlistedCommand write command => Sys2Proof.Machine.execSmbUnlistedCommand write command s
  | .smbAlertResponse => Sys2Proof.Machine.execSmbAlertResponse s
  | .jtagIdcode => Sys2Proof.Machine.execJtagIdcode s
  | .jtagBypass tdi => Sys2Proof.Machine.execJtagBypass tdi s
  | .jtagSample balls => Sys2Proof.Machine.execJtagSample balls s
  | .jtagPreload cells => Sys2Proof.Machine.execJtagPreload cells s
  | .jtagExtest balls => Sys2Proof.Machine.execJtagExtest balls s
  | .jtagCoreHalt core => Sys2Proof.Machine.execJtagCoreHalt core s
  | .jtagCoreStep core => Sys2Proof.Machine.execJtagCoreStep core s
  | .jtagBreakpoint core address => Sys2Proof.Machine.execJtagBreakpoint core address s
  | .jtagMemoryAccess address write => Sys2Proof.Machine.execJtagMemoryAccess address write s
  | .factoryBist array passes => Sys2Proof.Machine.execFactoryBist array passes s
  | .factoryDirectAccess array address write => Sys2Proof.Machine.execFactoryDirectAccess array address write s
  | .rtcLoRead fn => Sys2Proof.Machine.execRtcLoRead fn s
  | .rcRegisterRead fn offset => Sys2Proof.Machine.execRcRegisterRead fn offset s
  | .registerWrite fn offset value => Sys2Proof.Machine.execRegisterWrite fn offset value s
  | .vfEnable portB numVfs => Sys2Proof.Machine.execVfEnable portB numVfs s
  | .perstRelease portB => Sys2Proof.Machine.execPerstRelease portB s
  | .hostLinkUp portB speed width => Sys2Proof.Machine.execHostLinkUp portB speed width s
  | .hostLinkDown portB => Sys2Proof.Machine.execHostLinkDown portB s
  | .dplBitmapReadDone fn word => Sys2Proof.Machine.execDplBitmapReadDone fn word s
  | .selectByName port sw => Sys2Proof.Machine.execSelectByName port sw s
  | .blockWaitingTimeExpire port => Sys2Proof.Machine.execBlockWaitingTimeExpire port s
  | .waitingTimeExtension port within => Sys2Proof.Machine.execWaitingTimeExtension port within s
  | .cardBlockError port => Sys2Proof.Machine.execCardBlockError port s
  | .witnessStrayFrame frame => Sys2Proof.Machine.execWitnessStrayFrame frame s
  | .backupDomainPowerLoss => Sys2Proof.Machine.execBackupDomainPowerLoss s
  | .backupCellConnect => Sys2Proof.Machine.execBackupCellConnect s
  | .sourceFailure24hExpire source => Sys2Proof.Machine.execSourceFailure24hExpire source s
  | .withdrawal24hExpire kiln => Sys2Proof.Machine.execWithdrawal24hExpire kiln s
  | .controlDrbgWaitExpire ceremony fn mailbox => Sys2Proof.Machine.execControlDrbgWaitExpire ceremony fn mailbox s

end Sys2Proof.Machine
end

