-- ==== Sys2Proof/Machine/Step.lean ====
section
/-! DEFINITION. One step: the command at the front of the queue acts on the device with the rest of the queue. -/

namespace Sys2Proof.Machine

/-- The device with no command waiting: only time passes, by one tick of the RTC, which runs while the backup domain has power
(R479; DESIGN CHOICE, log 1). -/
def State.idle (s : State) : State :=
  if s.sys.backup then { s with sys := { s.sys with rtc := s.sys.rtc + 1 } } else s

/-- One step of the block. (DESIGN CHOICE, log 38) -/
def step (s : State) : Host.Outcome State Fault Refusal :=
  match s.pending with
  | [] => .next s.idle
  | c :: rest => exec c { s with pending := rest }

/-- Puts at the front of the queue the command that a word spells; the table spells none. -/
def State.withFetchWord (s : State) (nbits w : Nat) : State :=
  match decodeTableWord nbits w with
  | none => s
  | some c => { s with pending := c :: s.pending }

end Sys2Proof.Machine
end

