-- ==== Sys2Proof/WellFormed.lean ====
section
/-! DEFINITION. Well-formed commands: every operand names a unit the device has, or a value the event can carry. -/

namespace Sys2Proof

open Machine in
/-- The operands of a command are within their ranges. -/
def Instr.wf (i : Instr) : Bool :=
  match i with
  | .powerOn _ => true
  | .pinReset _ => true
  | .warmReset cause _ => decide (1 ≤ cause ∧ cause ≤ 5)
  | .bootEnd _ => true
  | .bootReadyTimeout => true
  | .pwrfailFall => true
  | .pwrfailRise => true
  | .mainRailLoss => true
  | .hostPortReset _ => true
  | .hostPortReady _ => true
  | .d3hotEnter _ => true
  | .d0Enter _ => true
  | .flr fn => decide (fn < 1024)
  | .flrComplete fn => decide (fn < 1024)
  | .vfRemove _ numVfs => decide (numVfs ≤ 1023)
  | .barAlignViolation fn _ _ => decide (fn < 1024)
  | .barUnmappedAccess fn _ _ => decide (fn < 1024)
  | .poisonedBarWrite fn => decide (fn < 1024)
  | .violWindowExpire => true
  | .violLimitWrite fn _ => decide (fn < 1024)
  | .quarantineLift _ => true
  | .ideUnsecuredRequest fn => decide (fn < 1024)
  | .ideKm _ km => decide (km.stream ≤ 4)
  | .doeDiscovery _ _ => true
  | .getVersion _ => true
  | .getCapabilities _ => true
  | .negotiateAlgorithms _ _ => true
  | .getDigests _ => true
  | .getCertificate _ _ _ => true
  | .challenge _ _ => true
  | .getMeasurements _ _ _ => true
  | .keyExchange _ _ => true
  | .finish _ _ => true
  | .spdmHeartbeat _ => true
  | .keyUpdate _ => true
  | .endSession _ => true
  | .msixVectorUnmask fn vector => decide (fn < 1024) && decide (vector < 256)
  | .dplSelectChange fn _ => decide (fn < 1024)
  | .dplSwitched fn => decide (fn < 1024)
  | .dplReadFail fn => decide (fn < 1024)
  | .sqDoorbell fn ring _ => decide (fn < 1024 ∧ ring < 8)
  | .cqDoorbell fn ring _ => decide (fn < 1024 ∧ ring < 8)
  | .descriptorFetchIssue fn ring => decide (fn < 1024 ∧ ring < 8)
  | .descriptorArrive fn ring tag _ => decide (fn ≤ 1024 ∧ ring < 8) && decide (tag < 65536)
  | .descFetchFail fn ring => decide (fn < 1024 ∧ ring < 8)
  | .ringErrorSettle fn ring => decide (fn < 1024 ∧ ring < 8)
  | .ringEnable fn ring _ => decide (fn < 1024 ∧ ring < 8)
  | .ringDisable fn ring => decide (fn < 1024 ∧ ring < 8)
  | .ringDisabled fn ring => decide (fn < 1024 ∧ ring < 8)
  | .ringReset fn ring => decide (fn < 1024 ∧ ring < 8)
  | .ringResetComplete fn ring => decide (fn < 1024 ∧ ring < 8)
  | .ringIdleMove fn ring => decide (fn < 1024 ∧ ring < 8)
  | .panExtReadDone tag _ => decide (tag < 65536)
  | .wareClassify tag => decide (tag < 65536)
  | .dispatch => true
  | .extensionFetchDone tag _ => decide (tag < 65536)
  | .dataFetchDone tag _ => decide (tag < 65536)
  | .engineTakeWare kiln engine => decide (kiln < 68 ∧ engine < 16)
  | .keyCacheFetchDone tag => decide (tag < 65536)
  | .blobHeaderReadDone tag _ => decide (tag < 65536)
  | .blobBodyReadDone tag _ => decide (tag < 65536)
  | .returnBackoffExpire tag => decide (tag < 65536)
  | .firingEnd tag => decide (tag < 65536)
  | .graphStepEnd tag => decide (tag < 65536)
  | .wareRelease tag _ => decide (tag < 65536)
  | .mergeDelayExpire fn ring => decide (fn < 1024 ∧ ring < 8)
  | .coalTimerExpire fn ring => decide (fn < 1024 ∧ ring < 8)
  | .epochChange saggar => saggar.all fun g => decide (g < 256)
  | .epochNotice saggar kiln => decide (saggar < 256 ∧ kiln < 68)
  | .epochConfirmTimeout saggar kiln => decide (saggar < 256 ∧ kiln < 68)
  | .epochKilnLost saggar kiln => decide (kiln < 68) && decide (saggar < 256)
  | .busyWindowEnd engines wheels _ => decide (engines.length = 1088 ∧ wheels.length = 136)
  | .snapshotTake fn => decide (fn < 1024)
  | .snapshotDone => true
  | .attemptWindowReset => true
  | .kilnResetRun kiln cause _ _ => decide (kiln < 68) && decide (1 ≤ cause ∧ cause ≤ 3)
  | .glazeBankLoad kiln _ => decide (kiln < 68)
  | .kilnWake kiln => decide (kiln < 68)
  | .kilnWakeDone kiln => decide (kiln < 68)
  | .kilnDrain kiln why => decide (kiln < 68) && decide (why < 4)
  | .drainComplete kiln => decide (kiln < 68)
  | .drainAbandon kiln => decide (kiln < 68)
  | .drainRetryTimer kiln => decide (kiln < 68)
  | .kilnPark kiln => decide (kiln < 68)
  | .kilnReturnService kiln => decide (kiln < 68)
  | .kilnRetire kiln => decide (kiln < 68)
  | .keyInvalidate saggar _ _ => decide (saggar < 256)
  | .bepochRetireCleanup saggar => decide (saggar < 256)
  | .keystoreLoad saggar slot => decide (saggar < 256 ∧ slot < 16)
  | .keystoreCeremonyWrite saggar slot _ => decide (saggar < 256 ∧ slot < 16)
  | .keystoreErase saggar slot => decide (saggar < 256 ∧ slot < 16)
  | .prtLock fn segment => decide (fn < 1024 ∧ segment < 2 ^ 18)
  | .prtCommit fn segment => decide (fn < 1024 ∧ segment < 2 ^ 18)
  | .prtAbandon fn segment => decide (fn < 1024 ∧ segment < 2 ^ 18)
  | .segmentWritesSettled segment => decide (segment < 250000)
  | .lockExpire segment => decide (segment < 250000)
  | .evictKeyReseed => true
  | .pageWipe saggar => decide (saggar < 256)
  | .pageWipeDone saggar => decide (saggar < 256)
  | .sourceTestFail run => decide (run.source < 16)
  | .startupTestDone run => decide (run.source < 16 ∧ run.samples.length = 1024)
  | .coolingExpire source => decide (source < 16)
  | .conditionBlockDone run => decide (run.samples.length = 16)
  | .entropyLateTimeout => true
  | .seedDeliver _ => true
  | .entReseedOne fn drbg => decide (fn < 1024 ∧ drbg < 128)
  | .entReseedAll fn => decide (fn < 1024)
  | .entropyWaitTimeout tag => decide (tag < 65536)
  | .go fn mailbox => decide (fn < 1024 ∧ mailbox < 8)
  | .ack fn mailbox => decide (fn < 1024 ∧ mailbox < 8)
  | .abort fn mailbox => decide (fn < 1024 ∧ mailbox < 8)
  | .mbxTake => true
  | .mbxCommandTimeout fn mailbox => decide (fn < 1024 ∧ mailbox < 8)
  | .hello fn mailbox => decide (fn < 1024 ∧ mailbox < 8)
  | .fnStatus fn mailbox => decide (fn < 1024 ∧ mailbox < 8)
  | .deviceInfo fn mailbox => decide (fn < 1024 ∧ mailbox < 8)
  | .fnBind fn mailbox => decide (fn < 1024 ∧ mailbox < 8)
  | .fnUnbind fn mailbox => decide (fn < 1024 ∧ mailbox < 8)
  | .globalOwner fn mailbox => decide (fn < 1024 ∧ mailbox < 8)
  | .dmaAcquire fn mailbox => decide (fn < 1024 ∧ mailbox < 8)
  | .dmaRelease fn mailbox => decide (fn < 1024 ∧ mailbox < 8)
  | .dmaReclaim fn mailbox => decide (fn < 1024 ∧ mailbox < 8)
  | .stagePages fn mailbox => decide (fn < 1024 ∧ mailbox < 8)
  | .saggarStatus fn mailbox => decide (fn < 1024 ∧ mailbox < 8)
  | .policyRead fn mailbox => decide (fn < 1024 ∧ mailbox < 8)
  | .policyWrite fn mailbox => decide (fn < 1024 ∧ mailbox < 8)
  | .quotaSet fn mailbox => decide (fn < 1024 ∧ mailbox < 8)
  | .drain fn mailbox => decide (fn < 1024 ∧ mailbox < 8)
  | .undrain fn mailbox => decide (fn < 1024 ∧ mailbox < 8)
  | .saggarReset fn mailbox => decide (fn < 1024 ∧ mailbox < 8)
  | .keyDestroy fn mailbox => decide (fn < 1024 ∧ mailbox < 8)
  | .origEnrol fn mailbox => decide (fn < 1024 ∧ mailbox < 8)
  | .origWithdraw fn mailbox => decide (fn < 1024 ∧ mailbox < 8)
  | .bepochAdvance fn mailbox => decide (fn < 1024 ∧ mailbox < 8)
  | .bepochRetire fn mailbox => decide (fn < 1024 ∧ mailbox < 8)
  | .ksetWrite fn mailbox => decide (fn < 1024 ∧ mailbox < 8)
  | .segLock fn mailbox => decide (fn < 1024 ∧ mailbox < 8)
  | .segCommit fn mailbox => decide (fn < 1024 ∧ mailbox < 8)
  | .segAbandon fn mailbox => decide (fn < 1024 ∧ mailbox < 8)
  | .segAssign fn mailbox => decide (fn < 1024 ∧ mailbox < 8)
  | .segRelease fn mailbox => decide (fn < 1024 ∧ mailbox < 8)
  | .tableCreate fn mailbox => decide (fn < 1024 ∧ mailbox < 8)
  | .tableSwitch fn mailbox => decide (fn < 1024 ∧ mailbox < 8)
  | .tableDelete fn mailbox => decide (fn < 1024 ∧ mailbox < 8)
  | .kilnReset fn mailbox _ _ => decide (fn < 1024 ∧ mailbox < 8)
  | .entReinstate fn mailbox => decide (fn < 1024 ∧ mailbox < 8)
  | .marginConfig fn mailbox => decide (fn < 1024 ∧ mailbox < 8)
  | .imageStage fn mailbox _ => decide (fn < 1024 ∧ mailbox < 8)
  | .imageStatus fn mailbox => decide (fn < 1024 ∧ mailbox < 8)
  | .imageActivate fn mailbox => decide (fn < 1024 ∧ mailbox < 8)
  | .imageCommit fn mailbox => decide (fn < 1024 ∧ mailbox < 8)
  | .cerBegin fn mailbox _ => decide (fn < 1024 ∧ mailbox < 8)
  | .cerStatus fn mailbox _ => decide (fn < 1024 ∧ mailbox < 8)
  | .cerAbort fn mailbox => decide (fn < 1024 ∧ mailbox < 8)
  | .cerJournal fn mailbox _ => decide (fn < 1024 ∧ mailbox < 8)
  | .rosterRead fn mailbox => decide (fn < 1024 ∧ mailbox < 8)
  | .ceremonyDrained => true
  | .ceremonyTimeLimit => true
  | .cardInsert port => decide (port < 2)
  | .cardDebounceExpire port => decide (port < 2)
  | .cardRemove port => decide (port < 2)
  | .atrReceive port _ _ => decide (port < 2)
  | .atrTimeout port => decide (port < 2)
  | .apduTimeout port => decide (port < 2)
  | .getIdentity port _ _ => decide (port < 2)
  | .putDeviceCert port _ => decide (port < 2)
  | .authenticate port _ _ => decide (port < 2)
  | .releaseShard port _ _ => decide (port < 2)
  | .storeShard port _ _ => decide (port < 2)
  | .pairAuthLapse => true
  | .linkTrainRetry => true
  | .linkLanesLock lanes => decide (lanes = 0 ∨ lanes = 1 ∨ lanes = 2 ∨ lanes = 4)
  | .mirrorHello _ slot _ _ => decide (slot < 2)
  | .pairingFrame kind _ => decide (0x10 ≤ kind ∧ kind ≤ 0x14)
  | .delta _ _ => true
  | .mirrorAck _ _ => true
  | .heartbeat _ mode _ _ _ _ _ => decide (mode < 8)
  | .resyncReq _ _ boot _ => decide (boot < 2 ^ 32)
  | .resyncData _ _ => true
  | .resyncDone _ _ _ _ => true
  | .nack _ => true
  | .keyxfer _ saggar _ _ => decide (saggar < 256)
  | .deltaSend => true
  | .heartbeatSendTimer => true
  | .linkFrameTimeout => true
  | .mirrorReset => true
  | .controlAckTimeout _ => true
  | .replayEntryExpire saggar rid => decide (saggar < 256 ∧ rid < 2 ^ 64)
  | .witnessRequestTimer => true
  | .grant _ => true
  | .promote _ => true
  | .demote _ => true
  | .notice _ => true
  | .leaseExpire => true
  | .mirStatus fn mailbox => decide (fn < 1024 ∧ mailbox < 8)
  | .mirSwitchback fn mailbox => decide (fn < 1024 ∧ mailbox < 8)
  | .switchbackHandover => true
  | .switchbackTimeout => true
  | .mirRetrain fn mailbox => decide (fn < 1024 ∧ mailbox < 8)
  | .tamperSourceAssert source _ _ _ => decide (source < 25)
  | .tamperSourceDeassert source => decide (source ≤ 25)
  | .backupSourceAssert source _ _ _ => decide (source < 28)
  | .detectorDisagreeTimeout source => decide (source < 25)
  | .detectorSelfTest failed => failed.all fun i => decide (i < 25)
  | .decisionSecondEval decision _ _ => decide (1 ≤ decision ∧ decision ≤ 4)
  | .beatIntegrityFail bank => isBank bank
  | .fabricQuietTimeout => true
  | .evidenceCopy => true
  | .alarmStatClear fn _ => decide (fn < 1024)
  | .tamperConfigWrite fn _ _ => decide (fn < 1024)
  | .tamperRecover fn _ => decide (fn < 1024)
  | .faultSourceOccur bank source _ => isBank bank && decide (faultSev bank source ≠ 0)
  | .bankParityFault bank => isBank bank
  | .faultRecover fn _ => decide (fn < 1024)
  | .faultStickyClear fn bank _ => decide (fn < 1024) && isBank bank
  | .errPinHoldExpire => true
  | .recordAccept event => decide (event.stream ≤ 257)
  | .coalesceWindowEnd stream _ _ => decide (stream ≤ 257)
  | .dropSummaryTimer => true
  | .norRecordWrite => true
  | .skipSummaryTimer => true
  | .periodFlush => true
  | .flushEnd _ => true
  | .norBlockEraseDone block _ => decide (block < 1024)
  | .norProgramFail => true
  | .vectorPaceExpire vector => decide (16 ≤ vector ∧ vector ≤ 21)
  | .logStatus fn mailbox => decide (fn < 1024 ∧ mailbox < 8)
  | .logRead fn mailbox => decide (fn < 1024 ∧ mailbox < 8)
  | .logFetch fn mailbox _ => decide (fn < 1024 ∧ mailbox < 8)
  | .logConfig fn mailbox => decide (fn < 1024 ∧ mailbox < 8)
  | .logGrant fn mailbox => decide (fn < 1024 ∧ mailbox < 8)
  | .canaryTrip unit => decide (unit < 68) || decide (0x80 ≤ unit ∧ unit ≤ 0x83)
  | .measureWindowStart => true
  | .measureWindowEnd => true
  | .kilnDue kiln => decide (kiln < 68)
  | .kilnOverdue kiln => decide (kiln < 68)
  | .kilnMeasure kiln found => decide (kiln < 68) && found.all Measured.ok
  | .roCountTimer losses => decide (losses.length = 4)
  | .marginReportTimer => true
  | .lifecycleTransition fn target _ _ => decide (fn < 1024) && decide (target < 16)
  | .answerLapse => true
  | .lcChallenge fn mailbox => decide (fn < 1024 ∧ mailbox < 8)
  | .lcAnswer fn mailbox _ => decide (fn < 1024 ∧ mailbox < 8)
  | .lcStatus fn mailbox => decide (fn < 1024 ∧ mailbox < 8)
  | .dmaKick fn channel => decide (channel < 32) && decide (fn < 1024)
  | .dmaEnable fn channel _ => decide (channel < 32) && decide (fn < 1024)
  | .dmaDisable fn channel => decide (channel < 32) && decide (fn < 1024)
  | .dmaPollTimer channel => decide (channel < 32)
  | .dmaSlotReadDone channel _ => decide (channel < 32)
  | .dmaSlotReadFail channel _ => decide (channel < 32)
  | .dmaHalfPoint channel => decide (channel < 32)
  | .dmaDescriptorComplete channel _ => decide (channel < 32)
  | .dmaChannelReset channel => decide (channel < 32)
  | .smbModGlobal => true
  | .smbTmpStat => true
  | .smbTmpAlarmStat => true
  | .smbFltSumStat => true
  | .smbHottestTj _ => true
  | .smbPwrStat => true
  | .smbConeCapacity => true
  | .smbLccStat => true
  | .smbUnlistedCommand _ command => decide (command < 256)
  | .smbAlertResponse => true
  | .jtagIdcode => true
  | .jtagBypass _ => true
  | .jtagSample _ => true
  | .jtagPreload _ => true
  | .jtagExtest _ => true
  | .jtagCoreHalt core => decide (core < 2)
  | .jtagCoreStep core => decide (core < 2)
  | .jtagBreakpoint core _ => decide (core < 2)
  | .jtagMemoryAccess address _ => decide (address < 2 ^ 44)
  | .factoryBist array _ => decide (array < 8)
  | .factoryDirectAccess array _ _ => decide (array < 5)
  | .rtcLoRead fn => decide (fn < 1024)
  | .rcRegisterRead fn _ => decide (fn < 1024)
  | .registerWrite fn _ _ => decide (fn < 1024)
  | .vfEnable _ numVfs => decide (numVfs ≤ 1023)
  | .perstRelease _ => true
  | .hostLinkUp _ speed width => decide (1 ≤ speed ∧ speed ≤ 5) && [1, 2, 4, 8, 16].contains width
  | .hostLinkDown _ => true
  | .dplBitmapReadDone fn _ => decide (fn < 1024)
  | .selectByName port _ => decide (port < 2)
  | .blockWaitingTimeExpire port => decide (port < 2)
  | .waitingTimeExtension port _ => decide (port < 2)
  | .cardBlockError port => decide (port < 2)
  | .witnessStrayFrame _ => true
  | .backupDomainPowerLoss => true
  | .backupCellConnect => true
  | .sourceFailure24hExpire source => decide (source < 16)
  | .withdrawal24hExpire kiln => decide (kiln < 68)
  | .controlDrbgWaitExpire _ fn mailbox => decide (fn < 1024 ∧ mailbox < 8)

/-- A well-formed command. -/
abbrev WellFormed (i : Instr) : Prop := i.wf = true

end Sys2Proof
end

