-- ==== Sys2Proof/Safety.lean ====
section
/-! DEFINITION. What claims are stated in: completion of a command with what holds after it, the canonical form of memory, and
the invariants of the device. -/

namespace Sys2Proof.Machine

/-- The command answers a next state, and that state has the property. -/
def Completes (c : Instr) (s : State) (after : State → Prop) : Prop := ∃ t, exec c s = .next t ∧ after t

/-- A command that answers a next state and changes nothing. -/
def NoEffect (c : Instr) (s : State) : Prop := exec c s = .next s

/-- Mailbox `k` of function `i` is BUSY with the request `r` of command `code`: taken, its checks passed, its action not begun, its mode
still admitted, and Kazkel running from an image (R316 to R320). -/
structure Serving (s : State) (i k code : Nat) (r : Bytes) : Prop where
  mailbox : boxUnit i k = true
  busy : (s.box i k).state = .busy
  request : (s.box i k).running = some r
  notBegun : (s.box i k).acting = false
  command : reqCode r = code
  kazkel : s.kazkelRuns = true
  normal : s.fw.recovery = false
  mode : (cmdRow code).any (fun row => (State.reqModes r row).contains s.sys.mode) = true

/-- The same, of a command that has begun to act and answers later. -/
structure Underway (s : State) (i k code : Nat) (r : Bytes) : Prop where
  mailbox : boxUnit i k = true
  request : (s.box i k).running = some r
  begun : (s.box i k).acting = true
  command : reqCode r = code
  row : (cmdRow code).isSome = true
  kazkel : s.kazkelRuns = true

/-- What becomes of a replicated command once its own conditions are judged (R325, R328, R361, R370, R377, R378): the refusal; or the
CONTROL group, sent first while MIRRORED; or the change applied at once by an unpaired module; or, on a paired module out of MIRRORED,
refused under the strict policy and applied unmirrored, kept for resynchronisation, under the continue policy. -/
def ReplicatedRow (c : Nat → Nat → Instr) (code : Nat) (refusal : State → Bytes → Option Nat) : Prop :=
  ∀ s i k r, Serving s i k code r → s.controlWaits (byteAt (reqBody r) 0) = false → Completes (c i k) s fun t =>
    (∀ x, refusal s (reqBody r) = some x → t = s.endCommand i k x []) ∧
    (refusal s (reqBody r) = none →
      (s.mirrored = true → t = (s.sendControl code (reqBody r) (.mailbox i k)).modBox i k fun b => { b with acting := true }) ∧
      (s.mirrored = false → s.paired = false →
        t = (s.applyControl code (reqBody r)).1.endCommand i k Mr.OK (s.applyControl code (reqBody r)).2) ∧
      (s.mirrored = false → s.paired = true →
        (s.continues (byteAt (reqBody r) 0) = false → t = s.endCommand i k Mr.UNMIRRORED []) ∧
        (s.continues (byteAt (reqBody r) 0) = true → s.mir.genRaised = true → s.mir.genGranted = true →
          t = ((s.noteControl code (reqBody r)).applyControl code (reqBody r)).1.endCommand i k Mr.OK
            ((s.noteControl code (reqBody r)).applyControl code (reqBody r)).2)))

/-- Memory is in canonical form: addresses rise strictly, and no byte that reads as the wiped value is listed (R269, R324). -/
abbrev Memory.wf (m : List Host.Cell) : Prop := mwf (0 : BitVec 8) m = true

/-- A ledger grows by at most one slot, and no slot once burned changes (R482). -/
def LedgerGrows (s t : State) : Prop := t.lcc.ledger = s.lcc.ledger ∨ ∃ w, t.lcc.ledger = s.lcc.ledger ++ [w]

end Sys2Proof.Machine
end

