-- ==== Sys2Proof/Certificates/Slice0/Obligations.lean ====
section
/-! DEFINITION. What is claimed of the device: one statement per family of commands and kind of state, each citing the rules it rests on,
and the statements about every step. -/

open Sys2Proof Sys2Proof.Machine

/-- R44, R45, R46, R71: a port out of reset. PERST resets the port and its SPDM responder and reaches no other port; its release begins
training; READY needs the release; the link takes rate and width in L0 and loses both with it; D-states are the PF's own.
Choices of the model met here (DESIGN CHOICE, DEDUCED or PRESUMED): log 73. -/
def Obligations.HostPortAndLink : Prop :=
  (∀ s b, s.portExists b = true → s.sys.mode ≠ .dormant →
    Completes (.hostPortReset b) s fun t =>
      t.port b = { fnSel := if b then 512 else 0, downAt := if (s.port b).up then s.sys.rtc.toNat else (s.port b).downAt } ∧
      t.spdm b = {} ∧ t.port (!b) = s.port (!b) ∧ t.spdm (!b) = s.spdm (!b) ∧
      t = { s with host := t.host, setter := t.setter, mbx := t.mbx }) ∧
  (∀ s b, s.portExists b = true → s.sys.mode ≠ .dormant →
    Completes (.perstRelease b) s fun t =>
      t = s.modPort b fun p => { p with perst := false, training := decide (5 ≤ s.sys.bootStep) || s.fw.recovery }) ∧
  (∀ s b, s.portExists b = true → s.sys.fnsReady = true → (s.port b).perst = false →
    Completes (.hostPortReady b) s fun t =>
      t.port b = { s.port b with ready := true } ∧ t.port (!b) = s.port (!b) ∧ t.host.bindings = s.host.bindings ∧
      t = { s with host := t.host }) ∧
  (∀ s b speed width, 1 ≤ speed → speed ≤ 5 → width ∈ [1, 2, 4, 8, 16] → (s.host.split = true → width ≤ 8) →
    s.portExists b = true → (s.port b).training = true → (s.port b).perst = false →
    Completes (.hostLinkUp b speed width) s fun t =>
      t = s.modPort b fun p => { p with up := true, speed := BitVec.ofNat 3 speed, width := BitVec.ofNat 5 width }) ∧
  (∀ s b, (s.port b).up = true →
    Completes (.hostLinkDown b) s fun t =>
      t = s.modPort b fun p => { p with up := false, speed := 0, width := 0, downAt := s.sys.rtc.toNat }) ∧
  (∀ s b, s.configLive b = true →
    (Completes (.d3hotEnter b) s fun t => t = s.modPort b fun p => { p with d3hot := true }) ∧
    (Completes (.d0Enter b) s fun t =>
      t.port b = { s.port b with d3hot := false } ∧ t.port (!b) = s.port (!b) ∧ t.host.fns = s.host.fns ∧
      t.host.heldReads = s.host.heldReads.filter (fun e => s.portOf e.1 ≠ b) ∧
      t.out = (((s.host.heldReads.filter fun e => s.portOf e.1 = b).map fun e => Out.hostRead e.1 e.2.1 e.2.2).reverse) ++ s.out ∧
      t = { s with host := t.host, out := t.out })) ∧
  (∀ s b, s.portExists b = false ∨ (s.port b).perst = true ∨ (s.port b).ready = false →
    NoEffect (.d3hotEnter b) s ∧ NoEffect (.d0Enter b) s)

/-- R49, R50, R58, R59: FLR marks every ware of the function stale and clears what R59 lists; its end drops the mailboxes' commands and takes
back the channels; NumVFs changes as VFs come and go.
Choices of the model met here (DESIGN CHOICE, DEDUCED or PRESUMED): log 30. -/
def Obligations.FunctionResetsAndVfs : Prop :=
  (∀ s i, i < 1024 → s.answers i = true →
    Completes (.flr i) s fun t =>
      t.fn i = { s.fn i with gen := (s.fn i).gen + 1, staleCnt := (t.fn i).staleCnt, queue := State.dropVectors (State.keepFresh (s.fn i).queue), msix := [], pba := 0,
                             irqCause := 0, flr := true } ∧
      (∀ q, q < 8 → t.ring i q = {}) ∧
      (∀ tag w, s.ware tag = some w → w.fn = i → ∃ w', t.ware tag = some w' ∧ w'.stale = true ∧ w'.ringless = true) ∧
      (∀ tag w, s.ware tag = some w → w.fn ≠ i → t.ware tag = some w) ∧
      mget 0 t.log.grants i = 0 ∧ (∀ j, j ≠ i → t.fn j = s.fn j) ∧
      t = { s with host := t.host, setter := t.setter, log := t.log }) ∧
  (∀ s i, i < 1024 → (s.fn i).flr = true → s.tmp.halted = false →
    Completes (.flrComplete i) s fun t =>
      (t.fn i).flr = false ∧ (t.fn i).gen = (s.fn i).gen ∧ (∀ c ∈ s.lentTo i, t.chan c = {}) ∧
      (∀ c, c ∉ s.lentTo i → t.chan c = { s.chan c with state := (t.chan c).state }) ∧
      (∀ k, k < 8 → (t.box i k).state = .idle ∧ (t.box i k).data = [] ∧ (t.box i k).running = (s.box i k).running) ∧
      mget 0 t.mbx.levels i = 0 ∧
      t = { s with host := t.host, routing := t.routing, mbx := t.mbx, dma := t.dma, store := t.store, mem := t.mem, freeCtr :=
                   t.freeCtr, out := t.out }) ∧
  (∀ s b n, n ≤ 1023 → s.portExists b = true → (s.port b).ready = true → n ≤ s.totalVfs → (s.port b).numVfs ≤ n →
    Completes (.vfEnable b n) s fun t =>
      t.port b = { s.port b with numVfs := n } ∧ t.port (!b) = s.port (!b) ∧
      (∀ i ∈ s.presentOn b, t.fn i = s.fn i) ∧
      t = { s with host := t.host }) ∧
  (∀ s b n, s.portExists b = true → n < (s.port b).numVfs → (s.port b).numVfs ≤ 1023 →
    Completes (.vfRemove b n) s fun t =>
      (t.port b).numVfs = n ∧ (∀ i ∈ s.vfsAbove b n, (t.fn i).flr = true) ∧ t.port (!b) = s.port (!b) ∧
      t = { s with host := t.host, setter := t.setter, log := t.log })

/-- R45, R49, R50, R59: for every state and operand in range, where each of the four commands completes with its effect and where it changes
nothing.
Choices of the model met here (DESIGN CHOICE, DEDUCED or PRESUMED): log 30. -/
def Obligations.FunctionResetCommandsComplete : Prop :=
  (∀ s i, i < 1024 →
    (s.answers i = true → Completes (.flr i) s fun t =>
      (t.fn i).flr = true ∧ t.answers i = false ∧ (t.fn i).gen = (s.fn i).gen + 1 ∧ ∀ q, q < 8 → (t.ring i q).state = .disabled) ∧
    (s.answers i = false → NoEffect (.flr i) s) ∧
    ((s.fn i).flr = true → s.tmp.halted = false → Completes (.flrComplete i) s fun t => (t.fn i).flr = false ∧ s.host.bindings = t.host.bindings) ∧
    ((s.fn i).flr = false ∨ s.tmp.halted = true → NoEffect (.flrComplete i) s)) ∧
  (∀ s b n, n ≤ 1023 →
    (s.portExists b = true → (s.port b).ready = true → n ≤ s.totalVfs → (s.port b).numVfs ≤ n →
      Completes (.vfEnable b n) s fun t => (t.port b).numVfs = n ∧ t.port (!b) = s.port (!b)) ∧
    (s.portExists b = false ∨ (s.port b).ready = false ∨ s.totalVfs < n ∨ n < (s.port b).numVfs → NoEffect (.vfEnable b n) s) ∧
    (s.portExists b = true → n < (s.port b).numVfs →
      Completes (.vfRemove b n) s fun t => (t.port b).numVfs = n ∧ t.port (!b) = s.port (!b)) ∧
    (s.portExists b = false ∨ (s.port b).numVfs ≤ n → NoEffect (.vfRemove b n) s))

/-- R54, R66, R69, R70: violations set their bit and count, and quarantine a VF at LIMIT; windows end and restart; the PF of the port lifts
quarantine; a request outside IDE is refused.
Choices of the model met here (DESIGN CHOICE, DEDUCED or PRESUMED): log 104, 110, 140. -/
def Obligations.ViolationsAndQuarantine : Prop :=
  (∀ s i bit c, i < 1024 → s.answers i = true →
    (c = .poisonedBarWrite i ∧ bit = 2 ∨ ∃ read o, c = .barAlignViolation i read o ∧ bit = 0 ∨
        c = .barUnmappedAccess i read o ∧ s.regRead i o = none ∧ bit = 1) →
    Completes c s fun t =>
      (t.fn i).viol = setBit (s.fn i).viol bit ∧ (t.fn i).violWindow = (s.fn i).violWindow + 1 ∧
      (t.fn i).violTotal = satInc (s.fn i).violTotal ∧
      (t.fn i).quarantined = ((s.fn i).quarantined || (!s.isPf i && decide (s.host.violLimit ≠ 0) &&
        decide (s.host.violLimit.toNat ≤ ((s.fn i).violWindow + 1).toNat))) ∧
      (∀ j, j ≠ i → (t.fn j).viol = (s.fn j).viol ∧ (t.fn j).violWindow = (s.fn j).violWindow ∧
        (t.fn j).quarantined = (s.fn j).quarantined) ∧
      t.host.rings = s.host.rings ∧ t.host.bindings = s.host.bindings ∧
      t = { s with host := t.host, log := t.log, out := t.out }) ∧
  (∀ s i o, i < 1024 → s.answers i = true →
    (s.regRead i o = none → Completes (.barUnmappedAccess i true o) s fun t => t.out.head? = some (.barRead i o 0)) ∧
    Completes (.barAlignViolation i true o) s (fun t => t.out.head? = some (.barRead i o 0))) ∧
  (∀ s i, i < 1024 → s.answers i = true → Completes (.poisonedBarWrite i) s fun t => t.out.head? = some (.aerPoisoned i)) ∧
  (∀ s, Completes .violWindowExpire s fun t =>
    (∀ j, t.fn j = { s.fn j with violWindow := 0 }) ∧ t = { s with host := { s.host with fns := t.host.fns } }) ∧
  (∀ s i v, i < 1024 → s.answers i = true → s.isPf i = true → s.ownerPf = i →
    Completes (.violLimitWrite i v) s fun t =>
      t.host.violLimit = BitVec.ofNat 16 v.toNat ∧
      t.host.violWindowMs = (if v.toNat / 65536 = 0 then 1 else BitVec.ofNat 16 (v.toNat / 65536)) ∧
      (∀ j, t.fn j = { s.fn j with violWindow := 0 }) ∧
      t = { s with host := { s.host with fns := t.host.fns, violLimit := t.host.violLimit, violWindowMs := t.host.violWindowMs } }) ∧
  (∀ s b, s.portExists b = true → s.answers (State.pfOf b) = true → s.portOf (s.port b).fnSel.toNat = b →
    Completes (.quarantineLift b) s fun t => t = s.modFn (s.port b).fnSel.toNat fun f => { f with quarantined := false }) ∧
  (∀ s b, s.portExists b = true → s.answers (State.pfOf b) = true → s.portOf (s.port b).fnSel.toNat ≠ b →
    Completes (.quarantineLift b) s fun t =>
      (t.fn (State.pfOf b)).viol = setBit (s.fn (State.pfOf b)).viol 1 ∧ ∀ j, j ≠ State.pfOf b → (t.fn j).quarantined = (s.fn j).quarantined) ∧
  (∀ s i, i < 1024 → s.host.ideRequired = true → s.answers i = true →
    Completes (.ideUnsecuredRequest i) s fun t => t = { s with out := .unsupportedRequest i :: s.out })

/-- R46, R67, R68: the SPDM requests of one connection, each in its turn; refused before it. Every answer is one DOE message of the PF.
Choices of the model met here (DESIGN CHOICE, DEDUCED or PRESUMED): log 51, 58, 137. -/
def Obligations.SpdmConnection : Prop :=
  (∀ s b n, s.doeLive b = true →
    Completes (.doeDiscovery b n) s fun t =>
      t = s.emit (.doe (State.pfOf b) (if n ≤ 2 then [1, 0, byte n, byte ((n + 1) % 3)] else [0xFF, 0xFF, 0, 0]))) ∧
  (∀ s b, s.doeLive b = true →
    Completes (.getVersion b) s fun t =>
      t.spdm b = { versioned := true, ideKeys := (s.spdm b).ideKeys } ∧ t.spdm (!b) = s.spdm (!b) ∧
      t.out = .doe (State.pfOf b) (Config.spdmMessage 0x04 [0x12]) :: s.out ∧
      t = { s with host := t.host, out := t.out }) ∧
  (∀ s b, s.doeLive b = true →
    Completes (.getCapabilities b) s fun t =>
      t.spdm b = (if (s.spdm b).versioned then { s.spdm b with capable := true } else s.spdm b) ∧
      t.out = .doe (State.pfOf b) (if (s.spdm b).versioned then Config.spdmMessage 0x61 [] else Config.spdmMessage 0x7F [4]) :: s.out ∧
      t = { s with host := t.host, out := t.out }) ∧
  (∀ s b offers, s.doeLive b = true →
    Completes (.negotiateAlgorithms b offers) s fun t =>
      t.spdm b = (if (s.spdm b).capable then { s.spdm b with negotiated := offers } else s.spdm b) ∧
      t.out = .doe (State.pfOf b)
        (if (s.spdm b).capable then Config.spdmMessage 0x63 [byte (b2n offers)] else Config.spdmMessage 0x7F [4]) :: s.out ∧
      t = { s with host := t.host, out := t.out }) ∧
  (∀ s b, s.doeLive b = true →
    Completes (.getDigests b) s fun t =>
      t = s.emit (.doe (State.pfOf b)
        (if (s.spdm b).negotiated then Config.spdmMessage 0x01 (1 :: Config.sha384 s.chainOf) else Config.spdmMessage 0x7F [4]))) ∧
  (∀ s b off len, s.doeLive b = true →
    Completes (.getCertificate b 0 ⟨off, len⟩) s fun t =>
      t = s.emit (.doe (State.pfOf b)
        (if (s.spdm b).negotiated then Config.spdmMessage 0x02 ((s.chainOf.drop off).take len) else Config.spdmMessage 0x7F [4]))) ∧
  (∀ s b nonce s' r, s.doeLive b = true → (s.spdm b).negotiated = true → s.controlBytes 32 = (s', some r) →
    Completes (.challenge b ⟨0, nonce⟩) s fun t =>
      t = s'.emit (.doe (State.pfOf b) (Config.spdmMessage 0x03 ((Config.sha384 s'.chainOf ++ r) ++
        Config.deviceSign (nonce ++ (Config.sha384 s'.chainOf ++ r)))))) ∧
  (∀ s b i nonce blocks s' r, s.doeLive b = true → (s.spdm b).negotiated = true → s.controlBytes 32 = (s', some r) →
    (i = 0 ∧ blocks = [] ∨ i = 0xFF ∧ blocks = [1, 2, 3, 4, 5, 6] ∨ 1 ≤ i ∧ i ≤ 6 ∧ blocks = [i]) →
    Completes (.getMeasurements b i nonce) s fun t =>
      t = s'.emit (.doe (State.pfOf b) (Config.spdmMessage 0x60
        (([6] ++ (blocks.flatMap fun k => byte k :: s'.measurement k) ++ r) ++
          Config.deviceSign (nonce ++ ([6] ++ (blocks.flatMap fun k => byte k :: s'.measurement k) ++ r)))))) ∧
  (∀ s b i nonce s', s.doeLive b = true → (s.spdm b).negotiated = true → s.controlBytes 32 = (s', none) → i ≤ 6 ∨ i = 0xFF →
    (Completes (.challenge b ⟨0, nonce⟩) s fun t =>
      t = s'.modEnt fun e => { e with waiting := e.waiting ++ [.challenge b nonce] }) ∧
    (Completes (.getMeasurements b i nonce) s fun t =>
      t = s'.modEnt fun e => { e with waiting := e.waiting ++ [.measurements b i nonce] })) ∧
  (∀ s b i slot off len nonce peer c, s.doeLive b = true → (s.spdm b).negotiated = true →
    slot ≠ 0 ∧ c ∈ [Instr.getCertificate b slot ⟨off, len⟩, .challenge b ⟨slot, nonce⟩, .keyExchange b ⟨slot, peer⟩] ∨
      6 < i ∧ i ≠ 0xFF ∧ c = .getMeasurements b i nonce →
    Completes c s fun t => t = s.emit (.doe (State.pfOf b) (Config.spdmMessage 0x7F [1]))) ∧
  (∀ s b i slot nonce peer c, s.doeLive b = true → (s.spdm b).negotiated = false →
    c ∈ [Instr.challenge b ⟨slot, nonce⟩, .getMeasurements b i nonce, .keyExchange b ⟨slot, peer⟩] →
    Completes c s fun t => t = s.emit (.doe (State.pfOf b) (Config.spdmMessage 0x7F [4]))) ∧
  (∀ s b n offers slot off len nonce c, s.doeLive b = false →
    c ∈ [Instr.doeDiscovery b n, .getVersion b, .getCapabilities b, .negotiateAlgorithms b offers, .getDigests b,
      .getCertificate b slot ⟨off, len⟩, .challenge b ⟨slot, nonce⟩, .getMeasurements b n nonce] → NoEffect c s)

/-- R66, R67: the session requests. Each emits one DOE message and changes the responder of its own port only.
Choices of the model met here (DESIGN CHOICE, DEDUCED or PRESUMED): log 51, 137. -/
def Obligations.SpdmSession : Prop :=
  (∀ s b peer s' e, s.doeLive b = true → (s.spdm b).negotiated = true → s.controlBytes 48 = (s', some e) →
    Completes (.keyExchange b ⟨0, peer⟩) s fun t =>
      (t.spdm b).handshake = ((s'.spdm b).handshake || (Config.ecdhP384 e peer).isSome) ∧
      (t.spdm b).session = (s'.spdm b).session ∧ t.spdm (!b) = s'.spdm (!b) ∧ t.out.length = s'.out.length + 1 ∧
      t = { s' with host := t.host, out := t.out }) ∧
  (∀ s b peer s', s.doeLive b = true → (s.spdm b).negotiated = true → s.controlBytes 48 = (s', none) →
    Completes (.keyExchange b ⟨0, peer⟩) s fun t => t = s'.modEnt fun e => { e with waiting := e.waiting ++ [.keyExchange b peer] }) ∧
  (∀ s b verifies, s.doeLive b = true → (s.spdm b).handshake = true →
    Completes (.finish b verifies) s fun t =>
      t.spdm b = (if verifies then { s.spdm b with handshake := false, session := true, keyGen := 0 }
        else { s.spdm b with handshake := false }) ∧ t.spdm (!b) = s.spdm (!b) ∧
      t.out = .doe (State.pfOf b) (Config.spdmMessage (if verifies then 0x65 else 0x7F) (if verifies then [] else [6])) :: s.out ∧
      t = { s with host := t.host, out := t.out }) ∧
  (∀ s b, s.doeLive b = true →
    Completes (.spdmHeartbeat b) s fun t =>
      t = s.emit (.doe (State.pfOf b) (if (s.spdm b).session then Config.spdmMessage 0x68 [] else Config.spdmMessage 0x7F [4]))) ∧
  (∀ s b, s.doeLive b = true → (s.spdm b).session = true →
    Completes (.keyUpdate b) s fun t =>
      t.spdm b = { s.spdm b with keyGen := (s.spdm b).keyGen + 1 } ∧ t.spdm (!b) = s.spdm (!b) ∧
      t.out = .doe (State.pfOf b) (Config.spdmMessage 0x69 []) :: s.out ∧
      t = { s with host := t.host, out := t.out }) ∧
  (∀ s b, s.doeLive b = true → (s.spdm b).session = true →
    Completes (.endSession b) s fun t =>
      t.spdm b = { s.spdm b with session := false } ∧ t.spdm (!b) = s.spdm (!b) ∧
      t.out = .doe (State.pfOf b) (Config.spdmMessage 0x6C []) :: s.out ∧
      t = { s with host := t.host, out := t.out }) ∧
  (∀ s b k key, k ≤ 4 → s.doeLive b = true → (s.spdm b).session = true →
    Completes (.ideKm b ⟨k, key⟩) s fun t =>
      t.spdm b = { s.spdm b with ideKeys := minsert (s.spdm b).ideKeys k (padTo 32 key) } ∧ t.spdm (!b) = s.spdm (!b) ∧
      t.out = .doe (State.pfOf b) (Config.spdmMessage 0x7E [byte k]) :: s.out ∧
      t = { s with host := t.host, out := t.out }) ∧
  (∀ s b k key c, k ≤ 4 → s.doeLive b = true → (s.spdm b).session = false → c ∈ [Instr.keyUpdate b, .endSession b, .ideKm b ⟨k, key⟩] →
    Completes c s fun t => t = s.emit (.doe (State.pfOf b) (Config.spdmMessage 0x7F [4])))

/-- R61 to R65, R95: unmasking sends a pending message once; a change of SELECT takes effect at one point; SWITCHED after the last word;
a bitmap read ends, or fails with READ_ERR and the end of logging.
Choices of the model met here (DESIGN CHOICE, DEDUCED or PRESUMED): log 97. -/
def Obligations.MsixAndDirtyPageLog : Prop :=
  (∀ s i v, i < 1024 → v < s.vectorsOf i → s.answers i = true →
    Completes (.msixVectorUnmask i v) s fun t =>
      t.fn i = { s.fn i with msix := (t.fn i).msix, pba := clearBit (s.fn i).pba v } ∧
      (t.fn i).entry v = { (s.fn i).entry v with masked := false } ∧ (∀ u, u ≠ v → (t.fn i).entry u = (s.fn i).entry u) ∧
      t.out = (if (s.fn i).pba.getLsbD v then [.msix i v] else []) ++ s.out ∧ (∀ j, j ≠ i → t.fn j = s.fn j) ∧
      t = { s with host := t.host, out := t.out }) ∧
  (∀ s i sel, i < 1024 → s.answers (State.pfOf (s.portOf i)) = true → s.ownerPf = State.pfOf (s.portOf i) →
    Completes (.dplSelectChange i sel) s fun t =>
      t = s.modFn i fun f => if f.dpl.select = sel then f else
        { f with dpl := { f.dpl with select := sel, switched := false, cache := f.dpl.cache.filter fun e => e.1.1 != sel } }) ∧
  (∀ s i, i < 1024 → (s.fn i).dpl.switched = false → State.noLogs (s.fn i) (!(s.fn i).dpl.select) = true →
    Completes (.dplSwitched i) s fun t =>
      t = s.modFn i fun f =>
        { f with dpl := { f.dpl with switched := true, cache := f.dpl.cache.filter fun e => e.1.1 == f.dpl.select } }) ∧
  (∀ s i word bm page rest, i < 1024 → (s.fn i).reading = true → (s.fn i).queue = .log bm page :: rest →
    word.getLsbD (page % 64) = false →
    Completes (.dplBitmapReadDone i word) s fun t =>
      Out.hostWrite i ((s.fn i).dpl.wordAddr bm (page / 64)) (leBytes (setBit word (page % 64)).toNat 8) ∈ t.out ∧
      (t.fn i).gen = (s.fn i).gen ∧ (t.fn i).viol = (s.fn i).viol ∧ (t.fn i).dpl.select = (s.fn i).dpl.select ∧ (∀ j, j ≠ i → t.fn j = s.fn j) ∧
      t = { s with host := t.host, out := t.out }) ∧
  (∀ s i, i < 1024 → (s.fn i).reading = true →
    Completes (.dplReadFail i) s fun t =>
      (t.fn i).dpl.readErr = true ∧ (t.fn i).dpl.enable = false ∧ (t.fn i).viol = setBit (s.fn i).viol 6 ∧
      (t.fn i).violWindow = (s.fn i).violWindow + 1 ∧
      t = { s with host := t.host, log := t.log, out := t.out })

/-- R57, R69, R75 to R77, R90, R95, R96, R99, R543: doorbells, fetches, arrivals, and how a ring meets and settles an error.
Choices of the model met here (DESIGN CHOICE, DEDUCED or PRESUMED): log 28, 73, 97, 125, 135. -/
def Obligations.DoorbellsAndDescriptors : Prop :=
  (∀ s i q v, i < 1024 → q < 8 → s.answers i = true → (s.fn i).quarantined = false → (s.ring i q).state = .running →
    v.toNat < 2 ^ (s.ring i q).sqLog2 →
    Completes (.sqDoorbell i q v) s fun t => t = s.modRing i q fun r => { r with sqTail := v.toNat, moved := false }) ∧
  (∀ s i q v, i < 1024 → q < 8 → s.answers i = true → (s.fn i).quarantined = false → (s.ring i q).state = .running →
    2 ^ (s.ring i q).sqLog2 ≤ v.toNat →
    Completes (.sqDoorbell i q v) s fun t =>
      t.ring i q = { s.ring i q with settling := some ((s.ring i q).settling.getD .sqRange) } ∧
      (t.fn i).viol = setBit (s.fn i).viol 3 ∧ (∀ j p, p < 8 → (j, p) ≠ (i, q) → t.ring j p = s.ring j p) ∧
      t = { s with host := t.host, log := t.log, out := t.out }) ∧
  (∀ s i q v, i < 1024 → q < 8 → s.answers i = true → (s.fn i).quarantined = false →
    (s.ring i q).state = .disabled ∨ (s.ring i q).state = .resetting →
    Completes (.sqDoorbell i q v) s fun t =>
      (t.fn i).viol = setBit (s.fn i).viol 3 ∧ t.host.rings = s.host.rings ∧
      t = { s with host := t.host, log := t.log, out := t.out }) ∧
  (∀ s i q v, i < 1024 → q < 8 → s.answers i = true → (s.fn i).quarantined = false → (s.ring i q).state ≠ .resetting →
    v.toNat < 2 ^ (s.ring i q).cqLog2 →
    ringDist (2 ^ (s.ring i q).cqLog2) v.toNat (s.ring i q).cqHead ≤ (s.ring i q).unread →
    Completes (.cqDoorbell i q v) s fun t =>
      (t.ring i q).cqHead = v.toNat ∧ (t.ring i q).cqTail = (s.ring i q).cqTail ∧ (t.ring i q).state = (s.ring i q).state ∧
      (t.ring i q).moved = false ∧ (∀ j p, p < 8 → (j, p) ≠ (i, q) → t.ring j p = s.ring j p) ∧
      t = { s with host := t.host, out := t.out }) ∧
  (∀ s i q v, i < 1024 → q < 8 → s.answers i = true → (s.fn i).quarantined = false → (s.ring i q).state = .running →
    2 ^ (s.ring i q).cqLog2 ≤ v.toNat →
    Completes (.cqDoorbell i q v) s fun t =>
      t.ring i q = { s.ring i q with settling := some ((s.ring i q).settling.getD .cqRange) } ∧
      (t.fn i).viol = setBit (s.fn i).viol 3) ∧
  (∀ s i q, i < 1024 → q < 8 → s.mayFetch i q = true →
    Completes (.descriptorFetchIssue i q) s fun t =>
      t = { s.modRing i q fun r => { r with fetches := r.fetches ++ [r.sqFetch], sqFetch := (r.sqFetch + 1) % 2 ^ r.sqLog2 } with
        out := .hostRead i ((s.ring i q).sqBase.toNat + 128 * (s.ring i q).sqFetch) 128 :: s.out }) ∧
  (∀ s i q tag d, i < 1024 → q < 8 → tag < 65536 → (s.ring i q).fetches ≠ [] → s.ware tag = none →
    Completes (.descriptorArrive i q tag d) s fun t =>
      (∃ w, t.ware tag = some w ∧ w.fn = i ∧ w.ring = q ∧ w.gen = (s.fn i).gen ∧ w.desc = padTo 128 d ∧ w.seq = s.setter.nextSeq ∧
        w.phase = .stamped ∧ w.stale = false ∧ w.saggar = (s.fn i).bound.getD 256) ∧
      t.ring i q = { s.ring i q with fetches := (s.ring i q).fetches.drop 1, sqHead := ((s.ring i q).sqHead + 1) % 2 ^ (s.ring i q).sqLog2 } ∧
      (∀ tag', tag' ≠ tag → t.ware tag' = s.ware tag') ∧
      t = { s with host := t.host, setter := t.setter, out := t.out }) ∧
  (∀ s q tag d, q < 8 → tag < 65536 → s.sys.mode = .ceremony → s.cus.cer.step ≠ 0 → s.ware tag = none →
    Completes (.descriptorArrive State.kazkelFn q tag d) s fun t =>
      (∃ w, t.ware tag = some w ∧ w.ceremony = true ∧ w.fn = State.kazkelFn ∧ w.desc = padTo 128 d ∧ w.saggar = s.cus.cer.saggar) ∧
      (∀ tag', tag' ≠ tag → t.ware tag' = s.ware tag') ∧ 
      t = { s with setter := t.setter }) ∧
  (∀ s i q, i < 1024 → q < 8 → (s.ring i q).fetches ≠ [] →
    Completes (.descFetchFail i q) s fun t =>
      t.ring i q = { s.ring i q with fetches := [], sqFetch := (s.ring i q).sqHead, settling := some .descFetch } ∧
      (t.fn i).viol = setBit (s.fn i).viol 4 ∧
      t = { s with host := t.host, log := t.log, out := t.out }) ∧
  (∀ s i q c, i < 1024 → q < 8 → (s.ring i q).fetches = [] → (s.ring i q).settling = some c →
    Completes (.ringErrorSettle i q) s fun t =>
      t = s.modRing i q fun r => { r with state := .error, cause := c, errIndex := r.sqHead, sqFetch := r.sqHead, settling := none })

/-- R74, R80, R94, R95, R97, R98, R100: ring configuration, disabling, reset, and the timers of record merging and coalescing.
Choices of the model met here (DESIGN CHOICE, DEDUCED or PRESUMED): log 28, 29, 97. -/
def Obligations.RingControlAndReset : Prop :=
  (∀ s i q v, i < 1024 → q < 8 → s.answers i = true → (s.ring i q).state = .disabled →
    Completes (.ringEnable i q v) s fun t =>
      let sq := field v.toNat 4 4
      let cq := field v.toNat 8 4
      let ok := decide (4 ≤ sq ∧ sq ≤ 12) && decide (4 ≤ cq ∧ cq ≤ 12)
      t = s.modRing i q fun r =>
        { r with prio := field v.toNat 12 2, sqLog2 := sq, cqLog2 := cq, shadowEn := bitAt v.toNat 14, enable := true,
                 state := if ok then .running else .error, cause := if ok then r.cause else .config,
                 errIndex := if ok then r.errIndex else r.sqHead, sqFetch := if ok then r.sqHead else r.sqFetch,
                 moved := if ok then false else r.moved }) ∧
  (∀ s i q v, i < 1024 → q < 8 → s.answers i = true → (s.ring i q).state = .running ∨ (s.ring i q).state = .error →
    Completes (.ringEnable i q v) s fun t => t = s.modRing i q fun r => { r with prio := field v.toNat 12 2, enable := true }) ∧
  (∀ s i q, i < 1024 → q < 8 → s.answers i = true →
    Completes (.ringDisable i q) s fun t => t = s.modRing i q fun r => { r with enable := false }) ∧
  (∀ s i q, i < 1024 → q < 8 → (s.ring i q).state = .running → (s.ring i q).enable = false → (s.ring i q).fetches = [] →
    (s.ring i q).settling = none → s.ringInflight i q = 0 →
    Completes (.ringDisabled i q) s fun t => t = s.modRing i q fun r => { r with state := .disabled }) ∧
  (∀ s i q, i < 1024 → q < 8 → s.answers i = true → (s.ring i q).state ≠ .resetting →
    Completes (.ringReset i q) s fun t =>
      t.ring i q = { s.ring i q with state := .resetting, cause := .none, fetches := [], sqFetch := (s.ring i q).sqHead, settling := none,
                                     dropped := (t.ring i q).dropped, held := [] } ∧
      (∀ tag w, t.ware tag = some w → w.fn = i → w.ring = q → w.ringless = false → w.discard = true) ∧
      (∀ j p, p < 8 → (j, p) ≠ (i, q) → t.ring j p = s.ring j p) ∧
      t = { s with host := t.host, setter := t.setter, kilns := t.kilns, wheels := t.wheels, keys := t.keys, mir := t.mir, store :=
                   t.store, out := t.out }) ∧
  (∀ s i q, i < 1024 → q < 8 → (s.ring i q).state = .resetting → s.ringQuiet i q = true →
    Completes (.ringResetComplete i q) s fun t =>
      (let r := s.ring i q
       t.ring i q = { sqLog2 := r.sqLog2, cqLog2 := r.cqLog2, prio := r.prio, shadowEn := r.shadowEn, sqBase := r.sqBase, cqBase := r.cqBase,
                      shadow := r.shadow, coalCount := r.coalCount, coalTime := r.coalTime, dropped := r.dropped }) ∧
      (∀ j p, p < 8 → (j, p) ≠ (i, q) → t.ring j p = s.ring j p) ∧
      t = { s with host := t.host, setter := t.setter }) ∧
  (∀ s i q, i < 1024 → q < 8 → (s.ring i q).fetches = [] → s.ringInflight i q = 0 →
    Completes (.ringIdleMove i q) s fun t => t = s.modRing i q fun r => { r with moved := true }) ∧
  (∀ s i q, i < 1024 → q < 8 →
    Completes (.mergeDelayExpire i q) s fun t =>
      (t.ring i q).held = [] ∧ (t.ring i q).state = (s.ring i q).state ∧
      ((s.ring i q).held ≠ [] → (t.ring i q).cqTail = ((s.ring i q).cqTail + (s.ring i q).held.length) % 2 ^ (s.ring i q).cqLog2) ∧
      (∀ j p, p < 8 → (j, p) ≠ (i, q) → t.ring j p = s.ring j p) ∧
      t = { s with host := t.host, out := t.out }) ∧
  (∀ s i q, i < 1024 → q < 8 → 0 < (s.ring i q).unsignalled →
    Completes (.coalTimerExpire i q) s fun t =>
      t.ring i q = { s.ring i q with unsignalled := 0 } ∧
      ((s.fn i).queue = [] → ((s.fn i).entry q).masked = false → Out.msix i q ∈ t.out) ∧
      t = { s with host := t.host, out := t.out })

/-- R84, R102, R103, R105, R108 to R110, R116, R375: classification refuses or queues; a dispatch places the ware returned first.
Choices of the model met here (DESIGN CHOICE, DEDUCED or PRESUMED): log 31, 35. -/
def Obligations.ClassifyAndDispatch : Prop :=
  (∀ s tag w st, tag < 65536 → s.ware tag = some w → w.phase = .stamped → w.panRead ≠ none →
    (s.tagsWhere fun x => x.phase == .stamped && x.fn = w.fn && x.ring = w.ring && decide (x.seq < w.seq)) = [] →
    s.earlyChecks w = some st →
    Completes (.wareClassify tag) s fun t =>
      (∃ w', t.ware tag = some w' ∧ w'.phase = .refused ∧ w'.status = st ∧ w'.result = [] ∧ w'.fn = w.fn ∧ w'.ring = w.ring ∧ w'.seq = w.seq) ∧
      (∀ tag', tag' ≠ tag → t.ware tag' = s.ware tag') ∧
      t = { s with setter := t.setter }) ∧
  (∀ s tag w g, tag < 65536 → s.ware tag = some w → w.phase = .stamped → w.panRead ≠ none →
    (s.tagsWhere fun x => x.phase == .stamped && x.fn = w.fn && x.ring = w.ring && decide (x.seq < w.seq)) = [] →
    s.earlyChecks w = none → dPanRouted w.desc = false → (s.fn w.fn).bound = some g →
    polAdmits ((s.saggar g).pol.record w.pset) (dCode w.desc) (s.privileged w.fn g) = true →
    Completes (.wareClassify tag) s fun t =>
      (∃ w', t.ware tag = some w' ∧ w'.phase = .queued ∧ w'.saggar = g ∧ w'.group = dGroup w.desc ∧ w'.handle = field (dKeyRef w.desc) 0 22 ∧
        w'.cls = max (if dPrioOverride w.desc then dClass w.desc else (s.ring w.fn w.ring).prio) (polCeiling (s.policyOf g)) ∧
        mget [] t.setter.queues (64 * w'.cls + w'.group) = mget [] s.setter.queues (64 * w'.cls + w'.group) ++ [tag]) ∧
      (∀ tag', tag' ≠ tag → t.ware tag' = s.ware tag') ∧
      t = { s with setter := t.setter, keys := t.keys }) ∧
  (∀ s, s.eligibleKilns = [] → NoEffect .dispatch s) ∧
  (∀ s tag w k, s.eligibleKilns ≠ [] → s.oldestReturned 0 = some tag → s.ware tag = some w → s.choosePlace w = some k →
    w.placed ≠ none → w.epoch = (s.saggar w.saggar).epoch → dStateChanging w.desc = false → dCode w.desc ≠ 0x0410 →
    dExtension w.desc = true → s.fetchOk w.fn = true → (s.port (s.portOf w.fn)).d3hot = false → (s.kiln k).fetches.length < 8 →
    Completes .dispatch s fun t =>
      t.ware tag = some { w with kiln := k, lineTag := some w.saggar, phase := .arriving, ext := [], data := [], dataLeft := 0 } ∧
      (t.kiln k).queue = (s.kiln k).queue ++ [tag] ∧
      (t.kiln k).fetches = (s.kiln k).fetches ++ [(tag, dExtPtr w.desc, dExtLen w.desc)] ∧ (∀ j, j ≠ k → t.kiln j = s.kiln j) ∧
      t.out = .hostRead w.fn (dExtPtr w.desc) (dExtLen w.desc) :: s.out ∧ (∀ tag', tag' ≠ tag → t.ware tag' = s.ware tag') ∧
      t = { s with setter := t.setter, kilns := t.kilns, out := t.out }) ∧
  (∀ s tag w k, s.eligibleKilns ≠ [] → s.oldestReturned 0 = some tag → s.ware tag = some w → s.choosePlace w = some k →
    w.placed ≠ none → w.epoch = (s.saggar w.saggar).epoch → dStateChanging w.desc = true → dCode w.desc ≠ 0x0410 →
    dExtension w.desc = true → s.fetchOk w.fn = true → (s.port (s.portOf w.fn)).d3hot = false → (s.kiln k).fetches.length < 8 → s.replayOf w.saggar (dReplay w.desc) = none → s.replayRoom = true →
    Completes .dispatch s fun t =>
      t.ware tag = some { w with kiln := k, lineTag := some w.saggar, phase := .arriving, ext := [], data := [], dataLeft := 0 } ∧
      t.replayOf w.saggar (dReplay w.desc) =
        some { code := dCode w.desc, digest := replayDigest w.desc, owner := tag, inline := w.inline } ∧
      t = { s with setter := t.setter, kilns := t.kilns, mir := t.mir, out := t.out })

/-- R117 to R119, R123, R125, R133, R177: epoch changes and notices; snapshots; attempt windows.
Choices of the model met here (DESIGN CHOICE, DEDUCED or PRESUMED): log 39, 110, 117, 129. -/
def Obligations.PolicyEpochsAndSnapshots : Prop :=
  (∀ s g, g < 256 → (s.saggar g).state = .active → (s.saggar g).busy = false → s.mir.controls = [] →
    Completes (.epochChange (some g)) s fun t =>
      (t.saggar g).epoch = (s.saggar g).epoch + 1 ∧ (t.saggar g).pol = (s.saggar g).pol ∧ (t.saggar g).polOld = (s.saggar g).pol ∧
      (t.saggar g).awaiting = (List.range 68).filter (fun k => (s.kiln k).state == .inService || (s.kiln k).state == .draining) ∧
      (∀ j, j ≠ g → t.saggar j = s.saggar j) ∧ t.host.rings = s.host.rings ∧
      t = { s with host := t.host, keys := t.keys, log := t.log, out := t.out }) ∧
  (∀ s lvl, s.fw.glazeNext = some lvl → s.mir.controls = [] → (∀ g ∈ s.listedSaggars, (s.saggar g).busy = false) →
    (∀ k, k < 68 → (s.kiln k).state = .inService ∨ (s.kiln k).state = .draining →
      (s.kiln k).bankA.valid = true ∧ (s.kiln k).bankA.level = lvl ∨ (s.kiln k).bankB.valid = true ∧ (s.kiln k).bankB.level = lvl) →
    Completes (.epochChange none) s fun t =>
      t.fw.glazeLevel = lvl ∧ t.fw.glazeNext = none ∧
      (if s.fw.glazeNextB then t.fw.glaze.b.state = .trial ∧ t.fw.glaze.a = s.fw.glaze.a
        else t.fw.glaze.a.state = .trial ∧ t.fw.glaze.b = s.fw.glaze.b) ∧
      (∀ g ∈ s.listedSaggars, (s.saggar g).state ≠ .none → (t.saggar g).polOld = (s.saggar g).pol ∧ (t.saggar g).awaiting =
        (List.range 68).filter (fun k => (s.kiln k).state == .inService || (s.kiln k).state == .draining)) ∧
      t = { s with host := t.host, setter := t.setter, keys := t.keys, fw := t.fw, log := t.log, out := t.out }) ∧
  (∀ s g k, g < 256 → k < 68 → k ∈ (s.saggar g).awaiting →
    Completes (.epochNotice g k) s fun t =>
      (t.saggar g).awaiting = (s.saggar g).awaiting.filter (· ≠ k) ∧ (t.saggar g).epoch = (s.saggar g).epoch ∧
      (∀ tag w, s.ware tag = some w → w.saggar = g → w.kiln = k → w.placed ≠ none → w.epoch ≠ (s.saggar g).epoch →
        w.phase.queuedInKiln = true ∨ w.phase = .preparing → ∃ w', t.ware tag = some w' ∧ w'.phase = .returned) ∧
      (∀ i ∈ s.noticed g k, k ∉ (t.saggar i).awaiting) ∧
      t = { s with host := t.host, setter := t.setter, kilns := t.kilns, wheels := t.wheels, keys := t.keys, store := t.store, out :=
                   t.out }) ∧
  (∀ s g k, g < 256 → k < 68 → k ∈ (s.saggar g).awaiting →
    Completes (.epochConfirmTimeout g k) s fun t => t = s.modKiln k fun x => { x with hold := true }) ∧
  (∀ s i, i < 1024 → s.answers i = true → s.isPf i = true → s.ownerPf = i → s.setter.snapDone = true →
    Completes (.snapshotTake i) s fun t => t = s.modSetter fun x => { x with snapDone := false, snapshot := s.figuresNow }) ∧
  (∀ s, s.setter.snapDone = false →
    Completes .snapshotDone s fun t => t = s.modSetter fun x => { x with snapDone := true, snapSeq := x.snapSeq + 1 }) ∧
  (∀ s, Completes .attemptWindowReset s fun t =>
    (∀ g, t.saggar g = { s.saggar g with attempts := 0 }) ∧ t = { s with keys := { s.keys with saggars := t.keys.saggars } })

/-- R22, R69, R111, R113, R144, R228, R246, R308, R542: the input of a placed ware, an engine's take and resumption, and the reads that
preparation waits for. The statuses are those of R136.
Choices of the model met here (DESIGN CHOICE, DEDUCED or PRESUMED): log 31, 36, 43, 126. -/
def Obligations.InputAndPreparation : Prop :=
  (∀ s tag w bs, tag < 65536 → s.ware tag = some w → w.phase = .stamped → w.panRead = none →
    (panReadOf w.desc).any (fun r => s.readHeld w.fn r.1) = false →
    Completes (.panExtReadDone tag (some bs)) s fun t => t = s.setWare tag (some { w with panRead := some (some bs) })) ∧
  (∀ s tag w, tag < 65536 → s.ware tag = some w → w.phase = .stamped → w.panRead = none →
    (panReadOf w.desc).any (fun r => s.readHeld w.fn r.1) = false →
    Completes (.panExtReadDone tag none) s fun t =>
      t.ware tag = some { w with panRead := some none } ∧ (t.fn w.fn).viol = setBit (s.fn w.fn).viol 5 ∧
      t = { s with host := t.host, setter := t.setter, log := t.log, out := t.out }) ∧
  (∀ s tag w bs, tag < 65536 → s.ware tag = some w → w.phase = .arriving → w.dataLeft = 0 → dExtension w.desc = true → w.isGraph = false →
    s.readHeld w.fn (dExtPtr w.desc) = false → s.fetchTurn w.kiln tag = true →
    (let w' := { w with ext := padTo (dExtLen w.desc) bs }
     s.stepForm w' (w'.stepIn 0) = none ∧ Ware.dataSpan (w'.stepIn 0) = none) →
    Completes (.extensionFetchDone tag (some bs)) s fun t =>
      t.ware tag = some { w with ext := padTo (dExtLen w.desc) bs, phase := .ready, dataLeft := 0 } ∧
      (t.kiln w.kiln).fetches = (s.kiln w.kiln).fetches.filter (fun f => f.1 ≠ tag) ∧ 
      t = { s with host := t.host, setter := t.setter, kilns := t.kilns, out := t.out }) ∧
  (∀ s tag w, tag < 65536 → s.ware tag = some w → w.phase = .arriving → w.dataLeft = 0 → dExtension w.desc = true →
    s.readHeld w.fn (dExtPtr w.desc) = false → s.fetchTurn w.kiln tag = true → s.replayOf w.saggar (dReplay w.desc) = none →
    Completes (.extensionFetchDone tag none) s fun t =>
      (∃ w', t.ware tag = some w' ∧ w'.phase = .ended ∧ w'.status = St.EXT_FETCH_FAILED ∧ w'.step = w.wholeStep ∧ w'.result = []) ∧
      (t.fn w.fn).viol = setBit (s.fn w.fn).viol 5 ∧ 
      t = { s with host := t.host, setter := t.setter, kilns := t.kilns, wheels := t.wheels, keys := t.keys, mir := t.mir, log := t.log,
                   store := t.store, out := t.out }) ∧
  (∀ s tag w bs i a n, tag < 65536 → s.ware tag = some w → w.phase = .arriving → 0 < w.dataLeft →
    (w.allSteps.filterMap fun u => (Ware.dataSpan u).map fun x => (u.index, x)).drop w.data.length = [(i, a, n)] →
    s.readHeld w.fn a = false → s.fetchTurn w.kiln tag = true →
    Completes (.dataFetchDone tag (some bs)) s fun t =>
      t = (s.dropFetch w.kiln tag).setWare tag (some { w with data := w.data ++ [padTo n bs], phase := .ready, dataLeft := 0 })) ∧
  (∀ s tag w i a n rest, tag < 65536 → s.ware tag = some w → w.phase = .arriving → 0 < w.dataLeft →
    s.replayOf w.saggar (dReplay w.desc) = none →
    (w.allSteps.filterMap fun u => (Ware.dataSpan u).map fun x => (u.index, x)).drop w.data.length = (i, a, n) :: rest →
    s.readHeld w.fn a = false → s.fetchTurn w.kiln tag = true →
    Completes (.dataFetchDone tag none) s fun t =>
      (∃ w', t.ware tag = some w' ∧ w'.phase = .ended ∧ w'.status = St.EXT_FETCH_FAILED ∧ w'.step = i) ∧
      (t.fn w.fn).viol = setBit (s.fn w.fn).viol 5) ∧
  (∀ s k e tag w, k < 68 → e < 16 → s.engineFree k e = true → (s.kiln k).blocked = false → (s.kiln k).state = .inService →
    (s.kiln k).hold = false → (mget {} (s.kiln k).engines e).bg = none → s.oldestOf k [0, 1, 2, 3] = some tag → s.ware tag = some w →
    Completes (.engineTakeWare k e) s fun t =>
      t = (s.takeWare k e tag).settleFaults ∧ 
      t = { s with host := t.host, setter := t.setter, kilns := t.kilns, wheels := t.wheels, keys := t.keys, routing := t.routing, ent
                   := t.ent, fw := t.fw, cus := t.cus, mir := t.mir, tmp := t.tmp, flt := t.flt, log := t.log, cone := t.cone, sys
                   := t.sys, dma := t.dma, store := t.store, mem := t.mem, freeCtr := t.freeCtr, out := t.out }) ∧
  (∀ (s : State) k e tag w, s.ware tag = some w → w.phase = .ready → w.lineTag ≠ some w.saggar → s.replayOf w.saggar (dReplay w.desc) = none →
    ∃ w', (s.takeWare k e tag).ware tag = some w' ∧ w'.phase = .ended ∧ w'.status = St.ACCESS_VIOLATION ∧ w'.result = []) ∧
  (∀ s k e tag w, k < 68 → e < 16 → s.engineFree k e = true → (s.kiln k).blocked = false → (s.kiln k).state = .draining →
    (mget {} (s.kiln k).engines e).bg = some tag → s.ware tag = some w → w.wheel = none → s.flt.due = [] →
    Completes (.engineTakeWare k e) s fun t =>
      t.ware tag = some { w with phase := .firing } ∧ (mget {} (t.kiln k).engines e).fgRun = 0 ∧
      (mget {} (t.kiln k).engines e).bg = some tag ∧ 
      t = { s with setter := t.setter, kilns := t.kilns }) ∧
  (∀ s tag w u j h e, tag < 65536 → s.ware tag = some w → w.phase = .preparing → w.waits = .cacheFetch →
    State.pendingField w = some (u, j, .handle h) → s.cache h = some e →
    Completes (.keyCacheFetchDone tag) s fun t =>
      t = ((((s.setWare tag (some { w with waits := .none })).fillSlot tag e.key e.doomed).setKey tag u.index j e.key).prepare
        tag).settleFaults ∧
      t = { s with host := t.host, setter := t.setter, kilns := t.kilns, wheels := t.wheels, keys := t.keys, routing := t.routing, ent
                   := t.ent, fw := t.fw, cus := t.cus, mir := t.mir, tmp := t.tmp, flt := t.flt, log := t.log, cone := t.cone, sys
                   := t.sys, dma := t.dma, store := t.store, mem := t.mem, freeCtr := t.freeCtr, out := t.out }) ∧
  (∀ s tag w bs, tag < 65536 → s.ware tag = some w → w.phase = .preparing → w.waits = .blobHeader → s.answers w.fn = true →
    s.readHeld w.fn (dBlobPtr w.desc) = false → s.fetchTurn w.kiln tag = true → s.headerCheck w (padTo 48 bs) = none →
    Completes (.blobHeaderReadDone tag (some bs)) s fun t =>
      t.ware tag = some { w with waits := .blobBody, blobHeader := padTo 48 bs } ∧
      (t.kiln w.kiln).fetches = (s.kiln w.kiln).fetches.filter (fun f => f.1 ≠ tag) ++
        [(tag, dBlobPtr w.desc + 48, (blobFields (padTo 48 bs)).matLen + 16)] ∧
      t = { s with host := t.host, setter := t.setter, kilns := t.kilns, out := t.out }) ∧
  (∀ s tag w data st, tag < 65536 → s.ware tag = some w → w.phase = .preparing → w.waits = .blobHeader →
    s.readHeld w.fn (dBlobPtr w.desc) = false → s.fetchTurn w.kiln tag = true → s.replayOf w.saggar (dReplay w.desc) = none →
    (data = none ∧ st = St.BLOB_FETCH_FAILED ∨ ∃ bs, data = some bs ∧ s.headerCheck w (padTo 48 bs) = some st) →
    Completes (.blobHeaderReadDone tag data) s fun t =>
      (∃ w', t.ware tag = some w' ∧ w'.phase = .ended ∧ w'.status = st ∧ w'.step = 0 ∧ w'.result = []) ∧
      t = { s with host := t.host, setter := t.setter, kilns := t.kilns, wheels := t.wheels, keys := t.keys, mir := t.mir, store :=
                   t.store, out := t.out }) ∧
  (∀ s tag w bs key u, tag < 65536 → s.ware tag = some w → w.phase = .preparing → w.waits = .blobBody →
    s.readHeld w.fn (dBlobPtr w.desc + 48) = false → s.fetchTurn w.kiln tag = true → s.openedKey w (padTo ((blobFields w.blobHeader).matLen + 16) bs) = some key →
    ((s.dropFetch w.kiln tag).setWare tag (some { w with waits := .none, blobHeader := [] })).insertKey tag w key = (u, .used) →
    Completes (.blobBodyReadDone tag (some bs)) s fun t =>
      t = ((u.setKey tag 0 0 (match u.cache key.handle with | some e => e.key | none => key)).prepare tag).settleFaults ∧
      t = { s with host := t.host, setter := t.setter, kilns := t.kilns, wheels := t.wheels, keys := t.keys, routing := t.routing, ent
                   := t.ent, fw := t.fw, cus := t.cus, mir := t.mir, tmp := t.tmp, flt := t.flt, log := t.log, cone := t.cone, sys
                   := t.sys, dma := t.dma, store := t.store, mem := t.mem, freeCtr := t.freeCtr, out := t.out }) ∧
  (∀ s tag w bs, tag < 65536 → s.ware tag = some w → w.phase = .preparing → w.waits = .blobBody →
    s.readHeld w.fn (dBlobPtr w.desc + 48) = false → s.fetchTurn w.kiln tag = true → s.replayOf w.saggar (dReplay w.desc) = none → s.openedKey w (padTo ((blobFields w.blobHeader).matLen + 16) bs) = none →
    Completes (.blobBodyReadDone tag (some bs)) s fun t =>
      ∃ w', t.ware tag = some w' ∧ w'.phase = .ended ∧ w'.status = St.BLOB_AUTH_FAILED ∧ w'.step = 0) ∧
  (∀ s tag w, tag < 65536 → s.ware tag = some w → w.phase = .backoff →
    Completes (.returnBackoffExpire tag) s fun t => t = s.setWare tag (some { w with phase := .ready })) ∧
  (∀ s tag w, tag < 65536 → s.ware tag = some w → w.entWaits = true → w.phase = .ready ∨ w.phase = .backoff → s.drbgRefuses w.kiln = false →
    Completes (.entropyWaitTimeout tag) s fun t => t = s.setWare tag (some { w with entLate := true })) ∧
  (∀ s tag w, tag < 65536 → s.ware tag = some w → w.entWaits = true → w.phase = .ready ∨ w.phase = .backoff → s.drbgRefuses w.kiln = true →
    s.replayOf w.saggar (dReplay w.desc) = none →
    Completes (.entropyWaitTimeout tag) s fun t =>
      (∃ w', t.ware tag = some w' ∧ w'.phase = .ended ∧ w'.status = St.ENTROPY_UNAVAILABLE) ∧ t.ent.refused = satInc s.ent.refused ∧
      t = { s with host := t.host, setter := t.setter, kilns := t.kilns, wheels := t.wheels, keys := t.keys, ent := t.ent, mir := t.mir,
                   store := t.store, out := t.out })

/-- R19, R20, R57, R86, R93, R135, R208: the end of a shape, and release in flow order.
Choices of the model met here (DESIGN CHOICE, DEDUCED or PRESUMED): log 31. -/
def Obligations.FiringEndsAndRelease : Prop :=
  (∀ s tag w out, tag < 65536 → s.ware tag = some w → w.phase = .firing → w.isGraph = false →
    wrapsBlob (w.stepIn 0).code = false → wareChangesState w.desc = false → s.flt.due = [] →
    fireCode { s.fireIn w (w.stepIn 0) with rand := w.rand, primes := w.primes } = some out → out.again = false →
    out.faulty = false → out.status = St.OK →
    Completes (.firingEnd tag) s fun t =>
      (∃ w', t.ware tag = some w' ∧ w'.phase = .ended ∧ w'.status = St.OK ∧ w'.step = 0 ∧ w'.result = out.result ∧
        w'.staged = decide (16 < out.result.length) ∧ w'.fn = w.fn ∧ w'.ring = w.ring ∧ w'.gen = w.gen) ∧
      (t.kiln w.kiln).firings = (s.kiln w.kiln).firings + 1 ∧ (∀ tag', tag' ≠ tag → t.ware tag' = s.ware tag') ∧
      t = { s with host := t.host, setter := t.setter, kilns := t.kilns, wheels := t.wheels, keys := t.keys, store := t.store, mem :=
                   t.mem, out := t.out }) ∧
  (∀ s tag w out, tag < 65536 → s.ware tag = some w → w.phase = .firing → w.isGraph = false → s.flt.due = [] →
    s.replayOf w.saggar (dReplay w.desc) = none →
    fireCode { s.fireIn w (w.stepIn 0) with rand := w.rand, primes := w.primes } = some out → out.again = false →
    out.faulty = false → out.status ≠ St.OK →
    Completes (.firingEnd tag) s fun t =>
      (∃ w', t.ware tag = some w' ∧ w'.phase = .ended ∧ w'.status = out.status ∧ w'.step = 0 ∧ w'.result = []) ∧
      (t.kiln w.kiln).firings = (s.kiln w.kiln).firings + 1 ∧
      t = { s with host := t.host, setter := t.setter, kilns := t.kilns, wheels := t.wheels, keys := t.keys, mir := t.mir, store :=
                   t.store, out := t.out }) ∧
  (∀ s tag w out, tag < 65536 → s.ware tag = some w → w.phase = .firing → w.isGraph = true → w.graphFail = none → w.cls ≠ 3 →
    w.wheel = none → w.page = none → s.flt.due = [] →
    (w.stepIn w.graphStep).index + 1 < w.steps → fireCode (s.stepFireIn w (w.stepIn w.graphStep)) = some out → out.again = false →
    out.faulty = false → out.status = St.OK →
    Completes (.graphStepEnd tag) s fun t =>
      (∃ w', t.ware tag = some w' ∧ w'.phase = .firing ∧ w'.graphStep = (w.stepIn w.graphStep).index + 1 ∧ w'.graphFail = none ∧
        w'.emitted = (if seEmit (w.stepIn w.graphStep).entry then w.emitted ++ out.result else w.emitted) ∧
        w'.cells = (if seOutEn (w.stepIn w.graphStep).entry then mset none w.cells (seOutCell (w.stepIn w.graphStep).entry)
          (some (match out.cellKey with | some k => Cell.key k | none => Cell.value out.result)) else w.cells)) ∧
      (t.kiln w.kiln).firings = (s.kiln w.kiln).firings + 1 ∧ (∀ tag', tag' ≠ tag → t.ware tag' = s.ware tag') ∧
      t = { s with setter := t.setter, kilns := t.kilns, keys := t.keys }) ∧
  (∀ s tag w, tag < 65536 → s.ware tag = some w → w.phase = .firing → w.isGraph = true →
    Completes (.graphStepEnd tag) s fun t => t = (s.endStep tag w).settleFaults ∧ 
      t = { s with host := t.host, setter := t.setter, kilns := t.kilns, wheels := t.wheels, keys := t.keys, routing := t.routing, ent
                   := t.ent, fw := t.fw, cus := t.cus, mir := t.mir, tmp := t.tmp, flt := t.flt, log := t.log, cone := t.cone, sys
                   := t.sys, dma := t.dma, store := t.store, mem := t.mem, freeCtr := t.freeCtr, out := t.out }) ∧
  (∀ s tag w merge, tag < 65536 → s.ware tag = some w → w.phase = .ended ∨ w.phase = .refused → s.headsFlow w = true →
    s.tmp.halted = false → w.delta = none → s.replayOf w.saggar (dReplay w.desc) = none → w.ceremony = false →
    w.stale = true ∨ w.gen ≠ (s.fn w.fn).gen →
    Completes (.wareRelease tag merge) s fun t =>
      t = (s.setWare tag none).modFn w.fn fun f => { f with staleCnt := satInc f.staleCnt }) ∧
  (∀ s tag w merge, tag < 65536 → s.ware tag = some w → w.phase = .ended ∨ w.phase = .refused → s.headsFlow w = true →
    s.tmp.halted = false → w.delta = none → s.replayOf w.saggar (dReplay w.desc) = none → w.stale = false → w.gen = (s.fn w.fn).gen →
    w.ceremony = false → w.discard = true →
    Completes (.wareRelease tag merge) s fun t =>
      t = (s.setWare tag none).modRing w.fn w.ring fun r => { r with dropped := satInc r.dropped }) ∧
  (∀ s tag w, tag < 65536 → s.ware tag = some w → w.phase = .ended ∨ w.phase = .refused → s.headsFlow w = true →
    s.tmp.halted = false → w.delta = none → w.replayed = false → s.replayOf w.saggar (dReplay w.desc) = none → w.stale = false →
    w.gen = (s.fn w.fn).gen → w.ceremony = false → w.discard = false → w.inline = true → (s.fn w.fn).queue = [] →
    (let r := s.ring w.fn w.ring
     r.held = [] ∧ r.cqTail < 2 ^ r.cqLog2) →
    Completes (.wareRelease tag false) s fun t =>
      (let r := s.ring w.fn w.ring
       t.ware tag = none ∧ (t.ring w.fn w.ring).cqTail = (r.cqTail + 1) % 2 ^ r.cqLog2 ∧
       (t.ring w.fn w.ring).phase = (if r.cqTail + 1 < 2 ^ r.cqLog2 then r.phase else !r.phase) ∧
       Out.hostWrite w.fn (r.cqBase.toNat + 32 * r.cqTail) (completion tag w false r.phase) ∈ t.out) ∧
      (∀ tag', tag' ≠ tag → t.ware tag' = s.ware tag') ∧
      t = { s with host := t.host, setter := t.setter, out := t.out })

/-- R140, R219, R230, R262, R264, R268, R269: invalidation, clean-up of a retired epoch, eviction keys, operand pages, the write port.
Choices of the model met here (DESIGN CHOICE, DEDUCED or PRESUMED): log 63, 64, 138. -/
def Obligations.KeysAndOperandPages : Prop :=
  (∀ s g (p : KeyVal → Bool) c, g < 256 →
    (c = .keyInvalidate g none none ∧ (p = fun _ => true)) ∨ (∃ h, c = .keyInvalidate g (some h) none ∧ (p = fun (k : KeyVal) => k.handle = h)) ∨
      (∃ h n, c = .keyInvalidate g (some h) (some n) ∧ (p = fun (k : KeyVal) => k.handle = h && k.serial = n)) →
    Completes c s fun t =>
      (∀ k, ∀ x ∈ (t.kiln k).slots, x.saggar = g → p x.key = true → x.doomed = true ∧ x.pins ≠ 0) ∧
      (∀ h e, t.cache h = some e → e.owner = g → p e.key = true → e.doomed = true ∧ e.pins ≠ 0) ∧
      t = { s with kilns := t.kilns, keys := t.keys, store := t.store }) ∧
  (∀ s g e, g < 256 → (s.saggar g).busy = false → (s.saggar g).retired = some e →
    Completes (.bepochRetireCleanup g) s fun t =>
      (t.saggar g).retired = none ∧ (t.saggar g).revoked = (s.saggar g).revoked.filter (fun r => r.2 ≠ e.toNat) ∧
      (∀ k, ∀ x ∈ (t.kiln k).slots, x.saggar = g → x.key.bepoch = e.toNat → x.doomed = true) ∧
      (∀ h x, t.cache h = some x → x.owner = g → x.key.bepoch = e.toNat → x.doomed = true) ∧
      t = { s with kilns := t.kilns, keys := t.keys, store := t.store }) ∧
  (∀ s, s.sys.mode ≠ .dormant → s.sys.mode ≠ .boot → s.drbgRefuses controlDrbg = true →
    Completes .evictKeyReseed s fun t => t = { s with keys := { s.keys with evictKey := none, evictPos := 0 } }) ∧
  (∀ s, s.sys.mode ≠ .dormant → s.sys.mode ≠ .boot → s.drbgRefuses controlDrbg = false →
    (s.drbg controlDrbg).calls < 2 ^ 32 →
    Completes .evictKeyReseed s fun t =>
      (∃ bs, t.keys.evictKey = some bs ∧ bs.length = 48) ∧ t.keys = { s.keys with evictKey := t.keys.evictKey, evictPos := 0 } ∧
      t = { s with host := t.host, keys := t.keys, ent := t.ent, log := t.log, out := t.out }) ∧
  (∀ s g p, g < 256 → (s.saggar g).state = .active → (s.operandPages g).length + (s.wipingPages g).length < s.pageQuota g →
    s.nextPage = some p →
    Completes (.pageWipe g) s fun t => p < s.store.total ∧ t = s.setPage p (some { saggar := g, wiping := true })) ∧
  (∀ s g, g < 256 → s.nextPage = none ∨ s.pageQuota g ≤ (s.operandPages g).length + (s.wipingPages g).length →
    NoEffect (.pageWipe g) s) ∧
  (∀ s g p rest, g < 256 → s.wipingPages g = p :: rest →
    Completes (.pageWipeDone g) s fun t =>
      t = (s.wipePage g p).setPage p (if (s.operandPages g).length < s.pageQuota g then some { saggar := g } else none) ∧
      t = { s with store := t.store, mem := t.mem }) ∧
  (∀ s g j image k, g < 256 → j < 16 → s.sys.mode = .boot → 7 ≤ s.sys.bootStep → s.keys.hearth ≠ 3 → s.keys.hearth ≠ 0 →
    mget none (s.saggar g).slots j = none → (s.saggar g).images.find? (fun e => e.1 = j) = some (j, image) → s.imageKey g j image = some k →
    Completes (.keystoreLoad g j) s fun t =>
      mget none (t.saggar g).slots j = some k ∧ t.keys.portResult = .done ∧ (∀ i, i ≠ j → mget none (t.saggar g).slots i = mget none (s.saggar g).slots i) ∧
      (t.saggar g).state = (if j = 0 then .active else (s.saggar g).state) ∧ (∀ i, i ≠ g → t.saggar i = s.saggar i) ∧
      t = { s with keys := t.keys }) ∧
  (∀ s g j image k, g < 256 → j < 16 → s.sys.mode = .ceremony → (s.saggar g).latch = true → s.cus.cer.fromMode ≠ 6 →
    s.imageKey g j image = some k →
    Completes (.keystoreCeremonyWrite g j image) s fun t =>
      mget none (t.saggar g).slots j = some k ∧ t.keys.portResult = .done ∧ (∀ i, i ≠ j → mget none (t.saggar g).slots i = mget none (s.saggar g).slots i) ∧
      (t.saggar g).state = (if j = 0 then .active else (s.saggar g).state) ∧ (∀ i, i ≠ g → t.saggar i = s.saggar i) ∧
      t = { s with keys := t.keys }) ∧
  (∀ s g j image, g < 256 → j < 16 → s.sys.mode ≠ .ceremony ∨ (s.saggar g).latch = false →
    Completes (.keystoreCeremonyWrite g j image) s fun t =>
      t = (s.modKeys fun k => { k with portResult := .notAuthorised }).occur (4 + g % 4) 5 none) ∧
  (∀ s g j image, g < 256 → j < 16 → s.sys.mode = .ceremony → (s.saggar g).latch = true → s.cus.cer.fromMode ≠ 6 →
    s.imageKey g j image = none →
    Completes (.keystoreCeremonyWrite g j image) s fun t =>
      t = (s.modKeys fun k => { k with portResult := .badImage }).occur (4 + g % 4) 5 none) ∧
  (∀ s g j e, g < 256 → j < 16 → (s.saggar g).images.find? (fun e => e.1 = j) = some e →
    s.sys.mode ≠ .boot ∨ (mget none (s.saggar g).slots j).isSome = true →
    Completes (.keystoreLoad g j) s fun t => t = (s.modKeys fun k => { k with portResult := .slotBusy }).occur (4 + g % 4) 5 none) ∧
  (∀ s g j, g < 256 → j < 16 → s.sys.mode = .ceremony ∧ (s.saggar g).latch = true ∨ (s.saggar g).state = .erasing →
    Completes (.keystoreErase g j) s fun t =>
      t = (s.modKeys fun k => { k with portResult := .done }).modSaggar g fun x => { x with slots := mset none x.slots j none }) ∧
  (∀ s g j, g < 256 → j < 16 → s.sys.mode ≠ .ceremony ∨ (s.saggar g).latch = false → (s.saggar g).state ≠ .erasing →
    Completes (.keystoreErase g j) s fun t =>
      t = (s.modKeys fun k => { k with portResult := .notAuthorised }).occur (4 + g % 4) 5 none)

/-- R256, R257: the commands of PRT_CMD by the global owner, the settled commit, the expired lock. RESULT: 0 done, 1 FREE, 2 wrong state, 3 limit.
Choices of the model met here (DESIGN CHOICE, DEDUCED or PRESUMED): log 56. -/
def Obligations.RoutingSegmentCommands : Prop :=
  (∀ s i g, i < 1024 → g < 2 ^ 18 → s.answers i = true → s.isPf i = true → s.ownerPf = i → s.routing.busy = false →
    (s.bank 8).fenced = false → (s.segment g).state = .idle → s.lockedSegments (fun _ => true) < 64 →
    s.lockedSegments (fun x => x.saggar = (s.segment g).saggar) < 16 →
    Completes (.prtLock i g) s fun t =>
      t.segment g = { s.segment g with state := .locked, shadow := (s.segment g).slots } ∧ (∀ j, j ≠ g → t.segment j = s.segment j) ∧
      t.routing.result = 0 ∧ t.routing.busy = false ∧ t.routing.busySeg = g ∧ t.routing.rows = s.routing.rows ∧ 
      t = { s with routing := t.routing }) ∧
  (∀ s i g, i < 1024 → g < 2 ^ 18 → s.answers i = true → s.isPf i = true → s.ownerPf = i → s.routing.busy = false →
    (s.bank 8).fenced = false → (s.segment g).state = .locked →
    Completes (.prtCommit i g) s fun t =>
      t.segment g = { s.segment g with state := .committing, unsettled := true } ∧ (∀ j, j ≠ g → t.segment j = s.segment j) ∧
      t.routing.result = 0 ∧ t.routing.busy = true ∧ t.routing.busySeg = g ∧ t.routing.rows = s.routing.rows ∧ 
      t = { s with routing := t.routing }) ∧
  (∀ s i g, i < 1024 → g < 2 ^ 18 → s.answers i = true → s.isPf i = true → s.ownerPf = i → s.routing.busy = false →
    (s.bank 8).fenced = false → (s.segment g).state = .locked →
    Completes (.prtAbandon i g) s fun t =>
      t.segment g = { s.segment g with state := .idle, slots := (s.segment g).shadow, shadow := [] } ∧
      (∀ j, j ≠ g → t.segment j = s.segment j) ∧ t.routing.result = 0 ∧ t.routing.busy = false ∧ 
      t = { s with routing := t.routing }) ∧
  (∀ s i g c, i < 1024 → g < 2 ^ 18 → s.answers i = true → s.isPf i = true → s.ownerPf = i → s.routing.busy = false →
    (s.bank 8).fenced = false → (s.segment g).state = .free → c ∈ [Instr.prtLock i g, .prtCommit i g, .prtAbandon i g] →
    Completes c s fun t => t = s.modRouting fun r => { r with busy := false, busySeg := g, result := 1 }) ∧
  (∀ s g, g < 250000 → (s.segment g).state = .committing → (s.segment g).unsettled = true →
    Completes (.segmentWritesSettled g) s fun t =>
      (t.segment g).state = .idle ∧ (t.segment g).unsettled = false ∧ (t.segment g).shadow = [] ∧
      (s.routing.busySeg = g → t.routing.busy = false) ∧ (∀ j, j ≠ g → t.segment j = s.segment j) ∧
      t = { s with host := t.host, routing := t.routing, log := t.log, out := t.out }) ∧
  (∀ s g, g < 250000 → (s.segment g).state = .locked →
    Completes (.lockExpire g) s fun t =>
      t.segment g = { s.segment g with state := .idle, slots := (s.segment g).shadow, shadow := [] } ∧
      (∀ j, j ≠ g → t.segment j = s.segment j) ∧ 
      t = { s with host := t.host, routing := t.routing, log := t.log, out := t.out })

/-- R131 to R133, R147 to R150, R457, R459, R476: the states of a kiln and the commands that move it.
Choices of the model met here (DESIGN CHOICE, DEDUCED or PRESUMED): log 50, 127. -/
def Obligations.KilnStatesAndDrains : Prop :=
  (∀ s k, k < 68 → (s.kiln k).state = .parked → s.sys.mode ≠ .safe → s.sys.mode ≠ .erased → s.sys.mode ≠ .dormant →
    Completes (.kilnWake k) s fun t =>
      t.kiln k = { s.kiln k with state := .waking } ∧ (∀ j, j ≠ k → t.kiln j = s.kiln j) ∧ 
      t = { s with host := t.host, kilns := t.kilns, ent := t.ent, log := t.log, out := t.out }) ∧
  (∀ s k rest, k < 68 → s.kilnsIn .spare = k :: rest → s.activeKilns.length < Config.kilnsOffered → s.sys.mode ≠ .safe →
    s.sys.mode ≠ .erased → s.sys.mode ≠ .dormant →
    Completes (.kilnWake k) s fun t =>
      t.kiln k = { s.kiln k with state := .waking } ∧ (∀ j, j ≠ k → t.kiln j = s.kiln j) ∧ 
      t = { s with host := t.host, kilns := t.kilns, ent := t.ent, log := t.log, out := t.out }) ∧
  (∀ s k, k < 68 → (s.kiln k).state = .waking → (s.bank (kilnBank k)).fenced = true →
    Completes (.kilnWakeDone k) s fun t => (t.kiln k).state = .withdrawn ∧ (∀ j, j ≠ k → t.kiln j = s.kiln j) ∧
      t = { s with host := t.host, kilns := t.kilns, log := t.log, out := t.out }) ∧
  (∀ s k, k < 68 → (s.kiln k).state = .waking → (s.bank (kilnBank k)).fenced = false →
    Completes (.kilnWakeDone k) s fun t =>
      t.kiln k = { s.kiln k with
        state := .inService, slots := [], queue := [], fetches := [], engines := [], bankA := { valid := true, level := s.fw.glazeLevel },
        bankB := (match s.fw.glazeNext with | some l => { valid := true, level := l } | none => {}) } ∧
      (∀ j, j ≠ k → t.kiln j = s.kiln j) ∧ 
      t = { s with host := t.host, kilns := t.kilns, log := t.log, out := t.out }) ∧
  (∀ s k why d, k < 68 → (s.kiln k).state = .inService →
    (why = 0 ∧ d = .park ∧ s.mayPark = true ∨ why = 1 ∧ d = .measure ∧ s.mayMeasure k = true ∨
      why = 2 ∧ d = .load ∧ (s.loadLevel k).isSome = true ∧ s.measuringKiln = none ∨ why = 3 ∧ d = .retire ∧ s.lastKiln k = false) →
    Completes (.kilnDrain k why) s fun t =>
      (t.kiln k).state = .draining ∧ (t.kiln k).drainFor = some d ∧
      (∀ tag w, s.ware tag = some w → w.kiln = k → w.placed ≠ none → w.phase.queuedInKiln = true →
        ∃ w', t.ware tag = some w' ∧ w'.phase = .returned) ∧
      t = { s with host := t.host, setter := t.setter, kilns := t.kilns, wheels := t.wheels, keys := t.keys, log := t.log, store :=
                   t.store, out := t.out }) ∧
  (∀ s k, k < 68 → (s.kiln k).state = .draining → s.kilnEmpty k = true →
    Completes (.drainComplete k) s fun t =>
      t.kiln k = { s.kiln k with state := .drained } ∧ (∀ j, j ≠ k → t.kiln j = s.kiln j) ∧ 
      t = { s with host := t.host, kilns := t.kilns, log := t.log, out := t.out }) ∧
  (∀ s k, k < 68 → (s.kiln k).state = .draining →
    Completes (.drainAbandon k) s fun t =>
      t.kiln k = { s.kiln k with state := .inService, drainFor := none, retryMeasure := decide ((s.kiln k).drainFor = some .measure) } ∧
      (∀ j, j ≠ k → t.kiln j = s.kiln j) ∧ 
      t = { s with host := t.host, kilns := t.kilns, log := t.log, out := t.out }) ∧
  (∀ s k, k < 68 → (s.kiln k).retryMeasure = true → (s.kiln k).state = .inService → s.mayMeasure k = true →
    Completes (.drainRetryTimer k) s fun t =>
      (t.kiln k).state = .draining ∧ (t.kiln k).drainFor = some .measure ∧ (t.kiln k).retryMeasure = false ∧ 
      t = { s with host := t.host, setter := t.setter, kilns := t.kilns, wheels := t.wheels, keys := t.keys, log := t.log, store :=
                   t.store, out := t.out }) ∧
  (∀ s k, k < 68 → (s.kiln k).state = .drained → (s.kiln k).drainFor = some .park →
    Completes (.kilnPark k) s fun t =>
      (t.kiln k).state = .parked ∧ (t.kiln k).slots = [] ∧ (t.kiln k).bankA = {} ∧ (t.kiln k).bankB = {} ∧ (t.kiln k).drainFor = none ∧
      (∀ j, j ≠ k → t.kiln j = s.kiln j) ∧ 
      t = { s with host := t.host, setter := t.setter, kilns := t.kilns, wheels := t.wheels, ent := t.ent, flt := t.flt, log := t.log,
                   out := t.out }) ∧
  (∀ s k, k < 68 → (s.kiln k).state = .drained →
    (s.kiln k).drainFor = none ∨
      (∃ l, (s.kiln k).drainFor = some .load ∧ s.fw.glazeNext = some l ∧ (s.kiln k).holds l = true ∧ (s.kiln k).loading = none) →
    s.sys.mode ≠ .safe → s.sys.mode ≠ .erased → (s.kiln k).holds s.fw.glazeLevel = true →
    Completes (.kilnReturnService k) s fun t =>
      t.kiln k = { s.kiln k with state := .inService, drainFor := none } ∧ (∀ j, j ≠ k → t.kiln j = s.kiln j) ∧ 
      t = { s with host := t.host, kilns := t.kilns, log := t.log, out := t.out }) ∧
  (∀ s k, k < 68 → (s.kiln k).state = .drained ∨ (s.kiln k).state = .withdrawn → (s.kiln k).drainFor = some .retire → s.lastKiln k = false →
    Completes (.kilnRetire k) s fun t =>
      (t.kiln k).state = .retired ∧ (t.kiln k).slots = [] ∧ t.cone.retired = s.cone.retired ++ [k] ∧ 
      t = { s with host := t.host, setter := t.setter, kilns := t.kilns, wheels := t.wheels, ent := t.ent, flt := t.flt, log := t.log,
                   cone := t.cone, out := t.out }) ∧
  (∀ s k, k < 68 → Completes (.withdrawal24hExpire k) s fun t =>
    t = s.modKiln k fun x => { x with withdrawnRecent := x.withdrawnRecent - 1 }) ∧
  (∀ s k lvl, k < 68 → (s.kiln k).state = .drained → (s.kiln k).drainFor = some .load → s.loadLevel k = some lvl →
    (s.kiln k).loading = none → (∀ g ∈ s.listedSaggars, (s.saggar g).busy = false) →
    Completes (.glazeBankLoad k none) s fun t =>
      (let inB := (s.kiln k).bankA.valid && decide ((s.kiln k).bankA.level = s.fw.glazeLevel)
       t = s.modKiln k fun x =>
         { x with loading := some inB, bankA := if inB then x.bankA else { x.bankA with valid := false },
                  bankB := if inB then { x.bankB with valid := false } else x.bankB })) ∧
  (∀ s k lvl inB ok, k < 68 → (s.kiln k).state = .drained → (s.kiln k).drainFor = some .load → s.loadLevel k = some lvl →
    (s.kiln k).loading = some inB → ok = true ∨ (s.kiln k).loadFails = 0 →
    Completes (.glazeBankLoad k (some ok)) s fun t =>
      (let b : Bank := { valid := ok, level := lvl }
       t = s.modKiln k fun x =>
         { x with bankA := if inB then x.bankA else b, bankB := if inB then b else x.bankB, loadFails := if ok then 0 else 1,
                  loading := if ok then none else some inB })) ∧
  (∀ s k lvl inB, k < 68 → (s.kiln k).state = .drained → (s.kiln k).drainFor = some .load → s.loadLevel k = some lvl →
    (s.kiln k).loading = some inB → (s.kiln k).loadFails ≠ 0 →
    Completes (.glazeBankLoad k (some false)) s fun t =>
      (t.kiln k).state = .withdrawn ∧ (t.kiln k).loading = none ∧ (t.kiln k).loadFails = 0 ∧
      (∀ j, j ≠ k → t.kiln j = s.kiln j) ∧ 
      t = { s with host := t.host, kilns := t.kilns, log := t.log, out := t.out }) ∧
  (∀ s es ws lim, es.length = 1088 → ws.length = 136 → s.sys.mode ≠ .safe → s.sys.mode ≠ .erased →
    Completes (.busyWindowEnd es ws lim) s fun t =>
      t.setter.busySeq = s.setter.busySeq + 2 ∧
      (∀ k e, k < 68 → e < 16 → mget 0 t.setter.engBusy (16 * k + e) = if kilnOn (s.kiln k).state then es.getD (16 * k + e) 0 else 0) ∧
      t = { s with host := t.host, setter := t.setter, kilns := t.kilns, wheels := t.wheels, keys := t.keys, ent := t.ent, flt := t.flt,
                   log := t.log, sys := t.sys, store := t.store, out := t.out })

/-- R119, R150 to R153: KILN reset; a kiln lost.
Choices of the model met here (DESIGN CHOICE, DEDUCED or PRESUMED): log 50, 63, 64, 127. -/
def Obligations.KilnLossAndReset : Prop :=
  (∀ s k cause, k < 68 → State.resettable (s.kiln k).state = true →
    cause = 2 ∧ (s.kiln k).blocked = true ∨ cause = 3 ∧ (s.kiln k).state = .withdrawn → (s.bank (kilnBank k)).fenced = false →
    (s.kiln k).bankA = { valid := true, level := s.fw.glazeLevel } →
    Completes (.kilnResetRun k cause true true) s fun t =>
      (t.kiln k).state = (if (s.kiln k).state = .inService then .inService else .drained) ∧ (t.kiln k).slots = [] ∧ (t.kiln k).engines = [] ∧
      (t.kiln k).blocked = false ∧ (t.kiln k).resets = satInc (s.kiln k).resets ∧ (t.kiln k).lastCause = BitVec.ofNat 2 cause ∧
      (∀ tag w, s.ware tag = some w → s.mir.replay = [] → w.kiln = k → w.phase = .firing ∨ w.phase = .suspended →
        ∃ w', t.ware tag = some w' ∧ w'.phase = .ended ∧ w'.status = St.ABORTED_KILN_RESET) ∧
      (∀ tag w, s.ware tag = some w → w.kiln = k → w.placed ≠ none → w.phase.queuedInKiln = true ∨ w.phase = .preparing →
        ∃ w', t.ware tag = some w' ∧ w'.phase = .returned) ∧
      t = { s with host := t.host, setter := t.setter, kilns := t.kilns, wheels := t.wheels, keys := t.keys, ent := t.ent, mir := t.mir,
                   log := t.log, store := t.store, out := t.out }) ∧
  (∀ s k cause a b, k < 68 → 1 ≤ cause → cause ≤ 3 → (s.bank (kilnBank k)).fenced = true → NoEffect (.kilnResetRun k cause a b) s) ∧
  (∀ s k a b, NoEffect (.kilnResetRun k 1 a b) s) ∧
  (∀ s g k, g < 256 → k < 68 → k ∈ (s.saggar g).awaiting → State.withdrawable (s.kiln k).state = true →
    Completes (.epochKilnLost g k) s fun t =>
      (let u := s.loseKiln k
       t = u.occur 1 8 none ∧ (u.kiln k).state = .withdrawn ∧ (u.kiln k).withdrawnTotal = satInc (s.kiln k).withdrawnTotal ∧
       (g ∈ s.listedSaggars → k ∉ (u.saggar g).awaiting) ∧
       (∀ tag w, s.ware tag = some w → w.kiln = k → w.placed ≠ none → w.phase.queuedInKiln = true ∨ w.phase = .preparing →
         ∃ w', u.ware tag = some w' ∧ w'.phase = .returned)) ∧
      t = { s with host := t.host, setter := t.setter, kilns := t.kilns, wheels := t.wheels, keys := t.keys, routing := t.routing, ent
                   := t.ent, fw := t.fw, cus := t.cus, mir := t.mir, tmp := t.tmp, flt := t.flt, log := t.log, cone := t.cone, sys
                   := t.sys, dma := t.dma, store := t.store, mem := t.mem, freeCtr := t.freeCtr, out := t.out })

/-- R293, R294, R296, R298 to R300, R305, R306: sources, the conditioner, seeds, demands.
Choices of the model met here (DESIGN CHOICE, DEDUCED or PRESUMED): log 46, 63, 64, 67, 110, 137. -/
def Obligations.EntropySourcesAndSeeds : Prop :=
  (∀ s i xs, i < 16 → (s.source i).state ≠ .retired → healthFails s.ent.rctC.toNat s.ent.aptC.toNat xs = true →
    Completes (.sourceTestFail ⟨i, xs⟩) s fun t =>
      t.source i = { s.source i with state := if (s.source i).recent + 1 < 64 then .cooling else .retired, left := true,
                                     recent := min 64 ((s.source i).recent + 1), total := satInc (s.source i).total } ∧
      t.ent.retiredList = s.ent.retiredList ++ (if (s.source i).recent + 1 < 64 then [] else [i]) ∧
      (∀ j, j ≠ i → t.source j = s.source j) ∧ t.ent.drbgs = s.ent.drbgs ∧ 
      t = { s with host := t.host, ent := t.ent, log := t.log, out := t.out }) ∧
  (∀ s i xs, i < 16 → healthFails s.ent.rctC.toNat s.ent.aptC.toNat xs = false → NoEffect (.sourceTestFail ⟨i, xs⟩) s) ∧
  (∀ s i xs, i < 16 → (s.source i).state = .startup → xs.length = 1024 →
    healthFails s.ent.rctC.toNat s.ent.aptC.toNat xs = true → exec (.startupTestDone ⟨i, xs⟩) s = exec (.sourceTestFail ⟨i, xs⟩) s) ∧
  (∀ s i xs, i < 16 → (s.source i).state = .startup → xs.length = 1024 →
    healthFails s.ent.rctC.toNat s.ent.aptC.toNat xs = false →
    Completes (.startupTestDone ⟨i, xs⟩) s fun t =>
      t.source i = { s.source i with state := .pool, left := true } ∧ (∀ j, j ≠ i → t.source j = s.source j) ∧
      t.ent.drbgs = s.ent.drbgs ∧ 
      t = { s with host := t.host, ent := t.ent, log := t.log, out := t.out }) ∧
  (∀ s i, i < 16 → (s.source i).state = .cooling →
    Completes (.coolingExpire i) s fun t => t = s.modSource i fun x => { x with state := .startup }) ∧
  (∀ s i, i < 16 → Completes (.sourceFailure24hExpire i) s fun t => t = s.modSource i fun x => { x with recent := x.recent - 1 }) ∧
  (∀ s b xs bits, xs.length = 16 → s.ent.conditionerOk = true → 4 ≤ s.inPool → (s.bank 9).fenced = false → s.sys.mode ≠ .dormant →
    s.ent.katDue = false ∨ b = true → rawBits (allSources.filter fun i => (s.source i).state == .pool) xs = some bits →
    Completes (.conditionBlockDone ⟨b, xs⟩) s fun t =>
      (let made := s.ent.blocks ++ [conditionBlock bits]
       t.ent.katDue = false ∧ t.ent.blocks = (if made.length < 3 then made else []) ∧
       t.ent.seeds = (if made.length < 3 then s.ent.seeds else (s.ent.seeds ++ [made.flatten]).take 256)) ∧
      t.ent.startBlocks = min 4 (s.ent.startBlocks + 1) ∧
      t.ent.drbgs = s.ent.drbgs ∧ t.ent.sources = s.ent.sources ∧ 
      t = { s with host := t.host, ent := t.ent, log := t.log, out := t.out }) ∧
  (∀ s xs, xs.length = 16 → s.ent.conditionerOk = true → 4 ≤ s.inPool → (s.bank 9).fenced = false → s.sys.mode ≠ .dormant → s.ent.katDue = true →
    Completes (.conditionBlockDone ⟨false, xs⟩) s fun t =>
      t = (s.modEnt fun e => { e with conditionerOk := false, katDue := false, blocks := [] }).occur 9 4 none) ∧
  (∀ s, s.ent.ready = false →
    Completes .entropyLateTimeout s fun t =>
      t.ent.irq.getLsbD 1 = true ∧ t.ent.drbgs = s.ent.drbgs ∧ t.ent.sources = s.ent.sources ∧ 
      t = { s with host := t.host, ent := t.ent, log := t.log, out := t.out }) ∧
  (∀ s rank d seed rest, s.ent.ready = true → s.ent.seeds = seed :: rest → s.firstRequest = some (rank, d) → s.sys.mode ≠ .boot →
    s.cus.cer.step ≠ 3 → s.ent.waiting = [] →
    Completes (.seedDeliver true) s fun t =>
      (let r := s.drbg d
       t.drbg d = if r.state = .unseeded then
           { ctrInstantiate r seed (s.personal d (r.insts + 1)) with state := .ready, calls := 0, demand := false, insts := r.insts + 1 }
         else if r.state = .stretched ∨ r.state = .exhausted ∨ 2 ^ 20 ≤ r.calls ∨ rank = 6 ∨ d = controlDrbg ∧ r.spare.isSome then
           { ctrUpdate r seed with state := .ready, calls := 0, demand := false }
         else { r with spare := some seed }) ∧
      t.ent.seeds = rest ∧ (∀ e, e ≠ d → t.drbg e = s.drbg e) ∧ t.ent.sources = s.ent.sources ∧ 
      t = { s with ent := t.ent }) ∧
  (∀ s rank d seed rest, s.ent.ready = true → s.ent.seeds = seed :: rest → s.firstRequest = some (rank, d) → (s.drbg d).state = .unseeded →
    Completes (.seedDeliver false) s fun t =>
      (s.deliverSeed false).drbg d = { s.drbg d with state := .failed } ∧
      t = (s.deliverSeed false).occur (if d = controlDrbg then 11 else kilnBank d) (if d = controlDrbg then 8 else 11) none) ∧
  (∀ s i d, i < 1024 → d ≤ 68 → s.answers i = true → s.isPf i = true → s.ownerPf = i → State.drbgLive (s.drbg d) = true →
    Completes (.entReseedOne i d) s fun t =>
      t.drbg d = { s.drbg d with demand := true } ∧ (∀ e, e ≠ d → t.drbg e = s.drbg e) ∧ 
      t = { s with ent := t.ent }) ∧
  (∀ s i d, i < 1024 → 68 < d → d < 128 → s.answers i = true → s.isPf i = true → s.ownerPf = i → NoEffect (.entReseedOne i d) s) ∧
  (∀ s i, i < 1024 → s.answers i = true → s.isPf i = true → s.ownerPf = i →
    Completes (.entReseedAll i) s fun t =>
      (∀ d, d ≤ 68 → t.drbg d = if State.drbgLive (s.drbg d) then { s.drbg d with demand := true } else s.drbg d) ∧
      t.ent.sources = s.ent.sources ∧ 
      t = { s with ent := t.ent })

/-- R311, R312, R314, R316 to R320: the life of a mailbox. The window's bytes past a response are undefined and left open.
Choices of the model met here (DESIGN CHOICE, DEDUCED or PRESUMED): log 57. -/
def Obligations.MailboxProtocol : Prop :=
  (∀ s i k, boxUnit i k = true → s.answers i = true →
    Completes (.go i k) s fun t => t = s.modBox i k fun b =>
      if b.state = .idle ∨ b.state = .done then { b with state := .posted, abortSeen := false } else { b with dropped := satInc b.dropped }) ∧
  (∀ s i k, boxUnit i k = true → s.answers i = true →
    Completes (.ack i k) s fun t => t = s.modBox i k fun b =>
      if b.state = .done then { b with state := .idle } else { b with dropped := satInc b.dropped }) ∧
  (∀ s i k, boxUnit i k = true → s.answers i = true → (s.box i k).state = .posted → (s.box i k).running = none →
    Completes (.abort i k) s fun t =>
      (t.box i k).state = .done ∧ (t.box i k).running = none ∧
      (t.box i k).data.take 8 = leBytes (reqCode (padTo 448 (s.box i k).data)) 2 ++ [0, 0] ++
        leBytes (reqTag (padTo 448 (s.box i k).data)) 2 ++ leBytes Mr.ABORTED 2 ∧
      t = { s with host := t.host, mbx := t.mbx, log := t.log, freeCtr := t.freeCtr, out := t.out }) ∧
  (∀ s i k r, boxUnit i k = true → s.answers i = true → (s.box i k).state = .busy → (s.box i k).running = some r → reqCode r ≠ 0x0801 →
    Completes (.abort i k) s fun t => t = s.modBox i k fun b => { b with abortSeen := true }) ∧
  (∀ s i k r, boxUnit i k = true → s.answers i = true → (s.box i k).state = .busy → (s.box i k).running = some r → reqCode r = 0x0801 →
    Completes (.abort i k) s fun t =>
      t = (if (s.box i k).acting then s.stageStopped else s).endCommand i k Mr.ABORTED [] ∧
      ((s.box i k).acting = true → ∀ glaze b, s.fw.staging = some (glaze, b) →
        (let slots := if glaze then t.fw.glaze else t.fw.kazkel
         (if b then slots.b else slots.a) = {}) ∧ t.fw.staging = none)) ∧
  (∀ s j, s.kazkelRuns = true → s.mbxRunning < 8 → s.mbxNext = some j → s.mbxChecks (j / 8) (padTo 448 (s.box (j / 8) (j % 8)).data) = none →
    Completes .mbxTake s fun t =>
      t.mbx.lastTaken = j ∧ 
      t = { s with mbx := t.mbx } ∧
      t.box (j / 8) (j % 8) = { s.box (j / 8) (j % 8) with
        state := .busy, running := some (padTo 448 (s.box (j / 8) (j % 8)).data), acting := false, count := 0 }) ∧
  (∀ s j result, s.kazkelRuns = true → s.mbxRunning < 8 → s.mbxNext = some j →
    (s.box (j / 8) (j % 8)).running = none → s.mbxChecks (j / 8) (padTo 448 (s.box (j / 8) (j % 8)).data) = some result →
    Completes .mbxTake s fun t =>
      (t.box (j / 8) (j % 8)).state = .done ∧ (t.box (j / 8) (j % 8)).running = none ∧
      (t.box (j / 8) (j % 8)).data.take 8 = leBytes (reqCode (padTo 448 (s.box (j / 8) (j % 8)).data)) 2 ++ [0, 0] ++
        leBytes (reqTag (padTo 448 (s.box (j / 8) (j % 8)).data)) 2 ++ leBytes result 2 ∧
      t = { s with host := t.host, mbx := t.mbx, log := t.log, freeCtr := t.freeCtr, out := t.out }) ∧
  (∀ (s : State) i r, ((s.fn i).quarantined = true → reqCode r ≠ 2 → s.mbxChecks i r = some Mr.QUARANTINED) ∧
    ((s.fn i).quarantined = false →
      (leAt r 6 2 ≠ 0 ∨ 440 < reqLen r → s.mbxChecks i r = some Mr.BAD_LENGTH) ∧
      (leAt r 6 2 = 0 → reqLen r ≤ 440 →
        (s.levelOf i = 0 → 3 < reqCode r → s.mbxChecks i r = some Mr.NO_LEVEL) ∧
        (s.levelOf i = 2 → s.fw.recovery = false →
          (cmdRow (reqCode r) = none → s.mbxChecks i r = some Mr.UNKNOWN_COMMAND) ∧
          (∀ row, cmdRow (reqCode r) = some row →
            (2 < row.level → s.mbxChecks i r = some Mr.UNKNOWN_COMMAND) ∧
            (row.level ≤ 2 →
              (reqLen r ∉ row.lens → s.mbxChecks i r = some Mr.BAD_LENGTH) ∧
              (reqLen r ∈ row.lens →
                (s.admits i row.who (reqBody r) = false → s.mbxChecks i r = some Mr.NOT_PERMITTED) ∧
                (s.admits i row.who (reqBody r) = true →
                  (s.sys.mode ∉ State.reqModes r row → s.mbxChecks i r = some Mr.WRONG_MODE) ∧
                  (s.sys.mode ∈ State.reqModes r row →
                    s.mbxChecks i r = if fieldsOk (reqCode r) (reqBody r) then none else some Mr.BAD_FIELD))))))))) ∧
  (∀ (s : State) i k r result p, boxUnit i k = true → (s.box i k).state = .busy → (s.box i k).running = some r →
    let t := s.endCommand i k result p
    let q := if result = Mr.OK then p else []
    (t.box i k).state = .done ∧ (t.box i k).running = none ∧ (t.box i k).acting = false ∧
    (t.box i k).data.take (8 + q.length) = leBytes (reqCode r) 2 ++ leBytes q.length 2 ++ leBytes (reqTag r) 2 ++ leBytes result 2 ++ q ∧
    (t.box i k).dropped = (s.box i k).dropped ∧ (t.box i k).abortSeen = (s.box i k).abortSeen ∧
    (∀ i' k', k' < 8 → (i', k') ≠ (i, k) → t.box i' k' = s.box i' k') ∧ t.mbx.levels = s.mbx.levels ∧
    t.mbx.pageOwner = s.mbx.pageOwner ∧ 
      t = { s with host := t.host, mbx := t.mbx, log := t.log, freeCtr := t.freeCtr, out := t.out }) ∧
  (∀ s i k r, boxUnit i k = true → s.kazkelRuns = true → (s.box i k).running = some r → (s.box i k).acting = false →
    (s.mir.controls.any fun c => c.2 == .mailbox i k) = false →
    Completes (.mbxCommandTimeout i k) s fun t => t = s.endCommand i k Mr.TIMED_OUT [])

/-- R50 to R52, R54, R322, R324, R510: the session and function commands of a mailbox.
Choices of the model met here (DESIGN CHOICE, DEDUCED or PRESUMED): log 2, 30, 74, 75, 114. -/
def Obligations.MailboxSessionAndFunctions : Prop :=
  (∀ s i k r, Serving s i k 0x0001 r →
    (let p := reqBody r
     let lvl := min (byteAt p 1) s.runningImage.levelMax
     max (byteAt p 0) s.runningImage.levelMin ≤ lvl →
     Completes (.hello i k) s fun t =>
      t = (s.modMbx fun m => { m with levels := mset 0 m.levels i lvl }).endCommand i k Mr.OK
        ([byte lvl, byte s.runningImage.levelMin, byte s.runningImage.levelMax, 0] ++ padTo 4 s.runningImage.version ++
          leBytes s.fw.glazeLevel.toNat 2 ++ [byte (modeCode s.sys.mode), 0])) ∧
    (let p := reqBody r
     min (byteAt p 1) s.runningImage.levelMax < max (byteAt p 0) s.runningImage.levelMin →
     Completes (.hello i k) s fun t => t = s.endCommand i k Mr.NO_LEVEL [])) ∧
  (∀ s i k r, Serving s i k 0x0002 r → Completes (.fnStatus i k) s fun t =>
    let j := if (reqBody r).isEmpty then i else leAt (reqBody r) 0 2
    t = s.endCommand i k Mr.OK (leBytes j 2 ++ [byte ((s.fn j).bound.getD 0), byte (b2n (s.fn j).bound.isSome +
      2 * b2n (s.fn j).quarantined + 4 * b2n ((s.fn j).bound.any fun g => (polAdmins (s.policyOf g)).contains j)), byte (s.levelOf j),
      0, 0, 0] ++ leBytes ((s.lentTo j).map fun c => 2 ^ c).sum 4 ++ [byte (s.pagesOfFn j).length, 0, 0, 0])) ∧
  (∀ s i k r, Serving s i k 0x0003 r → Completes (.deviceInfo i k) s fun t =>
    t = s.endCommand i k Mr.OK (leBytes Config.uid.toNat 8 ++ [byte (modeCode s.sys.mode), byte (lcCode s.lcc.state), byte Config.part,
      byte (s.kilnsIn .inService).length, byte s.sparesLeft, byte (b2n s.fw.runningB), byte s.fw.rollback, 0])) ∧
  (∀ s i k r, Serving s i k 0x0101 r →
    let j := leAt (reqBody r) 0 2
    let g := byteAt (reqBody r) 2
    Completes (.fnBind i k) s fun t =>
      (s.fnBusy j = true → t = s.endCommand i k Mr.TARGET_BUSY []) ∧
      (s.fnBusy j = false → (s.saggar g).state ≠ .active → t = s.endCommand i k Mr.SAGGAR_STATE []) ∧
      (s.fnBusy j = false → (s.saggar g).state = .active → polMaxFunctions (s.policyOf g) ≤ s.boundTo g j →
        t = s.endCommand i k Mr.LIMIT []) ∧
      (s.fnBusy j = false → (s.saggar g).state = .active → s.boundTo g j < polMaxFunctions (s.policyOf g) →
        t = (s.rebind j (some g)).endCommand i k Mr.OK (leBytes j 2 ++ [byte ((s.fn j).gen + 1).toNat, 0]))) ∧
  (∀ s i k r, Serving s i k 0x0102 r →
    let j := leAt (reqBody r) 0 2
    Completes (.fnUnbind i k) s fun t =>
      t = if s.fnBusy j then s.endCommand i k Mr.TARGET_BUSY []
        else (s.rebind j none).endCommand i k Mr.OK (leBytes j 2 ++ [byte ((s.fn j).gen + 1).toNat, 0])) ∧
  (∀ (s : State) j g,
    let t := s.rebind j g
    (t.fn j).gen = (s.fn j).gen + 1 ∧ (s.present j = true → (t.fn j).bound = g) ∧
    (t.host.bindings.find? fun e => e.1 = j).map (·.2) = g ∧
    (∀ j', j' ≠ j → t.fn j' = s.fn j' ∧ (t.host.bindings.find? fun e => e.1 = j') = s.host.bindings.find? fun e => e.1 = j') ∧
    (∀ tag w, s.ware tag = some w → t.ware tag = some { w with stale := w.stale || decide (w.fn = j) }) ∧
    mget 0 t.log.grants j = 0 ∧ 
      t = { s with host := t.host, setter := t.setter, log := t.log }) ∧
  (∀ s i k r, Serving s i k 0x0103 r → Completes (.globalOwner i k) s fun t =>
    let p := s.port s.host.ownerB
    t = if s.host.ownerB = s.portOf i then s.endCommand i k Mr.SEQUENCE []
      else if p.up ∨ s.sys.rtc.toNat < p.downAt + rtcSecond then s.endCommand i k Mr.OWNER_LINK_UP []
      else (s.modHost fun h => { h with ownerB := s.portOf i }).endCommand i k Mr.OK [byte (b2n (s.portOf i)), 0, 0, 0]) ∧
  (∀ s i k r, Serving s i k 0x0104 r →
    let most := if s.isPf i then 8 else 2
    Completes (.dmaAcquire i k) s fun t =>
      ((s.bank 12).fenced = true ∨ s.channelsFree = [] → t = s.endCommand i k Mr.POOL_EXHAUSTED []) ∧
      ((s.bank 12).fenced = false → s.channelsFree ≠ [] →
        (most ≤ (s.lentTo i).length → t = s.endCommand i k Mr.LIMIT []) ∧
        ((s.lentTo i).length < most → ∃ c, 8 ≤ c ∧ c < 32 ∧ (s.chan c).lent = false ∧
          t = ((s.drew 1).modChan c fun _ => { lent := true, fn := i, prioMax := byteAt (reqBody r) 0 }).endCommand i k Mr.OK
            [byte c, 0, 0, 0]))) ∧
  (∀ s i k r, Serving s i k 0x0105 r →
    let c := byteAt (reqBody r) 0
    c < 32 → Completes (.dmaRelease i k) s fun t =>
      t = if (s.chan c).lent = true ∧ (s.chan c).fn = i then (s.dmaReturn c).endCommand i k Mr.OK []
        else s.endCommand i k Mr.SEQUENCE []) ∧
  (∀ s i k r, Serving s i k 0x0106 r →
    let c := byteAt (reqBody r) 0
    c < 32 → Completes (.dmaReclaim i k) s fun t =>
      t = if (s.chan c).lent = true ∧ (s.chan c).fn = leAt (reqBody r) 2 2 then (s.dmaReturn c).endCommand i k Mr.OK []
        else s.endCommand i k Mr.SEQUENCE []) ∧
  (∀ (s : State) c, (s.dmaReturn c).chan c = {}) ∧
  (∀ s i k r, Serving s i k 0x0107 r → mwf none s.mbx.pageOwner = true →
    let want := byteAt (reqBody r) 0
    let free := (List.range Config.stagePages).filter fun p => (mget none s.mbx.pageOwner p).isNone
    ((s.pagesOfFn i).length + free.length < want → Completes (.stagePages i k) s fun t => t = s.endCommand i k Mr.POOL_EXHAUSTED []) ∧
    (want ≤ (s.pagesOfFn i).length + free.length → Completes (.stagePages i k) s fun t =>
      ∃ u : State, (u.pagesOfFn i).length = want ∧
        t = u.endCommand i k Mr.OK ([byte want] ++ zeros 7 ++ (u.pagesOfFn i).flatMap fun p => leBytes (stageAddr p) 8) ∧
        u = { s with mbx := { s.mbx with pageOwner := u.mbx.pageOwner }, store := u.store, mem := u.mem, freeCtr := u.freeCtr } ∧
        (∀ p j, j ≠ i → (mget none u.mbx.pageOwner p = some j ↔ mget none s.mbx.pageOwner p = some j)) ∧
        (∀ p a, mget none u.mbx.pageOwner p ≠ mget none s.mbx.pageOwner p → stageAddr p ≤ a → a < stageAddr p + 65536 → mget 0 u.mem a = 0) ∧
        (∀ a, (∀ p, mget none u.mbx.pageOwner p ≠ mget none s.mbx.pageOwner p → a < stageAddr p ∨ stageAddr p + 65536 ≤ a) →
          mget 0 u.mem a = mget 0 s.mem a)))

/-- R325 to R327, with R117 (the epoch), R226 (quotas) and R466 (device drain). DRAIN of a saggar that is not ACTIVE is answered OK without
effect: the table gives it no result of its own (NOTES).
Choices of the model met here (DESIGN CHOICE, DEDUCED or PRESUMED): log 75, 76, 77, 78, 80, 81, 83. -/
def Obligations.SaggarAndPolicyCommands : Prop :=
  (∀ s i k r, Serving s i k 0x0201 r → Completes (.saggarStatus i k) s fun t =>
    let g := s.saggar (byteAt (reqBody r) 0)
    t = s.endCommand i k Mr.OK ([byte (match g.state with
        | .none => 0
        | .active => 1
        | .erasing => 2), byte (b2n g.drained)] ++ leBytes g.epoch.toNat 2 ++ leBytes g.pol.bepochs.current.toNat 2 ++
      leBytes g.pol.bepochs.oldest.toNat 2 ++ leBytes g.cacheQuota 4 ++ leBytes g.extQuota 2 ++ [0, 0])) ∧
  (∀ s i k r, Serving s i k 0x0202 r → Completes (.policyRead i k) s fun t =>
    let g := s.saggar (byteAt (reqBody r) 0)
    t = if g.state = .active then s.endCommand i k Mr.OK (g.pol.record (byteAt (reqBody r) 1))
      else s.endCommand i k Mr.SAGGAR_STATE []) ∧
  ReplicatedRow .policyWrite 0x0203 (fun s p =>
    let g := byteAt p 0
    if (s.saggar g).state ≠ .active then some Mr.SAGGAR_STATE else if (s.saggar g).busy then some Mr.EPOCH_BUSY
    else s.policyLimits g (slice p 8 256)) ∧
  (∀ (s : State) g r, s.policyLimits g r =
    let others := ((s.keys.saggars.filter fun e => e.1 ≠ g).map fun e => polInflight (e.2.pol.record 0)).sum
    if 65536 < others + polInflight r ∨ 68 < polHomeBase r + polHomeSize r ∨ s.segmentsFree + s.segmentsOf g < polSegQuota r then
      some Mr.LIMIT
    else if s.pageQuota g < polPageQuota r ∧ s.store.total < s.pagesClaimed g + polPageQuota r then some Mr.POOL_EXHAUSTED
    else none) ∧
  (∀ (s : State) g variant record, record.length = 256 →
    let t := s.applyPolicy g variant record
    (t.saggar g).pol.record variant = record ∧ (t.saggar g).pol.wide = record.take 128 ∧
    (∀ v, v ≠ variant → (t.saggar g).pol.record v = record.take 128 ++ mget (zeros 128) (s.saggar g).pol.variants v) ∧
    (t.saggar g).epoch = (s.saggar g).epoch + 1 ∧ (t.saggar g).pol.bepochs = (s.saggar g).pol.bepochs ∧
    (∀ g', g' ≠ g → t.saggar g' = s.saggar g') ∧
    s.applyControl 0x0203 ([byte g, byte variant] ++ zeros 6 ++ record) =
      (s.applyPolicy (g % 256) (variant % 256) record,
        leBytes ((s.applyPolicy (g % 256) (variant % 256) record).saggar (g % 256)).epoch.toNat 2 ++ [0, 0]) ∧
    t = { s with host := t.host, keys := t.keys, log := t.log, store := t.store, out := t.out }) ∧
  ReplicatedRow .quotaSet 0x0204 (fun s p =>
    let g := s.saggar (byteAt p 0)
    if g.state ≠ .active then some Mr.SAGGAR_STATE
    else if 1024 * g.sizeK < leAt p 4 4 ∨ 1024 * g.sizeK < leAt p 8 2 then some Mr.LIMIT else none) ∧
  (∀ (s : State) p,
    let t := (s.applyControl 0x0204 p).1
    (t.saggar (byteAt p 0)).cacheQuota = leAt p 4 4 ∧ (t.saggar (byteAt p 0)).extQuota = leAt p 8 2 ∧
    (s.applyControl 0x0204 p).2 = [] ∧ 
      t = { s with kilns := t.kilns, keys := t.keys, store := t.store }) ∧
  (∀ s i k r, Serving s i k 0x0205 r →
    let p := reqBody r
    (byteAt p 0 = 0 → Completes (.drain i k) s fun t =>
      let u := s.modSys fun m => { m with cmdDrain := true }
      t = (if s.sys.mode = .service then u.enterMode .drain 0 else u).endCommand i k Mr.OK []) ∧
    (byteAt p 0 ≠ 0 → Completes (.drain i k) s fun t =>
      t = (if (s.saggar (byteAt p 1)).state = .active then s.modSaggar (byteAt p 1) fun x => { x with drained := true } else s).endCommand
        i k Mr.OK [])) ∧
  (∀ s i k r, Serving s i k 0x0206 r →
    let p := reqBody r
    (byteAt p 0 = 0 → Completes (.undrain i k) s fun t =>
      let u := s.modSys fun m => { m with cmdDrain := false }
      t = if s.sys.cmdDrain then
          (if s.sys.mode = .drain ∧ s.cone.lastLost = false then u.enterMode .service 0 else u).endCommand i k Mr.OK []
        else s.endCommand i k Mr.SEQUENCE []) ∧
    (byteAt p 0 ≠ 0 → Completes (.undrain i k) s fun t =>
      t = if (s.saggar (byteAt p 1)).state = .active ∧ (s.saggar (byteAt p 1)).drained = true then
          (s.modSaggar (byteAt p 1) fun x => { x with drained := false }).endCommand i k Mr.OK []
        else s.endCommand i k Mr.SEQUENCE [])) ∧
  (∀ s i k r, Serving s i k 0x0207 r → Completes (.saggarReset i k) s fun t =>
    t = if (s.saggar (byteAt (reqBody r) 0)).state = .active then
        (s.saggarReset (byteAt (reqBody r) 0)).modBox i k fun b =>
          { b with acting := true, count := s.resetDiscards (byteAt (reqBody r) 0) }
      else s.endCommand i k Mr.SAGGAR_STATE []) ∧
  (∀ s i k r, Underway s i k 0x0207 r → Completes (.saggarReset i k) s fun t =>
    t = if s.resetOver (byteAt (reqBody r) 0) then s.endCommand i k Mr.OK (leBytes (s.box i k).count 4) else s)

/-- R229, R230, R233, R234, R328. Where a saggar that is not ACTIVE has no result in the tables, the BEPOCH commands answer SAGGAR_STATE
and ORIG_ENROL KEY_UNKNOWN (NOTES).
Choices of the model met here (DESIGN CHOICE, DEDUCED or PRESUMED): log 81. -/
def Obligations.KeyCommandsByMailbox : Prop :=
  ReplicatedRow .keyDestroy 0x0301 (fun s p =>
    let g := s.saggar (byteAt p 0)
    if g.state ≠ .active then some Mr.SAGGAR_STATE
    else if 1024 ≤ g.revoked.length ∧ g.isRevoked (leAt p 8 8) = false then some Mr.TABLE_FULL else none) ∧
  ReplicatedRow .origEnrol 0x0302 (fun s p =>
    let g := s.saggar (byteAt p 0)
    if 64 ≤ g.origs.length ∧ g.enrolled (leAt p 4 4) (leAt p 8 8) = false then some Mr.TABLE_FULL
    else if g.state ≠ .active ∨ s.residentB1 (byteAt p 0) (leAt p 4 4) (leAt p 8 8) = false then some Mr.KEY_UNKNOWN else none) ∧
  ReplicatedRow .origWithdraw 0x0303 (fun s p =>
    if (s.saggar (byteAt p 0)).enrolled (leAt p 4 4) (leAt p 8 8) then none else some Mr.KEY_UNKNOWN) ∧
  ReplicatedRow .bepochAdvance 0x0304 (fun s p =>
    let g := s.saggar (byteAt p 0)
    if g.state ≠ .active then some Mr.SAGGAR_STATE else if 4 ≤ g.pol.bepochs.size then some Mr.LIMIT
    else if g.busy then some Mr.EPOCH_BUSY else none) ∧
  ReplicatedRow .bepochRetire 0x0305 (fun s p =>
    let g := s.saggar (byteAt p 0)
    if g.state ≠ .active then some Mr.SAGGAR_STATE else if g.pol.bepochs.size = 1 then some Mr.LIMIT
    else if g.busy then some Mr.EPOCH_BUSY else none) ∧
  (∀ (s : State) p,
    let g := byteAt p 0
    let t := (s.applyControl 0x0301 p).1
    (t.saggar g).isRevoked (leAt p 8 8) = true ∧
    (∀ k, ∀ x ∈ (t.kiln k).slots, x.saggar = g → x.key.handle = leAt p 4 4 → x.key.serial = leAt p 8 8 → x.doomed = true) ∧
    (∀ h e, t.cache h = some e → e.owner = g → e.key.handle = leAt p 4 4 → e.key.serial = leAt p 8 8 → e.doomed = true) ∧
    t = { s with kilns := t.kilns, keys := t.keys, store := t.store }) ∧
  (∀ (s : State) p,
    let g := byteAt p 0
    let t := (s.applyControl 0x0302 p).1
    (t.saggar g).enrolled (leAt p 4 4) (leAt p 8 8) = true ∧
    (∀ o ∈ (t.saggar g).origs, o.handle = leAt p 4 4 → o.serial = leAt p 8 8 → leAt p 16 4 ≤ o.allocated) ∧
    (∀ o, ¬ (o.handle = leAt p 4 4 ∧ o.serial = leAt p 8 8) → (o ∈ (t.saggar g).origs ↔ o ∈ (s.saggar g).origs)) ∧
    (∀ g', g' ≠ g → t.saggar g' = s.saggar g') ∧ 
      t = { s with keys := t.keys }) ∧
  (∀ (s : State) p,
    let g := byteAt p 0
    let t := (s.applyControl 0x0303 p).1
    (t.saggar g).enrolled (leAt p 4 4) (leAt p 8 8) = false ∧
    (∀ o, ¬ (o.handle = leAt p 4 4 ∧ o.serial = leAt p 8 8) → (o ∈ (t.saggar g).origs ↔ o ∈ (s.saggar g).origs)) ∧
    (∀ g', g' ≠ g → t.saggar g' = s.saggar g') ∧ 
      t = { s with keys := t.keys, mir := t.mir }) ∧
  (∀ (s : State) p,
    let g := byteAt p 0
    let t := (s.applyControl 0x0304 p).1
    (t.saggar g).pol.bepochs = { (s.saggar g).pol.bepochs with current := (s.saggar g).pol.bepochs.current + 1 } ∧
    (t.saggar g).epoch = (s.saggar g).epoch + 1 ∧ (t.saggar g).wraps = 0 ∧
    (s.applyControl 0x0304 p).2 = leBytes ((s.saggar g).pol.bepochs.current + 1).toNat 2 ++ leBytes (s.saggar g).pol.bepochs.oldest.toNat 2 ∧
    (∀ g', g' ≠ g → t.saggar g' = s.saggar g') ∧ 
      t = { s with host := t.host, keys := t.keys, log := t.log, out := t.out }) ∧
  (∀ (s : State) p,
    let g := byteAt p 0
    let t := (s.applyControl 0x0305 p).1
    (t.saggar g).pol.bepochs = { (s.saggar g).pol.bepochs with oldest := (s.saggar g).pol.bepochs.oldest + 1 } ∧
    (t.saggar g).epoch = (s.saggar g).epoch + 1 ∧ (t.saggar g).retired = some (s.saggar g).pol.bepochs.oldest ∧
    (s.applyControl 0x0305 p).2 = leBytes (s.saggar g).pol.bepochs.current.toNat 2 ++ leBytes ((s.saggar g).pol.bepochs.oldest + 1).toNat 2 ∧
    t = { s with host := t.host, kilns := t.kilns, keys := t.keys, log := t.log, store := t.store, out := t.out })

/-- R248 to R254, R256, R329: the routing commands of a mailbox. Which free segments are taken, and where a table stands, the spec leaves
open.
Choices of the model met here (DESIGN CHOICE, DEDUCED or PRESUMED): log 82. -/
def Obligations.RoutingCommandsByMailbox : Prop :=
  (∀ s i k r, Serving s i k 0x0401 r →
    let p := reqBody r
    let g := s.saggar (byteAt p 0)
    let n := leAt p 2 2
    let set := slice p 8 64
    Completes (.ksetWrite i k) s fun t =>
      (¬ (g.ksetBase ≤ n ∧ n < g.ksetBase + g.ksetCount) → t = s.endCommand i k Mr.NOT_PERMITTED []) ∧
      (g.ksetBase ≤ n → n < g.ksetBase + g.ksetCount →
        ((∃ j < 16, leAt set (4 * j) 4 ≠ 0 ∧ g.inRange (leAt set (4 * j) 4) = false) → t = s.endCommand i k Mr.BAD_FIELD []) ∧
        ((∀ j < 16, leAt set (4 * j) 4 = 0 ∨ g.inRange (leAt set (4 * j) 4) = true) →
          t = (s.modRouting fun u => { u with ksets := mset (zeros 64) u.ksets n set }).endCommand i k Mr.OK []))) ∧
  (∀ s i k r, Serving s i k 0x0402 r → s.routing.busy = false → (s.bank 8).fenced = false →
    let g := leAt (reqBody r) 0 4
    Completes (.segLock i k) s fun t =>
      let u := (s.segLock g).1.modRouting fun u => { u with busySeg := g, result := BitVec.ofNat 3 (s.segLock g).2 }
      t = u.endCommand i k Mr.OK [byte (s.segLock g).2, byte (u.failedSlots g), 0, 0]) ∧
  (∀ s i k r, Serving s i k 0x0404 r → s.routing.busy = false → (s.bank 8).fenced = false →
    let g := leAt (reqBody r) 0 4
    Completes (.segAbandon i k) s fun t =>
      let u := (s.segAbandon g).1.modRouting fun u => { u with busySeg := g, result := BitVec.ofNat 3 (s.segAbandon g).2 }
      t = u.endCommand i k Mr.OK [byte (s.segAbandon g).2, byte (u.failedSlots g), 0, 0]) ∧
  (∀ s i k r, Serving s i k 0x0403 r → s.routing.busy = false → (s.bank 8).fenced = false →
    let g := leAt (reqBody r) 0 4
    Completes (.segCommit i k) s fun t =>
      let u := (s.segCommit g).1.modRouting fun u => { u with busySeg := g, result := BitVec.ofNat 3 (s.segCommit g).2 }
      ((s.segCommit g).2 = 0 → t = (u.modRouting fun u => { u with busy := true }).modBox i k fun b => { b with acting := true }) ∧
      ((s.segCommit g).2 ≠ 0 → t = u.endCommand i k Mr.OK [byte (s.segCommit g).2, byte (u.failedSlots g), 0, 0])) ∧
  (∀ s i k r, Underway s i k 0x0403 r → (s.segment (leAt (reqBody r) 0 4)).state ≠ .committing →
    Completes (.segCommit i k) s fun t =>
      t = s.endCommand i k Mr.OK [0, byte (s.failedSlots (leAt (reqBody r) 0 4)), 0, 0]) ∧
  (∀ (s : State) i k r, Serving s i k 0x0402 r ∨ Serving s i k 0x0403 r ∨ Serving s i k 0x0404 r → s.routing.busy = true →
    (reqCode r = 0x0402 → NoEffect (.segLock i k) s) ∧ (reqCode r = 0x0403 → NoEffect (.segCommit i k) s) ∧
    (reqCode r = 0x0404 → NoEffect (.segAbandon i k) s)) ∧
  (∀ s i k r, Serving s i k 0x0405 r →
    let g := byteAt (reqBody r) 0
    let n := leAt (reqBody r) 2 2
    let free := (List.range 250000).filter fun x => (s.segment x).state == .free
    Completes (.segAssign i k) s fun t =>
      (s.granted g = true → t = s.endCommand i k Mr.NOT_PERMITTED []) ∧
      (s.granted g = false → polSegQuota (s.policyOf g) < s.segmentsOf g + n → t = s.endCommand i k Mr.LIMIT []) ∧
      (s.granted g = false → s.segmentsOf g + n ≤ polSegQuota (s.policyOf g) → free.length < n →
        t = s.endCommand i k Mr.POOL_EXHAUSTED []) ∧
      (s.granted g = false → s.segmentsOf g + n ≤ polSegQuota (s.policyOf g) → n ≤ free.length → ∃ got : List Nat, ∃ u : State,
        got.length = n ∧ got.Nodup ∧ (∀ x ∈ got, x < 250000 ∧ (s.segment x).state = .free ∧ u.segment x = { state := .idle, saggar := g }) ∧
        (∀ x, x ∉ got → u.segment x = s.segment x) ∧
        u = { s with routing := { s.routing with segments := u.routing.segments }, freeCtr := s.freeCtr + n } ∧
        t = u.endCommand i k Mr.OK (got.flatMap fun x => leBytes x 4))) ∧
  (∀ s i k r, Serving s i k 0x0406 r →
    let g := leAt (reqBody r) 0 4
    Completes (.segRelease i k) s fun t =>
      t = if (s.segment g).state = .idle ∧ (s.segment g).live = [] then (s.modSegment g fun _ => {}).endCommand i k Mr.OK []
        else s.endCommand i k Mr.SEQUENCE []) ∧
  (∀ s i k r, Serving s i k 0x0407 r →
    let g := byteAt (reqBody r) 0
    let len := byteAt (reqBody r) 1
    let n := byteAt (reqBody r) 2
    Completes (.tableCreate i k) s fun t =>
      (s.grantOf g = none → t = s.endCommand i k Mr.NOT_PERMITTED []) ∧
      (∀ x, s.grantOf g = some x →
        (polSegQuota (s.policyOf g) < s.segmentsOf g + 2 ^ n → t = s.endCommand i k Mr.LIMIT []) ∧
        (s.segmentsOf g + 2 ^ n ≤ polSegQuota (s.policyOf g) →
          ((mget none (s.grant x).waiting len).isSome = true → t = s.endCommand i k Mr.SEQUENCE []) ∧
          ((mget none (s.grant x).waiting len) = none → s.tableBases n = [] → t = s.endCommand i k Mr.POOL_EXHAUSTED []) ∧
          ((mget none (s.grant x).waiting len) = none → s.tableBases n ≠ [] → ∃ b, ∃ u : State,
            b + 2 ^ n ≤ 250000 ∧ (∀ y, b ≤ y → y < b + 2 ^ n → (s.segment y).state = .free ∧
              u.segment y = { state := .idle, hash := true, saggar := g }) ∧
            (∀ y, y < b ∨ b + 2 ^ n ≤ y → u.segment y = s.segment y) ∧
            (mget none (s.grant x).live len = none → mget none (u.grant x).live len = some { base := b, log2n := n } ∧
              (u.grant x).waiting = (s.grant x).waiting) ∧
            (∀ old, mget none (s.grant x).live len = some old → mget none (u.grant x).waiting len = some { base := b, log2n := n } ∧
              (u.grant x).live = (s.grant x).live) ∧
            u = { s with routing := u.routing, freeCtr := s.freeCtr + 1 } ∧
            t = u.endCommand i k Mr.OK (leBytes b 4 ++ [byte (b2n (mget none (s.grant x).live len).isNone), 0, 0, 0]))))) ∧
  (∀ s i k r, Serving s i k 0x0408 r →
    let g := byteAt (reqBody r) 0
    let len := byteAt (reqBody r) 1
    Completes (.tableSwitch i k) s fun t =>
      (s.grantOf g = none → t = s.endCommand i k Mr.SEQUENCE []) ∧
      (∀ x, s.grantOf g = some x →
        (mget none (s.grant x).waiting len = none → t = s.endCommand i k Mr.SEQUENCE []) ∧
        (∀ tab, mget none (s.grant x).waiting len = some tab → ∃ u : State,
          mget none (u.grant x).live len = some tab ∧ mget none (u.grant x).waiting len = none ∧
          (∀ old, mget none (s.grant x).live len = some old → ∀ y, old.base ≤ y → y < old.base + 2 ^ old.log2n →
            (s.segment y).saggar = g → (s.segment y).hash = true → u.segment y = {}) ∧
          u = { s with routing := u.routing } ∧ t = u.endCommand i k Mr.OK (leBytes tab.base 4)))) ∧
  (∀ s i k r, Serving s i k 0x0409 r →
    let g := byteAt (reqBody r) 0
    let len := byteAt (reqBody r) 1
    let pending := decide (byteAt (reqBody r) 2 = 1)
    Completes (.tableDelete i k) s fun t =>
      (s.grantOf g = none → t = s.endCommand i k Mr.SEQUENCE []) ∧
      (∀ x, s.grantOf g = some x →
        let held := fun (u : State) => mget none (if pending then (u.grant x).waiting else (u.grant x).live) len
        (held s = none → t = s.endCommand i k Mr.SEQUENCE []) ∧
        (∀ tab, held s = some tab → ∃ u : State,
          held u = none ∧ (∀ y, tab.base ≤ y → y < tab.base + 2 ^ tab.log2n →
            (s.segment y).saggar = g → (s.segment y).hash = true → u.segment y = {}) ∧
          u = { s with routing := u.routing } ∧ t = u.endCommand i k Mr.OK [])))

/-- R151, R293, R330, R332 to R340. The result of a failed NEEDS_SVN check is a free choice (log 32).
Choices of the model met here (DESIGN CHOICE, DEDUCED or PRESUMED): log 32, 83, 84. -/
def Obligations.KilnEntropyMarginAndImageCommands : Prop :=
  (∀ s i k r hashA hashB, Serving s i k 0x0501 r →
    let x := byteAt (reqBody r) 0
    Completes (.kilnReset i k hashA hashB) s fun t =>
      t = if State.resettable (s.kiln x).state = true ∧ (s.bank (kilnBank x)).fenced = false then
          (s.kilnResetRun x 1 hashA hashB).endCommand i k Mr.OK [1, 0, 0, 0]
        else s.endCommand i k Mr.OK [0, 0, 0, 0]) ∧
  (∀ s i k r, Serving s i k 0x0502 r →
    let x := byteAt (reqBody r) 0
    Completes (.entReinstate i k) s fun t =>
      ((s.source x).state ≠ .retired → t = s.endCommand i k Mr.SEQUENCE []) ∧
      ((s.source x).state = .retired →
        t = (((s.modSource x fun y => { y with state := .startup, recent := 0 }).modEnt fun e =>
          { e with retiredList := e.retiredList.filter (· ≠ x) }).sourceRecord x).endCommand i k Mr.OK [])) ∧
  (∀ s i k r, Serving s i k 0x0503 r →
    let p := reqBody r
    Completes (.marginConfig i k) s fun t =>
      t = (s.modCone fun c => { c with winStart := leAt p 0 2, winLen := leAt p 2 2, floor := (leAt p 4 2 - 1200) / 25,
                                       reportH := leAt p 6 2 }).endCommand i k Mr.OK (slice p 0 8)) ∧
  (∀ s i k r image, Serving s i k 0x0801 r →
    let glaze := decide (byteAt (reqBody r) 0 = 1)
    Completes (.imageStage i k image) s fun t =>
      (s.fw.staging ≠ none → t = s.endCommand i k Mr.TARGET_BUSY []) ∧
      (s.fw.staging = none →
        (s.stageSlot glaze = none → t = s.endCommand i k Mr.SEQUENCE []) ∧
        (∀ b, s.stageSlot glaze = some b → (s.slot glaze b).state ≠ .committed ∧ s.slotRuns glaze b = false ∧
          ((s.slot glaze b).state = .trial → t = s.endCommand i k Mr.SEQUENCE []) ∧
          ((s.slot glaze b).state ≠ .trial →
            t = ((s.setSlot glaze b {}).modFw fun w => { w with staging := some (glaze, b) }).modBox i k fun x =>
              { x with acting := true })))) ∧
  (∀ s i k r image glaze b, Underway s i k 0x0801 r → s.fw.staging = some (glaze, b) → s.fw.recovery = false →
    let img := image.take (bufLen (reqBody r) 8)
    Completes (.imageStage i k (some image)) s fun t =>
      let done := (s.drew 1).modFw fun w => { w with staging := none }
      (s.stageVerdict glaze img = Mr.OK →
        imageForm img = true ∧ imageSigned img = true ∧ byteAt img 4 = b2n glaze ∧ s.fw.rollback ≤ byteAt img 5 ∧
        t = (done.setSlot glaze b (imageOf img .staged)).endCommand i k Mr.OK
          ([byte (b2n b), byte (byteAt img 5), 0, 0] ++ slice img 8 4 ++ slice img 24 48)) ∧
      (s.stageVerdict glaze img ≠ Mr.OK → t = done.endCommand i k (s.stageVerdict glaze img) []) ∧
      (imageForm img = false → s.stageVerdict glaze img = Mr.IMAGE_FORMAT) ∧
      (imageForm img = true → imageSigned img = false → s.stageVerdict glaze img = Mr.IMAGE_SIGNATURE) ∧
      (imageForm img = true → imageSigned img = true → byteAt img 4 = b2n glaze → byteAt img 5 < s.fw.rollback →
        s.stageVerdict glaze img = Mr.ROLLBACK)) ∧
  (∀ s i k r glaze b, Underway s i k 0x0801 r → s.fw.staging = some (glaze, b) →
    Completes (.imageStage i k none) s fun t =>
      t = (s.modFw fun w => { w with staging := none }).endCommand i k Mr.BUFFER_FAULT []) ∧
  (∀ s i k r, Serving s i k 0x0802 r → Completes (.imageStatus i k) s fun t =>
    let x := if byteAt (reqBody r) 0 = 1 then s.fw.glaze else s.fw.kazkel
    t = s.endCommand i k Mr.OK ([byte s.fw.rollback] ++ zeros 7 ++
      [byte (slotCode x.a.state), byte x.a.svn, byte x.a.attempts, 0] ++ padTo 4 x.a.version ++ padTo 48 x.a.digest ++
      [byte (slotCode x.b.state), byte x.b.svn, byte x.b.attempts, 0] ++ padTo 4 x.b.version ++ padTo 48 x.b.digest)) ∧
  (∀ s i k r, Serving s i k 0x0803 r →
    let p := reqBody r
    let glaze := decide (byteAt p 0 = 1)
    let b := decide (byteAt p 1 = 1)
    let x := s.slot glaze b
    Completes (.imageActivate i k) s fun t =>
      (x.state ≠ .authorised ∨ padTo 48 x.digest ≠ slice p 8 48 → t = s.endCommand i k Mr.NOT_AUTHORISED []) ∧
      (x.state = .authorised → padTo 48 x.digest = slice p 8 48 → (s.slot glaze (!b)).state ≠ .trial →
        (glaze = false →
          let u := s.setSlot false b { x with state := .trial, attempts := 0 }
          t = (if bitAt (byteAt p 2) 0 then u.modFw fun w => { w with warmDue := true } else u).endCommand i k Mr.OK []) ∧
        (glaze = true → s.fw.glazeNext = none →
          t = (s.modFw fun w => { w with glazeNext := some (BitVec.ofNat 16 (leAt x.version 0 2)), glazeNextB := b }).modBox i k
            fun y => { y with acting := true }))) ∧
  (∀ s i k r, Underway s i k 0x0803 r → s.fw.glazeNext = none → Completes (.imageActivate i k) s fun t => t = s.endCommand i k Mr.OK []) ∧
  (∀ s i k r, Serving s i k 0x0804 r →
    let glaze := decide (byteAt (reqBody r) 0 = 1)
    let b := decide (byteAt (reqBody r) 1 = 1)
    let x := s.slot glaze b
    Completes (.imageCommit i k) s fun t =>
      (x.state ≠ .trial ∨ (glaze = false ∧ s.fw.runningB ≠ b) → t = s.endCommand i k Mr.SEQUENCE []) ∧
      (x.state = .trial → (glaze = true ∨ s.fw.runningB = b) → ∃ u : State,
        u.slot glaze b = { x with state := .committed } ∧ u.slot glaze (!b) = {} ∧ u.fw.rollback = max s.fw.rollback x.svn ∧
        u.slotsOf (!glaze) = s.slotsOf (!glaze) ∧ u = { s with fw := u.fw } ∧
        t = u.endCommand i k Mr.OK [byte (max s.fw.rollback x.svn), 0, 0, 0]))

/-- R351 to R359: the ceremony as its commands and bounds drive it.
Choices of the model met here (DESIGN CHOICE, DEDUCED or PRESUMED): log 66, 83, 87, 89, 102. -/
def Obligations.CeremonyCommands : Prop :=
  (∀ s i k r record, Serving s i k 0x0901 r →
    let p := reqBody r
    Completes (.cerBegin i k record) s fun t =>
      (s.cerRuns = true ∨ lcCeremonies s.lcc.state = false → t = s.endCommand i k Mr.SEQUENCE []) ∧
      (s.cerRuns = false → lcCeremonies s.lcc.state = true →
        (record = none → t = s.endCommand i k Mr.BUFFER_FAULT []) ∧
        (∀ bs, record = some bs →
          let cr := bs.take (bufLen p 8)
          (s.kindAdmitted (byteAt p 0) (crSag cr) = false → t = s.endCommand i k Mr.SEQUENCE []) ∧
          (s.kindAdmitted (byteAt p 0) (crSag cr) = true →
            let form := crForm (byteAt p 0) ((s.roster (crSag cr)).entries.filter keyHolder).length cr
            (form = false → t = s.endCommand i k Mr.BAD_FIELD []) ∧
            (form = true → s.crSaggars cr = false → t = s.endCommand i k Mr.SAGGAR_STATE []) ∧
            (form = true → s.crSaggars cr = true → s.crConflict cr = some Mr.LIMIT → t = s.endCommand i k Mr.LIMIT []) ∧
            (form = true → s.crSaggars cr = true → s.crConflict cr ≠ some Mr.LIMIT →
              t = (s.beginCeremony cr).modBox i k fun b => { b with acting := true }))))) ∧
  (∀ (s : State) (cr : Bytes), crLength cr ≤ cr.length →
    let t := s.beginCeremony cr
    t.cus.cer.number = s.cus.cer.number + 1 ∧ t.cus.cer.step = 1 ∧ t.cus.cer.kind = crKind cr ∧ t.cus.cer.saggar = crSag cr ∧
    t.cus.cer.slot = crSlot cr ∧ t.cus.cer.record = cr.take (crLength cr) ∧
    t.cus.cer.cd = padTo 48 (Config.sha384 (cr.take (crLength cr))) ∧ t.cus.cer.fromMode = modeCode s.sys.mode ∧
    t.cus.cer.committed = false ∧ t.cus.cer.aSet = { kind := 1 } ∧ t.cus.cer.outputs = [] ∧
    (∃ e, t.cus.journal.head? = some e ∧ e.number = s.cus.cer.number + 1 ∧ e.record = cr.take (crLength cr) ∧
      e.beginRtc = s.sys.rtc.toNat ∧ e.endRtc = none) ∧
    t.cus.journal.length ≤ 64 ∧ t.lcc.purpose = 0 ∧ 
      t = { s with host := t.host, cus := t.cus, log := t.log, lcc := t.lcc, out := t.out }) ∧
  (∀ s i k r record, Underway s i k 0x0901 r → 2 ≤ s.cus.cer.step → Completes (.cerBegin i k record) s fun t =>
    t = s.endCommand i k Mr.OK (leBytes s.cus.cer.number 4 ++ padTo 48 s.cus.cer.cd)) ∧
  (∀ s i k r left, Serving s i k 0x0902 r → Completes (.cerStatus i k left) s fun t =>
    let c := s.cus.cer
    t = s.endCommand i k Mr.OK (leBytes c.number 4 ++ [byte c.kind, byte c.step, byte c.saggar, 0] ++
      leBytes (if 2 ≤ c.step ∧ c.step ≤ 4 then min left (60 * c.limitMin) else 0) 2 ++
      [byte c.aSet.shares.length, byte (if c.bootstrap then 0 else (s.roster c.quorumSag).m),
       byte ((c.keySet.map (·.shares.length)).getD 0), byte ((c.keySet.map (·.m)).getD 0),
       byte (c.outputs.filter (·.stored)).length, byte c.outputs.length] ++ leBytes c.outcome 2)) ∧
  (∀ s i k r, Serving s i k 0x0903 r → Completes (.cerAbort i k) s fun t =>
    t = if s.cerRuns = false ∨ s.cus.cer.number ≠ leAt (reqBody r) 0 4 ∨ 5 ≤ s.cus.cer.step then s.endCommand i k Mr.SEQUENCE []
      else (s.finishCeremony Mr.ABORTED).endCommand i k Mr.OK []) ∧
  (∀ s i k r ok, Serving s i k 0x0904 r →
    let p := reqBody r
    Completes (.cerJournal i k ok) s fun t =>
      ((∀ e ∈ s.cus.journal, leAt p 0 4 ≠ 0 ∧ e.number ≠ leAt p 0 4) → t = s.endCommand i k Mr.SEQUENCE []) ∧
      (∀ e, (s.cus.journal.find? fun e => leAt p 0 4 = 0 ∨ e.number = leAt p 0 4) = some e →
        (ok = false → t = s.endCommand i k Mr.BUFFER_FAULT []) ∧
        (ok = true →
          let data := (Config.journalEntry (State.journalFacts e)).take (bufLen p 8)
          t = (s.hostWrite i (bufAddr p 8) data).endCommand i k Mr.OK (leBytes e.number 4 ++ leBytes data.length 4)))) ∧
  (∀ s i k r, Serving s i k 0x0905 r →
    let g := byteAt (reqBody r) 0
    Completes (.rosterRead i k) s fun t =>
      t = if (s.saggar g).state = .active then
          s.endCommand i k Mr.OK ([byte (s.roster g).m, byte (s.roster g).n, 0, 0] ++
            (s.roster g).entries.flatMap fun e => reCust e ++ [byte (reRoles e), 0, 0, 0])
        else s.endCommand i k Mr.SAGGAR_STATE []) ∧
  (∀ s, s.cus.cer.step = 1 → s.inflight = 0 → s.cus.cer.bootstrap = false → s.cus.cer.aSet.combined = none →
    Completes .ceremonyDrained s fun t =>
      t.sys.mode = .ceremony ∧ t.cus.cer.step = 2 ∧ (s.cus.port0.present = true → t.cus.port0.exch = .debounce) ∧
      (s.cus.port1.present = true → t.cus.port1.exch = .debounce) ∧ 
      t = { s with host := t.host, setter := t.setter, kilns := t.kilns, wheels := t.wheels, keys := t.keys, routing := t.routing, ent
                   := t.ent, fw := t.fw, cus := t.cus, mir := t.mir, flt := t.flt, log := t.log, sys := t.sys, store := t.store,
                   freeCtr := t.freeCtr, out := t.out }) ∧
  (∀ s, 2 ≤ s.cus.cer.step → s.cus.cer.step ≤ 4 → Completes .ceremonyTimeLimit s fun t => t = s.finishCeremony Mr.TIMED_OUT) ∧
  (∀ s i k, boxUnit i k = true → s.drbgRefuses controlDrbg = true → s.cus.cer.step = 3 →
    Completes (.controlDrbgWaitExpire true i k) s fun t => t = s.finishCeremony Mr.ENTROPY_UNAVAILABLE) ∧
  (∀ s i k r, boxUnit i k = true → s.drbgRefuses controlDrbg = true → (s.box i k).running = some r → reqCode r = 0x0A01 →
    (s.box i k).acting = false →
    Completes (.controlDrbgWaitExpire false i k) s fun t => t = s.endCommand i k Mr.ENTROPY_UNAVAILABLE []) ∧
  (∀ (s : State) outcome, s.cerRuns = true → s.sys.mode = .ceremony → s.modeAfter ≠ .ceremony →
    let t := s.finishCeremony outcome
    t.cus.cer.step = 0 ∧ t.cus.cer.outcome = outcome ∧ t.cus.cer.committed = s.cus.cer.committed ∧ t.cus.cer.newKey = [] ∧
    t.cus.cer.newNonce = [] ∧ t.cus.cer.newSecret = [] ∧ (∀ o ∈ t.cus.cer.outputs, o.record = []) ∧
    t.cus.cer.aSet.combined = none ∧ (∀ g, (t.saggar g).latch = false) ∧ t.cus.port0.powered = false ∧ t.cus.port1.powered = false ∧
    t.cus.port0.keys = [] ∧ t.cus.port1.keys = [] ∧ t.sys.mode = s.modeAfter ∧ 
      t = { s with host := t.host, setter := t.setter, kilns := t.kilns, wheels := t.wheels, keys := t.keys, ent := t.ent, fw := t.fw,
                   cus := t.cus, mir := t.mir, flt := t.flt, log := t.log, sys := t.sys, store := t.store, out := t.out }) ∧
  (∀ (s : State), s.cus.cer.step = 5 → (s.mir.controls.any fun c => c.2 == .ceremony) = false → s.paired = false →
    s.commitStep = ((s.modCer fun c => { c with committed := true }).commitEffect).finishCeremony Mr.OK)

/-- R342 to R345, R357, R360: the two custodian ports.
Choices of the model met here (DESIGN CHOICE, DEDUCED or PRESUMED): log 34, 58, 60, 85. -/
def Obligations.CustodianPorts : Prop :=
  (∀ s p, p < 2 → (s.cusPort p).present = false →
    Completes (.cardInsert p) s fun t =>
      t = s.modCusPort p fun c => { c with present := true, exch := if s.sys.mode = .ceremony then .debounce else .none }) ∧
  (∀ s p, p < 2 → s.sys.mode = .ceremony → (s.cusPort p).exch = .debounce →
    Completes (.cardDebounceExpire p) s fun t =>
      t = s.modCusPort p fun c => { c with powered := true, classA := false, state := .activating, exch := .atr, failures := 0 }) ∧
  (∀ s p, p < 2 → (s.cusPort p).exch = .none ∨ (s.cusPort p).exch = .debounce →
    Completes (.cardRemove p) s fun t =>
      t = s.modCusPort p fun c => { c.off .empty with custId := [], cardKey := [], present := false }) ∧
  (∀ s p, p < 2 → (s.cusPort p).exch ≠ .none → (s.cusPort p).exch ≠ .debounce →
    Completes (.cardRemove p) s fun t =>
      (t.cusPort p).present = false ∧ (t.cusPort p).last = .removed ∧ (t.cusPort p).powered = false ∧ (t.cusPort p).state = .empty ∧
      (t.cusPort p).exch = .none ∧ (t.cusPort p).keys = [] ∧ t.cus.cer = s.cus.cer ∧ 
      t = { s with host := t.host, cus := t.cus, log := t.log, out := t.out }) ∧
  (∀ s p atr, p < 2 → s.sys.mode = .ceremony → (s.cusPort p).exch = .atr → (∀ v, atr.ta3 = some v → 16 ≤ v) →
    (∀ v, atr.tb3 = some v → v / 16 ≤ 9) →
    Completes (.atrReceive p true atr) s fun t =>
      (t.cusPort p).link.ifsc = (if ∃ v, atr.ta3 = some v ∧ v ≤ 254 then atr.ta3.getD 0 else 32) ∧
      (t.cusPort p).link.bwi = (if atr.tb3.isSome then atr.tb3.getD 0 / 16 else 4) ∧
      (t.cusPort p).link.cwi = (if atr.tb3.isSome then atr.tb3.getD 0 % 16 else 13) ∧ (t.cusPort p).link.crc = atr.crc ∧
      t = { s.modCusPort p fun c => { c with state := .connected, link := linkOf atr, exch := .select, failures := 0 } with
            out := .apdu p apduSelect :: s.out }) ∧
  (∀ s p t1 atr, p < 2 → s.sys.mode = .ceremony → (s.cusPort p).exch = .atr →
    t1 = false ∨ (∃ v, atr.ta3 = some v ∧ v < 16) →
    Completes (.atrReceive p t1 atr) s fun t => t = s.cardFails p .protocol) ∧
  (∀ s p, p < 2 → s.sys.mode = .ceremony → (s.cusPort p).exch = .atr →
    Completes (.atrTimeout p) s fun t =>
      t = if (s.cusPort p).classA then s.cardFails p .noAtr else s.modCusPort p fun c => { c with classA := true }) ∧
  (∀ s p, p < 2 → s.apduWaits p = true →
    (Completes (.apduTimeout p) s fun t => t = s.cardFails p .timeout) ∧
    (Completes (.blockWaitingTimeExpire p) s fun t =>
      t = if 2 ≤ (s.cusPort p).failures then s.cardFails p .protocol else s.modCusPort p fun c => { c with failures := c.failures + 1 }) ∧
    (Completes (.cardBlockError p) s fun t =>
      t = if 2 ≤ (s.cusPort p).failures then s.cardFails p .protocol else s.modCusPort p fun c => { c with failures := c.failures + 1 }) ∧
    (Completes (.waitingTimeExtension p true) s fun t => t = s) ∧
    (Completes (.waitingTimeExtension p false) s fun t => t = s.cardFails p .timeout)) ∧
  (∀ s p sw, p < 2 → s.sys.mode = .ceremony → (s.cusPort p).exch = .select →
    Completes (.selectByName p sw) s fun t =>
      t = if sw = 0x9000 then
          { s.modCusPort p fun c => { c with exch := .identity, failures := 0 } with out := .apdu p (apduHeader 0x10) :: s.out }
        else s.cardFails p .cardRefused) ∧
  (∀ (s : State) p result, p < 2 →
    let t := s.cardFails p result
    (t.cusPort p).last = result ∧ (t.cusPort p).state = .failed ∧ (t.cusPort p).powered = false ∧ (t.cusPort p).exch = .none ∧
    (t.cusPort p).keys = [] ∧ (t.cusPort p).nonce = [] ∧ (t.cusPort p).ephemeral = [] ∧ (t.cusPort p).sendCtr = 0 ∧
    (t.cusPort p).recvCtr = 0 ∧ (t.cusPort p).present = (s.cusPort p).present ∧ t.cusPort (1 - p) = s.cusPort (1 - p) ∧
    t.cus.fail0 = (if result = .authFailed ∧ p = 0 then satInc s.cus.fail0 else s.cus.fail0) ∧
    t.cus.fail1 = (if result = .authFailed ∧ p = 1 then satInc s.cus.fail1 else s.cus.fail1) ∧
    t.cus.cer = s.cus.cer ∧ t.cus.rosters = s.cus.rosters ∧ 
      t = { s with host := t.host, cus := t.cus, log := t.log, out := t.out })

/-- R344 to R347, R349 to R351, R355, R357. The cryptography of cards is opaque: what holds, holds of any.
Choices of the model met here (DESIGN CHOICE, DEDUCED or PRESUMED): log 34, 85, 87, 137. -/
def Obligations.CustodianCards : Prop :=
  (∀ s p data, p < 2 → s.sys.mode = .ceremony → (s.cusPort p).exch = .identity →
    let cust := slice data 0 12
    let key := slice data 12 97
    let u := s.modCusPort p fun c => { c with failures := 0, custId := cust, cardKey := key }
    Completes (.getIdentity p 0x9000 data) s fun t =>
      (s.quorumRoster.find cust key = none → s.newRoster.find cust key = none → t = u.cardFails p .notEnrolled) ∧
      ((s.quorumRoster.find cust key).isSome ∨ (s.newRoster.find cust key).isSome →
        (s.servedElsewhere p cust = true → t = u.cardFails p .duplicate) ∧
        (s.servedElsewhere p cust = false → t = u.sendApdu p (apduHeader 0x11 ++ s.chainOf) .deviceCert))) ∧
  (∀ s p, p < 2 → s.sys.mode = .ceremony → (s.cusPort p).exch = .deviceCert →
    Completes (.putDeviceCert p 0x9000) s fun t =>
      ∀ rand u, (s.modCusPort p fun c => { c with failures := 0 }).controlBytes 80 = (u, some rand) →
        let nd := slice rand 0 32
        let qd := padTo 97 (Config.publicP384 (slice rand 32 48))
        let uid := leBytes Config.uid.toNat 8
        t = (u.modCusPort p fun c => { c with nonce := nd, ephemeral := slice rand 32 48 }).sendApdu p
          (apduHeader 0x12 ++ nd ++ qd ++ uid ++ padTo 96 (Config.deviceSign (Config.sha384 (nd ++ qd ++ uid)))) .authenticate) ∧
  (∀ s p data, p < 2 → s.sys.mode = .ceremony → (s.cusPort p).exch = .authenticate →
    let u := s.modCusPort p fun c => { c with failures := 0 }
    let c := s.cusPort p
    let signed := Config.sha384 (c.nonce ++ padTo 97 (Config.publicP384 c.ephemeral) ++ leBytes Config.uid.toNat 8 ++ slice data 0 32 ++
      slice data 32 97 ++ c.custId)
    Completes (.authenticate p 0x9000 data) s fun t =>
      (data.length ≠ 225 ∨ Config.verifyP384 c.cardKey signed (slice data 129 96) = false → t = u.cardFails p .authFailed) ∧
      (data.length = 225 → Config.verifyP384 c.cardKey signed (slice data 129 96) = true → s.servedElsewhere p c.custId = true →
        t = u.cardFails p .duplicate) ∧
      (∀ z, data.length = 225 → Config.verifyP384 c.cardKey signed (slice data 129 96) = true → s.servedElsewhere p c.custId = false →
        Config.ecdhP384 c.ephemeral (slice data 32 97) = some z → s.cus.cer.step ≠ 4 →
        t = ((s.modCusPort p fun c =>
          { c with state := .authenticated, last := .ok, keys := smKeys (c.nonce ++ slice data 0 32) z, ephemeral := [], sendCtr := 1,
                   recvCtr := 1, exch := .none, failures := 0 }).serveCard p 0))) ∧
  (∀ (s : State) p ins data x, s.sys.mode = .ceremony →
    s.sendSecure p ins data x = (s.modCusPort p fun c => { c with sendCtr := c.sendCtr + 1 }).sendApdu p
      (apduHeader ins ++ padTo data.length (Config.gcmSeal (slice (s.cusPort p).keys 0 32) (zeros 4 ++ beBytes (s.cusPort p).sendCtr 8)
        (apduHeader ins) data).1 ++
       padTo 16 (Config.gcmSeal (slice (s.cusPort p).keys 0 32) (zeros 4 ++ beBytes (s.cusPort p).sendCtr 8) (apduHeader ins) data).2) x) ∧
  (∀ s p k sw data, p < 2 → s.sys.mode = .ceremony → (s.cusPort p).exch = .release k →
    let u := s.modCusPort p fun c => { c with failures := 0 }
    Completes (.releaseShard p sw data) s fun t =>
      (sw ≠ 0x9000 → t = s.cardFails p .cardRefused) ∧
      (sw = 0x9000 → u.openSecure p 0x20 data = none → t = u.cardFails p .authFailed) ∧
      (∀ plain, sw = 0x9000 → u.openSecure p 0x20 data = some plain →
        t = (s.modCusPort p fun c => { c with failures := 0, recvCtr := c.recvCtr + 1 }).released p k plain)) ∧
  (∀ (s : State) p k plain, p < 2 → s.setsLeft.contains k = true →
    let c := s.cusPort p
    let sh := slice plain 0 64
    let set := if k = 1 then s.cus.cer.aSet else s.cus.cer.keySet.getD { kind := k }
    let good := List.length plain = 160 ∧ s.mayRelease_ p k = true ∧ shardForm sh k (s.setSaggar k) (s.setSlotNo k) = true ∧
      Config.verifyP384 c.cardKey (Config.sha384 (sh ++ padTo 48 s.cus.cer.cd)) (slice plain 64 96) = true ∧ shardFits set sh = true ∧
      (k = 1 → shM sh = s.quorumRoster.m)
    ((∃ e ∈ set.shares, e.1 = c.custId) → s.released p k plain = s.cardFails p .duplicate) ∧
    ((∀ e ∈ set.shares, e.1 ≠ c.custId) →
      (¬ good → s.released p k plain = s.cardFails p .shardInvalid) ∧
      (good → k = 1 → set.shares.length + 1 < shM sh →
        let t := s.released p k plain
        t.cus.cer.aSet = shardAdded set c.custId sh ∧ t.cus.cer.keySet = s.cus.cer.keySet ∧ t.cus.cer.step = s.cus.cer.step ∧
        (t.cusPort p).last = .ok ∧ 
      t = { s with host := t.host, cus := t.cus, log := t.log, out := t.out }))) ∧
  (∀ s p i sw data, p < 2 → s.sys.mode = .ceremony → (s.cusPort p).exch = .store i →
    let u := s.modCusPort p fun c => { c with failures := 0 }
    Completes (.storeShard p sw data) s fun t =>
      (sw ≠ 0x9000 → t = s.cardFails p .cardRefused) ∧
      (sw = 0x9000 → u.openSecure p 0x22 data = none → t = u.cardFails p .authFailed) ∧
      (∀ plain, sw = 0x9000 → u.openSecure p 0x22 data = some plain →
        t = (s.modCusPort p fun c => { c with failures := 0, recvCtr := c.recvCtr + 1 }).stored p i plain)) ∧
  (∀ (s : State) p i plain o, p < 2 → s.cus.cer.outputs[i]? = some o →
    let good := List.length plain = 128 ∧ slice plain 0 32 = padTo 32 (Config.sha256 o.record) ∧
      Config.verifyP384 (s.cusPort p).cardKey (Config.sha384 (slice plain 0 32 ++ padTo 48 s.cus.cer.cd)) (slice plain 32 96) = true
    (¬ good → s.stored p i plain = s.cardFails p .storeFailed) ∧
    (good → (∃ o' ∈ (s.cus.cer.outputs.modify i fun y => { y with stored := true }), o'.stored = false) →
      let t := s.stored p i plain
      t.cus.cer.outputs = (s.cus.cer.outputs.modify i fun y => { y with stored := true }) ∧ (t.cusPort p).last = .ok ∧
      t.cus.cer.step = s.cus.cer.step ∧ 
      t = { s with host := t.host, cus := t.cus, log := t.log, out := t.out })) ∧
  (shareByte [0x53, 0xCA] 1 = 0x99 ∧ shareByte [0x53, 0xCA] 2 = 0xDC ∧ interpolate [(1, 0x99), (2, 0xDC)] = 0x53)

/-- R361 to R363, R365 to R367, R386 to R388: the link between the modules of a pair.
Choices of the model met here (DESIGN CHOICE, DEDUCED or PRESUMED): log 40, 41, 42, 75, 94, 111, 137, 142. -/
def Obligations.MirrorLinkAndPairing : Prop :=
  (∀ s, Completes .pairAuthLapse s fun t => t = s.modMir fun m => { m with auth := none, pairing := {} }) ∧
  (∀ s, s.mirrorRuns = true →
    Completes .linkTrainRetry s fun t =>
      (s.mir.link = .down → t = s.modMir fun m => { m with link := .training }) ∧
      (s.mir.link = .unpaired → s.mir.auth ≠ none → s.mir.lanes = 0 → t = s.modMir fun m => { m with pairing := { step := 1 } }) ∧
      (s.mir.link ≠ .down → s.mir.link ≠ .unpaired → t = s)) ∧
  (∀ s lanes, s.mirrorRuns = true → lanes = 1 ∨ lanes = 2 ∨ lanes = 4 → s.mir.link = .training →
    Completes (.linkLanesLock lanes) s fun t =>
      t.mir.link = .securing ∧ t.mir.lanes = (if lanes = 4 then 3 else if lanes = 2 then 2 else 1) ∧
      (∀ u n, s.controlBytes 32 = (u, some n) → t.mir.fcountTx = 1 ∧ t.mir.fcountRx = 0 ∧ t.mir.nonceOwn = n ∧
        ∃ f, t.out.head? = some (.mirrorFrame 0x01 f)) ∧
      (∀ u, s.controlBytes 32 = (u, none) → t.mir.fcountTx = s.mir.fcountTx ∧ t.ent.waiting = s.ent.waiting ++ [.hello]) ∧
      t = { s with host := t.host, ent := t.ent, mir := t.mir, log := t.log, out := t.out }) ∧
  (∀ s, s.mirrorRuns = true → s.mir.link = .training → Completes (.linkLanesLock 0) s fun t => t = s.modMir fun m => { m with link := .down }) ∧
  (∀ s uid slot role glaze nonce p, slot < 2 → s.mirrorRuns = true → s.mir.link = .securing → s.mir.auth = none → s.mir.pair = some p →
    Completes (.mirrorHello uid slot ⟨role, glaze⟩ nonce) s fun t =>
      (uid = p.peer → slot ≠ b2n p.slot1 → t = s.modMir fun m =>
        { m with link := .resync, noncePeer := nonce, fcountRx := 1, pairing := {},
                 session := sessionKeys p.pk (if p.slot1 then nonce else m.nonceOwn) (if p.slot1 then m.nonceOwn else nonce) }) ∧
      (uid ≠ p.peer ∨ slot = b2n p.slot1 → t = (s.partnerViol false 3).linkDown false)) ∧
  (∀ s uid slot role glaze nonce a, slot < 2 → s.mirrorRuns = true → s.mir.link = .unpaired → s.mir.pairing.step = 1 → s.mir.lanes ≠ 0 →
    s.mir.auth = some a →
    Completes (.mirrorHello uid slot ⟨role, glaze⟩ nonce) s fun t =>
      (a.peer = uid → a.standbyRole = role ∨ glaze ≠ s.fw.glazeLevel → t = s.unauthorise) ∧
      (a.peer ≠ uid → s.mir.pair = none → t = s.pairFails) ∧
      (a.peer = uid → a.standbyRole ≠ role → glaze = s.fw.glazeLevel → t.mir.pairing.step = 2 ∧ t.mir.noncePeer = nonce ∧ t.mir.fcountRx = 1 ∧
        (∃ f, t.out = .mirrorFrame 0x10 f :: s.out) ∧ 
      t = { s with mir := t.mir, out := t.out })) ∧
  (∀ s data a, s.mirrorRuns = true → s.mir.auth = some a → s.mir.pairing.step = 2 →
    Completes (.pairingFrame 0x10 data) s fun t =>
      let u := s.modMir fun m => { m with fcountRx := m.fcountRx + 1 }
      (Config.verifyChain data = none → t = u.pairFails) ∧
      (∀ pk id, Config.verifyChain data = some (pk, id) →
        (leNat id ≠ a.peer → t = u.pairFails) ∧
        (leNat id = a.peer → t.mir.pairing.step = 3 ∧ t.mir.pairing.peerKey = pk ∧ 
      t = { s with host := t.host, ent := t.ent, mir := t.mir, log := t.log, out := t.out }))) ∧
  (∀ s data a, s.mirrorRuns = true → s.mir.auth = some a → a.standbyRole = false → s.mir.pairing.step = 3 →
    Completes (.pairingFrame 0x12 data) s fun t =>
      let u := s.modMir fun m => { m with fcountRx := m.fcountRx + 1 }
      let tr := s.mir.pairing.transcript ++ slice data 0 1185
      (data.length ≠ 1281 ∨ Config.verifyP384 s.mir.pairing.peerKey (Config.sha384 tr) (slice data 1185 96) = false → t = u.pairFails) ∧
      (∀ z, data.length = 1281 → Config.verifyP384 s.mir.pairing.peerKey (Config.sha384 tr) (slice data 1185 96) = true →
        Config.ecdhP384 s.mir.pairing.ephemeral (slice data 1088 97) = some z →
        (let ikm := padTo 32 (Config.mlkemDecaps 768 s.mir.pairing.kemKey (slice data 0 1088)) ++ z
         t.mir.pair = some { peer := a.peer, slot1 := false, pk := hkdf384 (padTo 48 (Config.sha384 tr)) ikm labelPair 32,
                             boot := (s.mir.pair.map (·.boot)).getD 0 }) ∧
        t.mir.term = 1 ∧ t.mir.gen = 0 ∧ t.mir.active = true ∧ t.mir.auth = none ∧ t.mir.link = .resync ∧ 
      t = { s with mir := t.mir })) ∧
  (∀ s data, s.mirrorRuns = true → s.mir.auth ≠ none → NoEffect (.pairingFrame 0x13 data) s ∧ NoEffect (.pairingFrame 0x14 data) s) ∧
  (∀ (s : State) hdr c, s.secured = true →
    c ∈ [Instr.delta hdr [], .mirrorAck hdr 0, .resyncReq hdr 0 0 true, .resyncData hdr [], .resyncDone hdr 0 0 0, .nack hdr,
      .keyxfer hdr 0 [] {}, .heartbeat hdr 0 0 0 true true 0] →
    Completes c s fun t =>
      (hdr.tagOk = false → hdr.eighth = false → t = s.partnerViol false 0) ∧
      (hdr.tagOk = false → hdr.eighth = true → t = (s.partnerViol false 0).mirrorReset) ∧
      (hdr.tagOk = true → hdr.fcount ≠ s.mir.fcountRx + 1 → t = (s.partnerViol false 1).linkDown false)) ∧
  (∀ (s : State) i, i < 4 →
    let t := s.partnerViol false i
    t.mir.badTag = (if i = 0 then satInc s.mir.badTag else s.mir.badTag) ∧ t.mir.order = (if i = 1 then satInc s.mir.order else s.mir.order) ∧
    t.mir.nack = (if i = 2 then satInc s.mir.nack else s.mir.nack) ∧
    t.mir.peerErr = (if i = 3 then satInc s.mir.peerErr else s.mir.peerErr) ∧ t.mir.irq.getLsbD 7 = true ∧ t.mir.link = s.mir.link ∧
    t.mir.pair = s.mir.pair ∧ 
      t = { s with host := t.host, mir := t.mir, log := t.log, out := t.out }) ∧
  (∀ s, Completes .mirrorReset s fun t =>
    t.mir.link = (if s.mir.link = .unpaired then .unpaired else .down) ∧ t.mir.session = [] ∧ t.mir.fcountTx = 0 ∧ t.mir.fcountRx = 0 ∧
    t.mir.pair = s.mir.pair ∧ t.mir.replay = s.mir.replay ∧ t.mir.dlog = s.mir.dlog ∧ t.mir.seq = s.mir.seq ∧
    t.mir.applied = s.mir.applied ∧ t.mir.ceilings = s.mir.ceilings ∧ 
      t = { s with host := t.host, mir := t.mir, log := t.log, out := t.out }) ∧
  (∀ s, s.mirrored = true → Completes .linkFrameTimeout s fun t =>
    t.mir.link = .down ∧ t.mir.session = [] ∧ t.mir.lossOnly = true ∧ t.mir.irq.getLsbD 0 = true ∧ t.mir.pair = s.mir.pair ∧
    t = { s with host := t.host, mir := t.mir, log := t.log, out := t.out }) ∧
  (∀ s, s.secured = true → Completes .heartbeatSendTimer s fun t =>
    t = s.sendFrame 0x04 ([byte (modeCode s.sys.mode)] ++ leBytes s.mir.term.toNat 4 ++ leBytes s.mir.gen.toNat 4 ++ [byte (b2n s.mirReady)] ++
      leBytes s.mir.applied 8)) ∧
  (∀ (s : State) kind payload, kind ≠ 0x01 → kind < 0x10 →
    let hdr := [byte kind, byte (b2n s.mir.ownSlot)] ++ leBytes payload.length 2 ++ zeros 4 ++ leBytes (s.mir.fcountTx + 1) 8
    let key := slice s.mir.session (if s.mir.ownSlot then 32 else 0) 32
    let sealed := Config.gcmSeal key (zeros 4 ++ leBytes (s.mir.fcountTx + 1) 8) hdr payload
    s.sendFrame kind payload = { s with
      mir := { s.mir with fcountTx := s.mir.fcountTx + 1 },
      out := .mirrorFrame kind (hdr ++ padTo payload.length sealed.1 ++ padTo 16 sealed.2) :: s.out }) ∧
  (∀ s i k r, Serving s i k 0x0603 r → Completes (.mirRetrain i k) s fun t =>
    t = if s.paired then s.mirrorReset.endCommand i k Mr.OK [] else s.endCommand i k Mr.SEQUENCE []) ∧
  (∀ s i k r, Serving s i k 0x0601 r → Completes (.mirStatus i k) s fun t =>
    (s.mir.pair = none → t = s.endCommand i k Mr.SEQUENCE []) ∧
    (∀ p, s.mir.pair = some p → t = s.endCommand i k Mr.OK ([byte (linkCode s.mir.link), byte (b2n p.slot1), byte (modeCode s.sys.mode),
      byte (b2n s.mir.lease + 2 * b2n s.mirReady)] ++ leBytes s.mir.term.toNat 4 ++ leBytes s.mir.gen.toNat 4 ++ leBytes p.peer 8 ++
      leBytes (if s.mir.active then s.mir.acked else s.mir.applied) 8 ++ leBytes s.heldForAck 4)))

/-- R368, R370, R371, R373, R375, R377, R378, R386. Each frame here is one whose tag verifies and whose counter is the next.
Choices of the model met here (DESIGN CHOICE, DEDUCED or PRESUMED): log 40, 55, 81, 90, 91, 92, 93, 94, 97, 111, 112, 137, 145. -/
def Obligations.DeltasAndResynchronisation : Prop :=
  (∀ (s : State) tag ds,
    let t := s.logGroup tag ds
    t.mir.seq = s.mir.seq + 1 ∧
    t.mir.dlog = (if s.paired then s.mir.dlog ++ [{ seq := s.mir.seq + 1, tag := tag, deltas := ds }] else s.mir.dlog) ∧ 
      t = { s with mir := t.mir }) ∧
  (∀ (s : State) code p c,
    let t := s.sendControl code p c
    t.mir.controls = s.mir.controls ++ [(s.mir.seq + 1, c)] ∧ t.mir.seq = s.mir.seq + 1 ∧ 
      t = { s with mir := t.mir } ∧
    (s.paired = true → t.mir.dlog = s.mir.dlog ++ [{ seq := s.mir.seq + 1, tag := none, deltas := [.control code p] }])) ∧
  (∀ s hdr g, s.secured = true → hdr.tagOk = true → hdr.fcount = s.mir.fcountRx + 1 → s.mir.active = false →
    let u := s.modMir fun m => { m with fcountRx := m.fcountRx + 1 }
    Completes (.delta hdr [g]) s fun t =>
      (g.seq = s.mir.applied + 1 → (∀ d ∈ g.deltas, u.deltaFits d = true) →
        t = ((g.deltas.foldl (fun x d => x.applyDelta d) u).modMir fun m => { m with applied := g.seq }).sendFrame 0x03 (leBytes g.seq 8)) ∧
      (g.seq = s.mir.applied + 1 → (∃ d ∈ g.deltas, u.deltaFits d = false) → t = (u.sendFrame 0x08 []).partnerViol false 2) ∧
      (g.seq ≠ s.mir.applied + 1 → (s.mir.resyncFull = false ∨ s.mir.applied ≠ 0) → t = (u.partnerViol false 1).linkDown false)) ∧
  (∀ (s : State) g rid code digest status step inline unmirrored result, rid < 2 ^ 64 →
    let t := s.applyDelta (.replay g rid code digest status step inline unmirrored result)
    t.replayOf g rid = some { code := code, digest := digest, status := status, step := step, inline := inline, unmirrored := unmirrored,
                              result := result, complete := true } ∧
    (∀ g' rid', rid' < 2 ^ 64 → (g', rid') ≠ (g, rid) → t.replayOf g' rid' = s.replayOf g' rid') ∧ 
      t = { s with mir := t.mir }) ∧
  (∀ (s : State) g handle serial n,
    let t := s.applyDelta (.counter g handle serial n)
    (∀ o ∈ (t.saggar g).origs, o.handle = handle → o.serial = serial → n ≤ o.allocated) ∧
    (∀ o ∈ (t.saggar g).origs, (o.handle, o.serial) ≠ (handle, serial) → o ∈ (s.saggar g).origs) ∧ 
      t = { s with keys := t.keys, mir := t.mir }) ∧
  (∀ (s : State) g serial ts,
    let t := s.applyDelta (.timestamp g serial ts)
    (∃ old, ((t.saggar g).hosts.find? fun h => h.1 = serial) = some (serial, max old ts)) ∧
    (∀ x, x ≠ serial → ((t.saggar g).hosts.find? fun h => h.1 = x) = (s.saggar g).hosts.find? fun h => h.1 = x) ∧ 
      t = { s with keys := t.keys }) ∧
  (∀ s hdr n, s.secured = true → hdr.tagOk = true → hdr.fcount = s.mir.fcountRx + 1 →
    let u := s.modMir fun m => { m with fcountRx := m.fcountRx + 1 }
    let top := s.sentUpTo
    Completes (.mirrorAck hdr n) s fun t =>
      ((∀ g ∈ s.mir.dlog, g.sent = true) → top = max s.mir.seq s.mir.applied) ∧
      (top < n → t = (u.partnerViol false 1).linkDown false) ∧
      (n ≤ top → s.mir.resyncSource = false → t = u.acknowledge n) ∧
      (n = top → s.mir.resyncSource = true → s.mir.link = .resync → t = (u.acknowledge n).mirroredNow)) ∧
  (∀ (s : State) n, (∀ c ∈ s.mir.controls, n < c.1) →
    let t := s.acknowledge n
    t.mir.acked = max s.mir.acked n ∧ t.mir.dlog = s.mir.dlog.filter (fun g => n < g.seq) ∧ t.mir.controls = s.mir.controls ∧ 
      t = { s with mir := t.mir }) ∧
  (∀ (s : State) n c i k r, s.mir.controls = [(n, .mailbox i k)] → (s.box i k).running = some r → c = n →
    let u := s.modMir fun m => { m with acked := max m.acked n, dlog := m.dlog.filter (fun g => n < g.seq), controls := [] }
    s.acknowledge n = (u.applyControl (reqCode r) (reqBody r)).1.endCommand i k Mr.OK (u.applyControl (reqCode r) (reqBody r)).2) ∧
  (∀ s n i k r, s.mir.controls = [(n, .mailbox i k)] → (s.box i k).running = some r →
    Completes (.controlAckTimeout n) s fun t =>
      let u := s.modMir fun m => { m with controls := [] }
      (s.continues (byteAt (reqBody r) 0) = false → t = (u.voidGroup n).endCommand i k Mr.UNMIRRORED []) ∧
      (s.continues (byteAt (reqBody r) 0) = true → s.mirrored = true ∨ s.paired = false ∨ s.mir.genGranted = true →
        t = u.controlDone (.mailbox i k))) ∧
  (∀ s, s.secured = true → s.mirrored = true → s.mir.active = true → (∃ g ∈ s.mir.dlog, g.sent = false) →
    Completes .deltaSend s fun t =>
      t.mir.dlog = s.mir.dlog.map (fun g => { g with sent := true }) ∧ t.mir.seq = s.mir.seq ∧ t.mir.acked = s.mir.acked ∧ 
      t = { s with mir := t.mir, out := t.out }) ∧
  (∀ s hdr, s.secured = true → hdr.tagOk = true → hdr.fcount = s.mir.fcountRx + 1 →
    let u := s.modMir fun m => { m with fcountRx := m.fcountRx + 1 }
    Completes (.nack hdr) s fun t =>
      t = if s.mir.active then ((u.partnerViol false 2).linkResync).sendSnapshot else u.partnerViol false 2) ∧
  (∀ s hdr g keys roster, g < 256 → s.secured = true → hdr.tagOk = true → hdr.fcount = s.mir.fcountRx + 1 → s.mir.active = false →
    s.holdsSaggar g = true → (∀ e ∈ keys, e.1 < 16) →
    (keys ≠ [] → ((((s.modMir fun m => { m with fcountRx := m.fcountRx + 1 }).setRoster g roster).controlBytes (12 * keys.length)).2.isSome) = true) →
    Completes (.keyxfer hdr g keys roster) s fun t =>
      (∀ j key, (keys.filter fun e => e.1 = j) = [(j, key)] → mget none (t.saggar g).slots j = some { key with handle := j, bepoch := 0 }) ∧
      t.roster g = roster ∧ 
      t = { s with host := t.host, keys := t.keys, cus := t.cus, mir := t.mir, log := t.log, freeCtr := t.freeCtr, out := t.out }) ∧
  (∀ s g rid e, g < 256 → rid < 2 ^ 64 → s.replayOf g rid = some e →
    Completes (.replayEntryExpire g rid) s fun t =>
      (e.complete = true → t.replayOf g rid = none ∧
        (∀ g' rid', rid' < 2 ^ 64 → (g', rid') ≠ (g, rid) → t.replayOf g' rid' = s.replayOf g' rid') ∧ 
      t = { s with mir := t.mir }) ∧
      (e.complete = false → t = s)) ∧
  (∀ s hdr applied boot kept, boot < 2 ^ 32 → s.secured = true → hdr.tagOk = true → hdr.fcount = s.mir.fcountRx + 1 →
    s.mir.link = .resync → s.mir.resyncAsked = false →
    let u := s.modMir fun m => { m with fcountRx := m.fcountRx + 1, askBoot := some boot }
    Completes (.resyncReq hdr applied boot kept) s fun t =>
      t = if kept = true ∧ s.mir.peerBoot = some boot ∧ s.logCovers applied = true then u.sendRest applied else u.sendSnapshot) ∧
  (∀ s hdr items, s.secured = true → hdr.tagOk = true → hdr.fcount = s.mir.fcountRx + 1 → s.mir.link = .resync → s.mir.active = false →
    let u := s.modMir fun m => { m with fcountRx := m.fcountRx + 1 }
    let v := if s.mir.resyncFull then u else u.modMir fun m => { m with resyncFull := true, applied := 0, replay := [], snapSeen := [] }
    Completes (.resyncData hdr items) s fun t => t = items.foldl (fun x i => x.applySnap i) v) ∧
  (∀ s hdr term gen seq, s.secured = true → hdr.tagOk = true → hdr.fcount = s.mir.fcountRx + 1 → s.mir.link = .resync → s.mir.active = false →
    s.mir.resyncFull = false →
    let u := s.modMir fun m => { m with fcountRx := m.fcountRx + 1 }
    Completes (.resyncDone hdr term gen seq) s fun t =>
      (seq ≠ s.mir.applied → t = (u.partnerViol false 1).linkDown false) ∧
      (seq = s.mir.applied → t.mir.link = .mirrored ∧ t.mir.term = term ∧ t.mir.gen = gen ∧ t.mir.applied = seq ∧ t.mir.genRaised = false ∧
        t.mir.irq.getLsbD 1 = true ∧ (s.sys.mode = .service → t.sys.mode = .standby) ∧ 
      t = { s with host := t.host, setter := t.setter, kilns := t.kilns, wheels := t.wheels, keys := t.keys, routing := t.routing, ent
                   := t.ent, fw := t.fw, cus := t.cus, mir := t.mir, flt := t.flt, log := t.log, sys := t.sys, store := t.store,
                   out := t.out })) ∧
  (∀ s hdr mode term gen ready active applied, mode < 8 → s.secured = true → hdr.tagOk = true → hdr.fcount = s.mir.fcountRx + 1 →
    let u := s.modMir fun m => { m with fcountRx := m.fcountRx + 1, peerReady := ready }
    Completes (.heartbeat hdr mode term gen ready active applied) s fun t =>
      (s.mir.active = true → active = false → ¬ s.mir.term.toNat < term.toNat → s.mirrored = true → t = u) ∧
      (s.mir.active = false → active = true → s.mirrored = true → t = u.modMir fun m => { m with gen := gen }) ∧
      (s.mir.active = false → s.mir.link = .resync → s.mir.resyncAsked = false → active = true → t = u.askResync))

/-- R364, R379, R380, R382 to R386: the witness port.
Choices of the model met here (DESIGN CHOICE, DEDUCED or PRESUMED): log 76, 92, 94, 99, 111, 112. -/
def Obligations.WitnessAndFailOver : Prop :=
  (∀ s c f, s.witRuns = true → c ∈ [Instr.grant f, .promote f, .demote f, .notice f, .witnessStrayFrame f] →
    let bad := f.length ≠ 32 ∨ slice f 24 8 ≠ witTag ((s.witnessKey.map (·.material)).getD []) (slice f 0 24) ∨ byteAt f 1 ≠ 2
    let u := s.modMir fun m => { m with witLast := wfSeq f }
    Completes c s fun t =>
      (bad → t = s.partnerViol true 0) ∧
      (¬ bad → wfSeq f ≤ s.mir.witLast → t = s.partnerViol true 1) ∧
      (¬ bad → s.mir.witLast < wfSeq f →
        (byteAt f 0 ∉ [2, 3, 4, 5] → t = u.partnerViol true 2) ∧
        (byteAt f 0 ∈ [2, 4, 5] → s.echoed f = none → t = u.partnerViol true 2) ∧
        (∀ age gen, byteAt f 0 = 2 → s.echoed f = some (age, gen) →
          (s.mir.active = true → BitVec.ofNat 32 (wfTerm f) = s.mir.term → wfGen f = gen.toNat → t = u.takeLease age gen) ∧
          (s.mir.active = false ∨ BitVec.ofNat 32 (wfTerm f) ≠ s.mir.term ∨ wfGen f ≠ gen.toNat → t = u.partnerViol true 2)) ∧
        (byteAt f 0 = 3 → wfState f ≠ b2n s.mir.ownSlot → t = u.demote (BitVec.ofNat 32 (wfTerm f))) ∧
        (byteAt f 0 = 3 → wfState f = b2n s.mir.ownSlot →
          (s.mirReady = true → s.mir.active = false → s.mir.term.toNat < wfTerm f →
            t = (u.promote (BitVec.ofNat 32 (wfTerm f))).sendRequest) ∧
          (s.mirReady = false ∨ s.mir.active = true ∨ wfTerm f ≤ s.mir.term.toNat → t = u.partnerViol true 3)) ∧
        (∀ x, byteAt f 0 = 4 → s.echoed f = some x → t = u.demote (BitVec.ofNat 32 (wfTerm f))) ∧
        (∀ x, byteAt f 0 = 5 → s.echoed f = some x → t = u))) ∧
  (∀ (s : State) i, i < 4 →
    let t := s.partnerViol true i
    t.mir.badMac = (if i = 0 then satInc s.mir.badMac else s.mir.badMac) ∧
    t.mir.oldSeq = (if i = 1 then satInc s.mir.oldSeq else s.mir.oldSeq) ∧
    t.mir.stray = (if i = 2 then satInc s.mir.stray else s.mir.stray) ∧
    t.mir.refusedErr = (if i = 3 then satInc s.mir.refusedErr else s.mir.refusedErr) ∧ t.mir.irq.getLsbD 8 = true ∧
    t.mir.lease = s.mir.lease ∧ t.mir.term = s.mir.term ∧ t.mir.active = s.mir.active ∧ 
      t = { s with host := t.host, mir := t.mir, log := t.log, out := t.out }) ∧
  (∀ (s : State) age gen, s.cus.cer.step ≠ 5 →
    let t := s.takeLease age gen
    t.mir.lease = true ∧ t.mir.remainMs = 50 - 10 * age ∧ t.mir.grants = satInc s.mir.grants ∧
    t.mir.genGranted = (s.mir.genGranted || (s.mir.genRaised && decide (gen = s.mir.gen))) ∧
    (s.mir.lease = false → t.mir.irq.getLsbD 3 = true) ∧ t.mir.term = s.mir.term ∧ 
      t = { s with host := t.host, mir := t.mir, log := t.log, out := t.out }) ∧
  (∀ (s : State) term, s.sys.mode = .standby →
    let t := s.promote term
    t.mir.active = true ∧ t.mir.term = term ∧ t.mir.lease = true ∧ t.mir.remainMs = 50 ∧ t.mir.seq = max s.mir.seq s.mir.applied ∧
    (s.mir.link = .mirrored → t.mir.link = .resync) ∧ t.sys.mode = (if s.cone.lastLost = true then .drain else .service) ∧ t.mir.replay = s.mir.replay ∧
    (∀ g, (t.saggar g).attempts = 0) ∧
    (∀ g c v, ((t.saggar g).origs.any fun o => o.serial = c && decide (o.allocated < v)) = true →
      (s.mir.ceilings.find? fun e => e.1 == (g, c)).all (fun e => decide (e.2 < v)) = true) ∧ 
      t = { s with host := t.host, setter := t.setter, kilns := t.kilns, wheels := t.wheels, keys := t.keys, ent := t.ent, fw := t.fw,
                   mir := t.mir, flt := t.flt, log := t.log, sys := t.sys, store := t.store, out := t.out }) ∧
  (∀ (s : State) term, s.mir.active = true → s.sys.mode = .service →
    let t := s.demote term
    t.mir.active = false ∧ t.mir.lease = false ∧ t.mir.term = (if s.mir.term.toNat < term.toNat then term else s.mir.term) ∧
    t.mir.switchback = none ∧ t.mir.controls = [] ∧ t.mir.dlog = [] ∧ t.mir.irq.getLsbD 5 = true ∧ t.sys.mode = .standby ∧
    t = { s with host := t.host, setter := t.setter, kilns := t.kilns, wheels := t.wheels, keys := t.keys, ent := t.ent, mbx := t.mbx,
                 fw := t.fw, cus := t.cus, mir := t.mir, flt := t.flt, log := t.log, sys := t.sys, store := t.store, freeCtr :=
                 t.freeCtr, out := t.out }) ∧
  (∀ (s : State) term, s.mir.active = false → s.demote term = s) ∧
  (∀ s, s.witRuns = true → (∀ w, s.mir.switchback = some w → w.handedOver = false) →
    Completes .witnessRequestTimer s fun t =>
      t.mir.remainMs = s.mir.remainMs - 10 ∧ t.mir.witSeq = s.mir.witSeq + 1 ∧
      t.mir.requests = (((s.mir.witSeq + 1) % 2 ^ 32, s.mir.gen) :: s.mir.requests).take 5 ∧
      (∃ b, t.out = .witnessFrame b :: s.out ∧ byteAt b 0 = 1 ∧ byteAt b 1 = b2n s.mir.ownSlot) ∧ 
      t = { s with mir := t.mir, out := t.out }) ∧
  (∀ s w, s.mir.switchback = some w → w.handedOver = true →
    Completes .witnessRequestTimer s fun t => t = s.modMir fun m => { m with remainMs := m.remainMs - 10 }) ∧
  (∀ s, s.mir.lease = true → Completes .leaseExpire s fun t =>
    t.mir.lease = false ∧ t.mir.remainMs = 0 ∧ t.mir.irq.getLsbD 2 = true ∧ t.mir.active = s.mir.active ∧ 
      t = { s with host := t.host, mir := t.mir, log := t.log, out := t.out }) ∧
  (∀ s i k r, Serving s i k 0x0602 r → Completes (.mirSwitchback i k) s fun t =>
    t = if s.mir.active = true ∧ s.mir.lease = true ∧ s.mirrored = true ∧ s.mir.switchback = none then
        (s.modMir fun m => { m with switchback := some { mbx := 8 * i + k } }).modBox i k fun b => { b with acting := true }
      else s.endCommand i k Mr.SEQUENCE []) ∧
  (∀ s w, s.mir.switchback = some w → w.handedOver = false → s.changingWares = [] → s.witRuns = true →
    Completes .switchbackHandover s fun t =>
      t = ((s.sendWitness 0x06).endCommand (w.mbx / 8) (w.mbx % 8) Mr.OK (leBytes s.mir.term.toNat 4)).modMir fun m =>
        { m with switchback := some { w with handedOver := true } }) ∧
  (∀ s w, s.mir.switchback = some w → w.handedOver = false → s.changingWares ≠ [] →
    Completes .switchbackTimeout s fun t =>
      t = (s.endCommand (w.mbx / 8) (w.mbx % 8) Mr.TIMED_OUT []).modMir fun m => { m with switchback := none })

/-- R390, R392, R396, R400 to R403, R405, R407 to R409, R412.
Choices of the model met here (DESIGN CHOICE, DEDUCED or PRESUMED): log 60, 61, 63, 64. -/
def Obligations.TamperResponses : Prop :=
  (∀ s i detB cause value, i < 25 → s.sys.mode ≠ .dormant → (s.tsource i).fitted = true → s.alarmLive i = false →
    ¬ (11 ≤ i ∧ i ≤ 16 ∧ cause = 6 ∧ s.sys.pwrfail = true) → s.tmp.sources.length = 28 → trips (s.loopOf i) i cause value = true →
    Completes (.tamperSourceAssert i detB cause value) s fun t =>
      t.tmp.alarm.getLsbD i = true ∧ t.tmp.govern = max s.tmp.govern (s.tsource i).resp ∧ t.alarmLive i = true ∧
      (t.tsource i).cause = cause ∧ (t.tsource i).value = value ∧
      (s.within (s.tsource i).offAt rtcSecond = true → (t.tsource i).repeats = (s.tsource i).repeats + 1 ∧ t.tmp.ring = s.tmp.ring) ∧
      (s.within (s.tsource i).offAt rtcSecond = false → s.tmp.last < s.tmp.copied + 512 →
        t.tmp.last = s.tmp.last + 1 ∧ ∃ e, mget none t.tmp.ring (s.tmp.last % 512) = some e ∧ e.number = s.tmp.last + 1 ∧ e.source = i ∧
          e.cause = cause ∧ e.response = (s.tsource i).resp ∧ e.value = value ∧ e.mode = modeCode s.sys.mode ∧
          e.govern = max s.tmp.govern (s.tsource i).resp ∧ e.rtc = s.sys.rtc.toNat) ∧
      t = { s with host := t.host, setter := t.setter, kilns := t.kilns, wheels := t.wheels, keys := t.keys, routing := t.routing, ent
                   := t.ent, fw := t.fw, cus := t.cus, mir := t.mir, tmp := t.tmp, flt := t.flt, log := t.log, sys := t.sys, store
                   := t.store, mem := t.mem, out := t.out }) ∧
  (∀ s i detB cause value, i < 25 → s.sys.mode ≠ .dormant →
    trips (s.loopOf i) i cause value = false ∨ (s.tsource i).fitted = false ∨ (11 ≤ i ∧ i ≤ 16 ∧ cause = 6 ∧ s.sys.pwrfail = true) →
    NoEffect (.tamperSourceAssert i detB cause value) s) ∧
  (∀ (s : State) resp, resp = 2 → s.sys.mode ∉ [.boot, .erased, .dormant, .safe] →
    let t := s.respond resp
    t.sys.mode = .safe ∧ t.cus.cer.step = 0 ∧ t.mir.session = [] ∧ t.mir.switchback = none ∧
    (s.mir.link ≠ .unpaired → t.mir.link = .down) ∧ t.keys.hearth = s.keys.hearth ∧ t.keys.hk = s.keys.hk ∧ 
      t = { s with host := t.host, setter := t.setter, kilns := t.kilns, wheels := t.wheels, keys := t.keys, ent := t.ent, fw := t.fw,
                   cus := t.cus, mir := t.mir, flt := t.flt, log := t.log, sys := t.sys, store := t.store, out := t.out }) ∧
  (∀ (s : State) resp, resp = 3 ∨ resp = 4 → s.sys.mode ∉ [.boot, .erased, .dormant] →
    let t := s.respond resp
    t.sys.mode = .erased ∧ t.host.ideRequired = false ∧ t.keys.hearth = 3 ∧ t.keys.hk = [] ∧ t.keys.stored = none ∧
    t.keys.evictKey = none ∧ t.keys.cache = [] ∧ (∀ g, (t.saggar g).slots = [] ∧ (t.saggar g).latch = false) ∧
    (∀ k, (t.kiln k).slots = [] ∧ (t.kiln k).engines = []) ∧ t.mir.session = [] ∧ t.mir.replay = [] ∧ t.mir.dlog = [] ∧
    t.routing.rows = [] ∧ t.routing.ksets = [] ∧ t.ent.seeds = [] ∧ t.mem = [] ∧ t.cus.port0.keys = [] ∧ t.cus.port1.keys = [] ∧
    t.tmp.halted = (decide (resp = 4) || s.tmp.halted) ∧ t.tmp.ring = s.tmp.ring ∧
    t.lcc = s.lcc ∧ (∀ g, (t.saggar g).images = (s.saggar g).images) ∧ 
      t = { s with host := t.host, setter := t.setter, kilns := t.kilns, wheels := t.wheels, keys := t.keys, routing := t.routing, ent
                   := t.ent, fw := t.fw, cus := t.cus, mir := t.mir, tmp := t.tmp, flt := t.flt, log := t.log, sys := t.sys, store
                   := t.store, mem := t.mem, out := t.out }) ∧
  (∀ (s : State) resp, resp ≤ 1 → s.respond resp = s) ∧
  (∀ s i, i ≤ 25 → s.alarmLive i = true → s.tmp.sources.length = 28 →
    (i = 25 → ∀ j < 25, (s.tsource j).detA = (s.tsource j).detB) →
    Completes (.tamperSourceDeassert i) s fun t =>
      t.alarmLive i = false ∧ (t.tsource i).offAt = some s.sys.rtc.toNat ∧ t.tmp.alarm = s.tmp.alarm ∧ t.tmp.govern = s.tmp.govern ∧
      (2 ≤ (s.tsource i).resp → t.tmp.strongOff = some s.sys.rtc.toNat) ∧
      (s.tmp.last < s.tmp.copied + 512 → ∃ e, mget none t.tmp.ring (s.tmp.last % 512) = some e ∧ bitAt e.flags 3 = true ∧ e.source = i) ∧
      t = { s with host := t.host, tmp := t.tmp, log := t.log, out := t.out }) ∧
  (∀ s i, i < 25 → (s.tsource i).detA ≠ (s.tsource i).detB → s.sys.mode ≠ .dormant →
    Completes (.detectorDisagreeTimeout i) s fun t => t = s.ownOn 25 15 (BitVec.ofNat 32 i)) ∧
  (∀ s i, i < 25 → s.sys.mode ≠ .dormant → Completes (.detectorSelfTest (some i)) s fun t => t = s.ownOn 25 15 (BitVec.ofNat 32 i)) ∧
  (∀ s, NoEffect (.detectorSelfTest none) s) ∧
  (∀ s d w, 1 ≤ d → d ≤ 4 → s.sys.mode ≠ .dormant → w = 0x3CA55AC3 ∨ w = 0xC35AA53C → NoEffect (.decisionSecondEval d w w) s) ∧
  (∀ s d w1 w2, 1 ≤ d → d ≤ 3 → s.sys.mode ≠ .dormant → w1 ≠ w2 ∨ (w1 ≠ 0x3CA55AC3 ∧ w1 ≠ 0xC35AA53C) →
    Completes (.decisionSecondEval d w1 w2) s fun t =>
      t = (s.modTmp fun x => { x with decision := satInc x.decision }).ownOn 27 17 (BitVec.ofNat 32 d)) ∧
  (∀ (s : State),
    let u := s.beatFailed
    let recent := s.tmp.beats.filter fun x => decide ((s.sys.rtc.toNat - x) * 1000 < 32768)
    let v := s.modTmp fun x => { x with fabric := satInc x.fabric, beats := (s.sys.rtc.toNat :: recent).take 4 }
    u = if 3 ≤ recent.length then v.ownOn 26 16 0 else v) ∧
  (∀ s b, isBank b = true → Completes (.beatIntegrityFail b) s fun t => t = s.occur b 1 none) ∧
  (∀ s, s.alarmLive 26 = false → Completes .fabricQuietTimeout s fun t => t = s.modTmp fun x => { x with beats := [] }) ∧
  (∀ s, s.alarmLive 26 = true → s.tmp.sources.length = 28 → Completes .fabricQuietTimeout s fun t =>
    t.alarmLive 26 = false ∧ t.tmp.beats = [] ∧ 
      t = { s with host := t.host, tmp := t.tmp, log := t.log, out := t.out })

/-- R394 to R398, R408, R409, R412, R522: the registers and the backup domain of the tamper monitors.
Choices of the model met here (DESIGN CHOICE, DEDUCED or PRESUMED): log 60, 61, 67, 110, 113. -/
def Obligations.TamperBlockAndBackupDomain : Prop :=
  (∀ s i value, i < 1024 → s.answers i = true → s.isPf i = true → s.ownerPf = i →
    Completes (.alarmStatClear i value) s fun t =>
      (∀ j, j < 28 → t.tmp.alarm.getLsbD j = (s.tmp.alarm.getLsbD j && (!value.getLsbD j || s.alarmLive j))) ∧
      t = s.modTmp fun x => { x with alarm := t.tmp.alarm }) ∧
  (∀ s i j value, i < 1024 → j < 28 → s.answers i = true → s.isPf i = true → s.ownerPf = i → s.tmp.sealed = false → s.tmp.sources.length = 28 →
    Completes (.tamperConfigWrite i (0x60100 + 4 * j) value) s fun t =>
      (t.tsource j).resp = max (min 4 (field value.toNat 0 3)) (floorResp j) ∧
      (t.tsource j).fitted = (if 1 ≤ j ∧ j ≤ 10 then bitAt value.toNat 8 else true) ∧
      (∀ j', j' ≠ j → t.tsource j' = s.tsource j') ∧ t.tmp.norCopy = true ∧
      (bitAt value.toNat 8 = true ∨ s.alarmLive j = false → t = s.modTmp fun _ => t.tmp) ∧
      (1 ≤ j → j ≤ 10 → bitAt value.toNat 8 = false → t.alarmLive j = false) ∧ 
      t = { s with host := t.host, tmp := t.tmp, log := t.log, out := t.out }) ∧
  (∀ s i k value, i < 1024 → k < 8 → s.answers i = true → s.isPf i = true → s.ownerPf = i → s.tmp.sealed = false → s.tmp.loops.length = 8 →
    Completes (.tamperConfigWrite i (0x60180 + 4 * k) value) s fun t =>
      t.tmp.loops.getD k {} = { nominal := BitVec.ofNat 16 value.toNat, tol := clamp 5 50 (field value.toNat 16 8) } ∧
      (∀ k', k' ≠ k → t.tmp.loops.getD k' {} = s.tmp.loops.getD k' {}) ∧ t.tmp.sources = s.tmp.sources ∧ 
      t = { s with tmp := t.tmp }) ∧
  (∀ s i offset value, i < 1024 → s.answers i = true → s.isPf i = true → s.ownerPf = i → s.tmp.sealed = true →
    NoEffect (.tamperConfigWrite i offset value) s) ∧
  (∀ s e, s.tmp.copied < s.tmp.last → s.tmp.norFull = false → s.sys.mode ≠ .dormant →
    mget none s.tmp.ring (s.tmp.copied % 512) = some e →
    Completes .evidenceCopy s fun t =>
      t.tmp.copied = s.tmp.copied + 1 ∧ t.tmp.norCount = s.tmp.norCount + 1 ∧ t.tmp.chain = padTo 32 (Config.sha256 (s.tmp.chain ++ evBytes e)) ∧
      t.tmp.norRecords = (evBytes e ++ t.tmp.chain) :: s.tmp.norRecords ∧
      t.tmp.norFull = decide (32768 ≤ s.tmp.norCount + 1) ∧ t.tmp.ring = s.tmp.ring ∧ t.tmp.last = s.tmp.last ∧ 
      t = { s with host := t.host, tmp := t.tmp, log := t.log, out := t.out }) ∧
  (∀ s i detB cause value, i ∈ backupSources → s.sys.mode = .dormant → s.sys.backup = true → (s.tsource i).fitted = true →
    s.alarmLive i = false → s.tmp.sources.length = 28 → i = 25 ∨ trips (s.loopOf i) i cause value = true →
    Completes (.backupSourceAssert i detB cause value) s fun t =>
      t.alarmLive i = true ∧ t.tmp.cellResp = max s.tmp.cellResp (s.tsource i).resp ∧ t.tmp.govern = s.tmp.govern ∧
      (3 ≤ (s.tsource i).resp → t.keys.stored = none) ∧ (¬ 3 ≤ (s.tsource i).resp → t.keys = s.keys) ∧
      (s.within (s.tsource i).offAt rtcSecond = false → s.tmp.last < s.tmp.copied + 512 → ∃ e,
        mget none t.tmp.ring (s.tmp.last % 512) = some e ∧ bitAt e.flags 0 = true ∧ e.source = i ∧ e.cause = cause ∧ e.value = value ∧
        e.rtc = s.sys.rtc.toNat) ∧ 
      t = { s with host := t.host, keys := t.keys, tmp := t.tmp, log := t.log, out := t.out }) ∧
  (∀ s i facts, i < 1024 → s.answers i = true → s.isPf i = true → s.ownerPf = i →
    (s.recoverable = true → Completes (.tamperRecover i facts) s fun t => t = s.reboot resetWarm 1 facts) ∧
    (s.recoverable = false → NoEffect (.tamperRecover i facts) s)) ∧
  (∀ s : State, s.recoverable = true ↔ (s.tmp.govern = 2 ∨ s.tmp.govern = 3) ∧ (∀ i < 28, s.alarmLive i = true → (s.tsource i).resp < 2) ∧
    (∀ x, s.tmp.strongOff = some x → x + 32768 ≤ s.sys.rtc.toNat)) ∧
  (∀ s, s.sys.mode = .dormant → Completes .backupDomainPowerLoss s fun t =>
    t.sys.backup = false ∧ t.keys.stored = none ∧ t.tmp.cellResp = 0 ∧ t.tmp.ring = [] ∧ t.tmp.norCount = s.tmp.norCount ∧
    t.tmp.chain = s.tmp.chain ∧ 
      t = { s with keys := t.keys, tmp := t.tmp, sys := t.sys }) ∧
  (∀ s, s.sys.backup = false → Completes .backupCellConnect s fun t =>
    t = { s with sys := { s.sys with backup := true }, tmp := { s.tmp with factorySeed := true, meshSeeds := [] } }) ∧
  (∀ s, s.sys.backup = true → NoEffect .backupCellConnect s)

/-- R415, R416, R420 to R422, R424 to R429.
Choices of the model met here (DESIGN CHOICE, DEDUCED or PRESUMED): log 63, 64, 67, 110, 113. -/
def Obligations.FaultBanksAndReactions : Prop :=
  (∀ s b i subject, faultSev b i ≠ 0 → s.bankLive b = true → (s.bank b).distrusted = false → i ≠ 1 →
    Completes (.faultSourceOccur b i subject) s fun t =>
      (t.bank b).sticky = setBit (s.bank b).sticky i ∧
      (faultSev b i ≠ sevGrave → (t.bank b).fenced = (s.bank b).fenced ∧ t.flt.grave = s.flt.grave ∧
        ∀ b', b' ≠ b → t.bank b' = s.bank b') ∧
      (faultSev b i = sevGrave → (t.bank b).fenced = true) ∧
      (faultSev b i = sevGrave → deviceScope b = true → t.flt.grave = true ∧ t.flt.errOut = true ∧
        (s.sys.mode ∉ [.boot, .erased] → t.sys.mode = .safe) ∧ t.tmp.govern = s.tmp.govern) ∧
      ((reactionsOf (s.bank b) b i).getLsbD reactErr = true → t.flt.errOut = true ∧ t.flt.errHold = true) ∧
      ((reactionsOf (s.bank b) b i).getLsbD reactChip = true → s.tmp.govern < 2 → t.flt.chipDue = true) ∧
      ((reactionsOf (s.bank b) b i).getLsbD reactChip = false ∨ 2 ≤ s.tmp.govern → t.flt.chipDue = s.flt.chipDue) ∧
      t = { s with host := t.host, setter := t.setter, kilns := t.kilns, wheels := t.wheels, keys := t.keys, routing := t.routing, ent
                   := t.ent, fw := t.fw, cus := t.cus, mir := t.mir, tmp := t.tmp, flt := t.flt, log := t.log, cone := t.cone, sys
                   := t.sys, dma := t.dma, store := t.store, mem := t.mem, freeCtr := t.freeCtr, out := t.out }) ∧
  (∀ s b i subject, faultSev b i ≠ 0 → s.bankLive b = false ∨ ((s.bank b).distrusted = true ∧ i ≠ 1) →
    NoEffect (.faultSourceOccur b i subject) s) ∧
  (∀ s b k i subject, b = 32 + k → k < 68 → i = 4 → faultSev b i = sevMajor → s.bankLive b = true → (s.bank b).distrusted = false →
    State.resettable (s.kiln k).state = true → (reactionsOf (s.bank b) b i).getLsbD reactBlock = true → subject = none →
    Completes (.faultSourceOccur b i subject) s fun t => (t.kiln k).blocked = true ∧ (t.kiln k).state = (s.kiln k).state) ∧
  (∀ s b, isBank b = true → s.bankLive b = true → isKilnBank b = false → s.sys.mode ∉ [.boot, .erased] →
    Completes (.bankParityFault b) s fun t =>
      (t.bank b).parity = true ∧ (t.bank b).distrusted = true ∧ (t.bank b).sticky = (s.bank b).sticky ∧ t.flt.parity = true ∧
      t.flt.paritySafe = true ∧ t.flt.errOut = true ∧ t.flt.grave = ((s.bank b).parity || s.flt.grave) ∧ t.sys.mode = .safe ∧ t.tmp = s.tmp ∧
      t = { s with host := t.host, setter := t.setter, kilns := t.kilns, wheels := t.wheels, keys := t.keys, ent := t.ent, fw := t.fw,
                   cus := t.cus, mir := t.mir, flt := t.flt, log := t.log, sys := t.sys, store := t.store, out := t.out }) ∧
  (∀ s b, isBank b = true → s.bankLive b = false → NoEffect (.bankParityFault b) s) ∧
  (∀ s i b value, i < 1024 → isBank b = true → s.answers i = true → s.isPf i = true → s.ownerPf = i →
    Completes (.faultStickyClear i b value) s fun t =>
      (∀ j, j < 32 → (t.bank b).sticky.getLsbD j = ((s.bank b).sticky.getLsbD j && !value.getLsbD j)) ∧
      (t.bank b).fenced = (s.bank b).fenced ∧ (∀ b', b' ≠ b → t.bank b' = s.bank b') ∧
      (s.flt.grave = true ∨ s.flt.parity = true ∨ s.flt.errHold = true → t.flt.errOut = true) ∧
      (t.flt.errOut = true → s.flt.errHold = true ∨ t.errHolds = true) ∧ 
      t = { s with flt := t.flt }) ∧
  (∀ s, Completes .errPinHoldExpire s fun t =>
    t.flt.errHold = false ∧ t.flt.errOut = s.errHolds ∧ t.flt.banks = s.flt.banks ∧ t.flt.grave = s.flt.grave ∧ 
      t = { s with flt := t.flt }) ∧
  (∀ s i facts, i < 1024 → s.answers i = true → s.isPf i = true → s.ownerPf = i →
    Completes (.faultRecover i facts) s fun t =>
      t = if s.flt.parity = true ∧ s.flt.grave = false ∧ s.tmp.govern < 2 then s.reboot resetWarm 2 facts else s)

/-- R425, R432, R436, R438 to R442. The times at which a bucket gains and a window opens are the model's (NOTES).
Choices of the model met here (DESIGN CHOICE, DEDUCED or PRESUMED): log 95. -/
def Obligations.RecordIntake : Prop :=
  (∀ s e, e.stream ≤ 257 → s.sys.mode ≠ .dormant → (s.bank 13).fenced = false → e.reserved = true → s.log.unsettled.length < 32768 →
    Completes (.recordAccept e) s fun t =>
      (∃ r, mget none t.log.ring (s.log.gpos % 32768) = some r ∧ r.seq = (s.stream e.stream).next ∧ r.rtc = s.sys.rtc.toNat ∧
        r.stream = e.stream ∧ r.source = e.source ∧ r.code = e.code ∧ r.count = 1 ∧ bitAt r.flags 0 = true ∧ bitAt r.flags 1 = false ∧
        r.mode = modeCode s.sys.mode ∧ r.fn = e.fn ∧ r.data = padTo 28 e.data ∧ r.gpos = s.log.gpos) ∧
      t.log.gpos = s.log.gpos + 1 ∧ t.log.unsettled = s.log.unsettled ++ [s.log.gpos] ∧
      (t.stream e.stream).next = (s.stream e.stream).next + 1 ∧ (∀ n, n ≠ e.stream → t.stream n = s.stream n) ∧
      t.log.windows = s.log.windows ∧ t.log.buckets = s.log.buckets ∧ t.log.dropped = s.log.dropped ∧ 
      t = { s with host := t.host, log := t.log, out := t.out }) ∧
  (∀ s e, e.stream ≤ 257 → s.sys.mode ≠ .dormant → (s.bank 13).fenced = false → e.reserved = true → 32768 ≤ s.log.unsettled.length →
    Completes (.recordAccept e) s fun t => t = s.modLog fun l => { l with held := l.held ++ [e] }) ∧
  (∀ s e, e.stream ≤ 257 → (s.bank 13).fenced = true → NoEffect (.recordAccept e) s) ∧
  (∀ s e w, e.stream ≤ 257 → s.sys.mode ≠ .dormant → (s.bank 13).fenced = false → e.reserved = false → w ∈ s.log.windows →
    w.stream = e.stream → w.source = e.source → w.code = e.code →
    Completes (.recordAccept e) s fun t =>
      { w with folded := w.folded + 1, fn := e.fn, data := e.data } ∈ t.log.windows ∧ t.log.windows.length = s.log.windows.length ∧
      t = s.modLog fun l => { l with windows := t.log.windows }) ∧
  (∀ s e, e.stream ≤ 257 → s.sys.mode ≠ .dormant → (s.bank 13).fenced = false → e.reserved = false →
    s.log.windows.any (State.sameTriple e) = false → s.log.windows.length < 512 →
    Completes (.recordAccept e) s fun t =>
      (∃ w, t.log.windows = w :: s.log.windows ∧ w.stream = e.stream ∧ w.source = e.source ∧ w.code = e.code ∧ w.folded = 0) ∧
      ((s.budgetOf (unitOf e.source)).level = 0 ∨ s.log.flush = .power →
        t.log.dropped = satInc s.log.dropped ∧ t.log.gpos = s.log.gpos ∧ t.log.ring = s.log.ring ∧
        (t.budgetOf (unitOf e.source)).dropped = (s.budgetOf (unitOf e.source)).dropped + 1 ∧
        (t.budgetOf (unitOf e.source)).lastCode = e.code) ∧
      ((s.budgetOf (unitOf e.source)).level ≠ 0 → s.log.flush ≠ .power → s.log.unsettled.length < 28672 →
        t.log.gpos = s.log.gpos + 1 ∧ t.log.unsettled = s.log.unsettled ++ [s.log.gpos] ∧ t.log.dropped = s.log.dropped ∧
        (t.budgetOf (unitOf e.source)).level = (s.budgetOf (unitOf e.source)).level - 1 ∧
        ∃ r, mget none t.log.ring (s.log.gpos % 32768) = some r ∧ r.code = e.code ∧ r.stream = e.stream ∧ r.source = e.source ∧
          r.count = 1 ∧ bitAt r.flags 0 = false ∧ bitAt r.flags 1 = false ∧ r.seq = (s.stream e.stream).next) ∧
      ((s.budgetOf (unitOf e.source)).level ≠ 0 → s.log.flush ≠ .power → 28672 ≤ s.log.unsettled.length →
        t.log.dropped = satInc s.log.dropped ∧ t.log.gpos = s.log.gpos ∧ t.log.ring = s.log.ring) ∧
      t = { s with host := t.host, log := t.log, out := t.out }) ∧
  (∀ s stream source code w, stream ≤ 257 →
    s.log.windows.find? (State.sameTriple { stream := stream, source := source, code := code }) = some w →
    Completes (.coalesceWindowEnd stream source code) s fun t =>
      (w.folded = 0 → (∀ x, x ∈ t.log.windows ↔ x ∈ s.log.windows ∧ ¬ (x.stream = stream ∧ x.source = source ∧ x.code = code)) ∧
        t = s.modLog fun l => { l with windows := t.log.windows }) ∧
      (w.folded ≠ 0 → (s.budgetOf (unitOf source)).level ≠ 0 → s.log.flush ≠ .power → s.log.unsettled.length < 28672 →
        (∃ x ∈ t.log.windows, x.stream = stream ∧ x.source = source ∧ x.code = code ∧ x.folded = 0) ∧
        (∃ r, mget none t.log.ring (s.log.gpos % 32768) = some r ∧ r.count = min 65535 w.folded ∧ r.data = padTo 28 w.data ∧
          r.fn = w.fn ∧ r.code = code ∧ bitAt r.flags 1 = true) ∧ t.log.gpos = s.log.gpos + 1 ∧ 
      t = { s with host := t.host, log := t.log, out := t.out })) ∧
  (∀ s, (s.bank 13).fenced = false →
    let units := (s.log.buckets.filter fun e => e.2.dropped ≠ 0).map (·.1)
    s.log.unsettled.length + units.length ≤ 32768 →
    Completes .dropSummaryTimer s fun t =>
      t.log.gpos = s.log.gpos + units.length ∧
      (∀ u, (t.budgetOf u).dropped = 0 ∧ (t.budgetOf u).level = min s.log.burst ((s.budgetOf u).level + 10 * s.log.rate)) ∧
      t = { s with host := t.host, log := t.log, out := t.out }) ∧
  (∀ s, (s.bank 13).fenced = false → s.log.unsettled.length < 32768 → Completes .skipSummaryTimer s fun t =>
    t.log.budget = min 1048576 (s.log.budget + 256) ∧ t.log.skipCount = 0 ∧
    t.log.gpos = s.log.gpos + (if s.log.skipCount = 0 then 0 else 1) ∧
    (s.log.skipCount ≠ 0 → ∃ r, mget none t.log.ring (s.log.gpos % 32768) = some r ∧ r.code = 0x0F02 ∧
      r.data = padTo 28 (leBytes s.log.skipCount 4 ++ leBytes s.log.skipFirst 4)) ∧ 
      t = { s with host := t.host, log := t.log, out := t.out }) ∧
  (∀ s v x, 16 ≤ v → v ≤ 21 → (s.log.pacing.find? fun e => e.1 = v) = some x →
    Completes (.vectorPaceExpire v) s fun t =>
      (x.2 = false → t = s.modLog fun l => { l with pacing := l.pacing.filter fun e => e.1 ≠ v }) ∧
      (x.2 = true →
        t = (s.modLog fun l => { l with pacing := l.pacing.map fun e => if e.1 = v then (v, false) else e }).raiseVector s.ownerPf v))

/-- R422, R437, R438, R443 to R447, R450.
Choices of the model met here (DESIGN CHOICE, DEDUCED or PRESUMED): log 63, 64, 67, 95, 113. -/
def Obligations.NorWriterAndLogCommands : Prop :=
  (∀ s : State, s.nextRecord = (match s.log.unsettled.find? s.reservedAt with
    | some g => some g
    | none => s.log.unsettled.head?)) ∧
  (∀ s g r, s.norRuns = true → s.nextRecord = some g → s.recAt g = some r → s.log.held = [] →
    (0 < s.log.budget ∨ s.freeOfBudget g = true) → s.blockRoom r.stream = true →
    Completes .norRecordWrite s fun t =>
      t.log.unsettled = s.log.unsettled.filter (fun x => x ≠ g) ∧ t.log.budget = max (-1048576) (s.log.budget - 1) ∧
      (∃ b b', (s.stream r.stream).blocks.getLast? = some b ∧ (t.stream r.stream).blocks.getLast? = some b' ∧
        b'.used = b.used + 1 ∧ b'.recs = b.recs ++ [r] ∧ b'.bad = b.bad ∧ b'.index = b.index) ∧
      (∀ n, n ≠ r.stream → t.stream n = s.stream n) ∧ t.log.skipped = s.log.skipped ∧ 
      t = { s with log := t.log }) ∧
  (∀ s g, s.norRuns = true → s.nextRecord = some g → s.log.held = [] → s.log.budget ≤ 0 → s.freeOfBudget g = false →
    Completes .norRecordWrite s fun t =>
      t.log.unsettled = s.log.unsettled.filter (fun x => x ≠ g) ∧ t.log.skipped = satInc s.log.skipped ∧
      t.log.skipCount = s.log.skipCount + 1 ∧ t.log.streams = s.log.streams ∧ t.log.budget = s.log.budget ∧ 
      t = { s with log := t.log }) ∧
  (∀ s g r, s.norRuns = true → s.nextRecord = some g → s.recAt g = some r → s.blockRoom r.stream = true →
    (s.bank 13).distrusted = false →
    Completes .norProgramFail s fun t =>
      (t.bank 13).sticky = setBit (s.bank 13).sticky 5 ∧
      (∃ b b', (s.stream r.stream).blocks.getLast? = some b ∧ (t.stream r.stream).blocks.getLast? = some b' ∧ b'.used = b.used + 1 ∧
        b'.recs = b.recs ∧ b'.bad = true)) ∧
  (∀ s n b, s.norRuns = true → (s.log.streams.map (·.1)).Nodup → n ∈ s.log.streams.map (·.1) → (s.stream n).blocks.getLast? = some b →
    Completes .periodFlush s fun t =>
      (∃ b', (t.stream n).blocks.getLast? = some b' ∧ b'.used = b.used + pagePad b.used ∧ b'.recs = b.recs ∧
        (b.used ≤ 2047 → b'.used = 2047 ∨ (b'.used + 1) % 8 = 0)) ∧ 
      t = { s with log := t.log }) ∧
  (∀ s facts n, s.norRuns = true → s.log.flush = .fault n → s.flt.chipDue = false →
    Completes (.flushEnd facts) s fun t => t.log.flush = .none ∧ t.log.irq.getLsbD 3 = true ∧ 
      t = { s with host := t.host, log := t.log, out := t.out }) ∧
  (∀ s facts, s.log.flush = .none → s.flt.chipDue = true → s.sys.mode ≠ .dormant → s.tmp.halted = false →
    Completes (.flushEnd facts) s fun t =>
      t = if 2 ≤ s.tmp.govern then s.modFlt fun f => { f with chipDue := false } else s.reboot resetWarm 5 facts) ∧
  (∀ s facts, s.norRuns = true → s.log.flush = .power → s.sys.pwrfail = true →
    Completes (.flushEnd facts) s fun t => t.log.stopped = true ∧ t.log.irq.getLsbD 3 = true ∧ 
      t = { s with host := t.host, log := t.log, out := t.out }) ∧
  (∀ s block n, block < 1024 → (s.log.erasing.find? fun e => e.1 = block) = some (block, n) → s.norRuns = true → s.log.flush ≠ .power →
    let u := s.modLog fun l => { l with erasing := l.erasing.filter fun e => e.1 ≠ block }
    (n + 1 < 100000 → Completes (.norBlockEraseDone block true) s fun t => t = u.modLog fun l => { l with free := l.free ++ [(block, n + 1)] }) ∧
    (100000 ≤ n + 1 → Completes (.norBlockEraseDone block true) s fun t => t = u.occur 13 6 none) ∧
    Completes (.norBlockEraseDone block false) s fun t => t = u.occur 13 5 none) ∧
  (∀ s i k r, Serving s i k 0x0701 r →
    let n := leAt (reqBody r) 0 2
    let x := s.stream n
    Completes (.logStatus i k) s fun t =>
      t = s.endCommand i k Mr.OK (leBytes x.next 8 ++ leBytes (s.lowestSeq n) 8 ++ [byte (b2n x.keepFirst), 0] ++ leBytes x.quota 2 ++
        leBytes x.first 2 ++ leBytes x.blocks.length 2)) ∧
  (∀ s i k r, Serving s i k 0x0702 r →
    let n := leAt (reqBody r) 0 2
    let rs := s.recsFrom n (leAt (reqBody r) 8 8)
    Completes (.logRead i k) s fun t =>
      t = s.endCommand i k Mr.OK ([byte (min 6 rs.length), byte (b2n (decide (6 < rs.length)))] ++ zeros 6 ++ leBytes (s.lowestSeq n) 8 ++
        (rs.take 6).flatMap recBytes)) ∧
  (∀ s i k r, Serving s i k 0x0703 r → Completes (.logFetch i k false) s fun t => t = s.endCommand i k Mr.BUFFER_FAULT []) ∧
  (∀ s i k r, Serving s i k 0x0703 r →
    let p := reqBody r
    let n := leAt p 0 2
    let rs := s.recsFrom n (leAt p 8 8)
    let m := min rs.length (bufLen p 16 / 64)
    Completes (.logFetch i k true) s fun t =>
      t = (if m = 0 then s else s.hostWrite i (bufAddr p 16) ((rs.take m).flatMap recBytes)).endCommand i k Mr.OK
        (leBytes m 4 ++ zeros 4 ++ leBytes (((rs.drop m).head?.map (·.seq)).getD (s.stream n).next) 8)) ∧
  (∀ s i k r, Serving s i k 0x0704 r →
    let p := reqBody r
    let n := leAt p 0 2
    let keep := decide (byteAt p 2 = 1)
    let quota := leAt p 4 2
    let first := leAt p 6 2
    Completes (.logConfig i k) s fun t =>
      (256 ≤ n → quota ≠ (s.stream n).quota → t = s.endCommand i k Mr.BAD_FIELD []) ∧
      (n < 256 → quota < 2 ∨ 864 < quota ∨ 864 < s.quotaSum n + quota → t = s.endCommand i k Mr.LIMIT []) ∧
      (n < 256 → 2 ≤ quota → s.quotaSum n + quota ≤ 864 → keep = true → first < 1 ∨ quota < first + 2 → t = s.endCommand i k Mr.LIMIT []) ∧
      (n < 256 → 2 ≤ quota → s.quotaSum n + quota ≤ 864 → (keep = true → 1 ≤ first ∧ first + 2 ≤ quota) → ∃ u : State,
        (u.stream n).keepFirst = keep ∧ (u.stream n).quota = quota ∧ (u.stream n).first = (if keep then first else 0) ∧
        t = { s with host := t.host, mbx := t.mbx, log := t.log, freeCtr := t.freeCtr, out := t.out } ∧
        t = u.endCommand i k Mr.OK (leBytes n 2 ++ [byte (b2n keep), 0] ++ leBytes quota 2 ++ leBytes (if keep then first else 0) 2))) ∧
  (∀ s i k r, Serving s i k 0x0705 r → Completes (.logGrant i k) s fun t =>
    t = (s.modLog fun l => { l with grants := mset 0 l.grants (leAt (reqBody r) 0 2) (BitVec.ofNat 2 (byteAt (reqBody r) 2)) }).endCommand
      i k Mr.OK [])

/-- R452 to R457, R459 to R463. Stress hours, the fit and the projections are Kazkel's and free (log 44).
Choices of the model met here (DESIGN CHOICE, DEDUCED or PRESUMED): log 51, 63, 64, 76, 98, 127. -/
def Obligations.ConesMeasurementAndPlans : Prop :=
  (∀ (floor x vmin rodeg : Nat) (canaryOk : Bool), x ≤ 24 → vmin ≤ 40 →
    planOf floor { fmax := some x, vmin := vmin, rodeg := rodeg, canaryOk := canaryOk } =
      (if x < 2 ∨ min 16 (x - 2) < floor then none
       else if canaryOk then some (min 16 (x - 2), min 40 (vmin + 4), false)
       else if min 16 (x - 2) < floor + 1 then none else some (min 16 (x - 2) - 1, 40, true))) ∧
  (∀ (floor vmin rodeg : Nat) (canaryOk : Bool),
    planOf floor { fmax := none, vmin := vmin, rodeg := rodeg, canaryOk := canaryOk } = none) ∧
  (∀ s k, k < 68 → kilnOn (s.kiln k).state = true →
    Completes (.canaryTrip k) s fun t => t = (s.occur (32 + k) 2 none).kilnOverdue k) ∧
  (∀ s j, j < 4 → s.sys.mode ≠ .dormant →
    Completes (.canaryTrip (0x80 + j)) s fun t =>
      (t.coneBlock j).canary = true ∧ t.cone.irq.getLsbD 6 = true ∧ 
      t = { s with host := t.host, setter := t.setter, kilns := t.kilns, wheels := t.wheels, keys := t.keys, routing := t.routing, ent
                   := t.ent, fw := t.fw, cus := t.cus, mir := t.mir, tmp := t.tmp, flt := t.flt, log := t.log, cone := t.cone, sys
                   := t.sys, dma := t.dma, store := t.store, mem := t.mem, freeCtr := t.freeCtr, out := t.out }) ∧
  (∀ (s : State) k, s.otherDrained k = true →
    let t := s.kilnOverdue k
    (t.coneKiln k).overdue = true ∧ ((s.coneKiln k).overdue = false → (t.coneKiln k).due = true ∧ t.cone.irq.getLsbD 5 = true) ∧
    ((s.coneKiln k).overdue = true → t = s) ∧ 
      t = { s with host := t.host, log := t.log, cone := t.cone, out := t.out }) ∧
  (∀ s, Completes .measureWindowStart s fun t =>
    t.cone.round = true ∧
    (∀ k, ((s.kilnsIn .inService).find? fun k => (s.coneKiln k).due) = some k → s.mayMeasure k = true →
      t = (s.modCone fun c => { c with round := true }).startDrain k .measure) ∧
    (((s.kilnsIn .inService).find? fun k => (s.coneKiln k).due) = none → t = s.modCone fun c => { c with round := true })) ∧
  (∀ s, Completes .measureWindowEnd s fun t => t = s.modCone fun c => { c with round := false }) ∧
  (∀ s k, k < 68 → kilnOn (s.kiln k).state = true →
    Completes (.kilnDue k) s fun t => t = s.modConeKiln k fun c => { c with due := true, hours := 20 }) ∧
  (∀ s k, k < 68 → kilnOn (s.kiln k).state = true →
    Completes (.kilnOverdue k) s fun t => t = (s.modConeKiln k fun c => { c with hours := 48 }).kilnOverdue k) ∧
  (∀ s k, k < 68 → (s.kiln k).state = .drained → (s.kiln k).drainFor = some .measure → s.otherDrained k = false →
    s.sys.mode ≠ .boot → s.sys.mode ≠ .dormant →
    Completes (.kilnMeasure k none) s fun t => t = (s.setKilnState k .measuring).confirmAll k ∧ (t.kiln k).state = .measuring) ∧
  (∀ s k found, k < 68 → Measured.ok found = true → (s.kiln k).state = .measuring →
    Completes (.kilnMeasure k (some found)) s fun t =>
      (t.coneKiln k).fmax = (match found.fmax with
        | none => 0x1F
        | some x => BitVec.ofNat 5 x) ∧
      (t.coneKiln k).rodeg = BitVec.ofNat 16 found.rodeg ∧ (t.coneKiln k).hours = 0 ∧
      (t.coneKiln k).count = satInc (s.coneKiln k).count ∧ (t.coneKiln k).due = false ∧ (t.coneKiln k).overdue = false ∧
      (∀ f v canary, planOf s.cone.floor found = some (f, v, canary) →
        (t.kiln k).freq = BitVec.ofNat 5 f ∧ (t.kiln k).volt = BitVec.ofNat 6 v ∧ (t.kiln k).state = .drained ∧
        (t.coneKiln k).canary = canary ∧
        (BitVec.ofNat 5 f ≠ (s.kiln k).freq → f < 32 → t.cone.irq.getLsbD 1 = true)) ∧
      (planOf s.cone.floor found = none → s.lastKiln k = false →
        (t.kiln k).state = .drained ∧ (t.kiln k).drainFor = some .retire ∧ t.cone.irq.getLsbD 7 = true) ∧
      (planOf s.cone.floor found = none → s.lastKiln k = true →
        (t.kiln k).state = .withdrawn ∧ t.cone.lastLost = true ∧ (s.sys.mode = .service → t.sys.mode = .drain)) ∧
      t = { s with host := t.host, setter := t.setter, kilns := t.kilns, wheels := t.wheels, keys := t.keys, ent := t.ent, fw := t.fw,
                   mir := t.mir, flt := t.flt, log := t.log, cone := t.cone, sys := t.sys, store := t.store, freeCtr := t.freeCtr,
                   out := t.out }) ∧
  (∀ s losses, losses.length = 4 → s.sys.mode ≠ .dormant →
    Completes (.roCountTimer losses) s fun t => (∀ j, j < 4 → (t.coneBlock j).rodeg = losses.getD j 0) ∧ 
      t = { s with cone := t.cone, freeCtr := t.freeCtr }) ∧
  (∀ s, s.sys.mode ≠ .dormant → s.sys.mode ≠ .boot →
    Completes .marginReportTimer s fun t => t.cone.irq.getLsbD 0 = true ∧ 
      t = { s with host := t.host, log := t.log, cone := t.cone, out := t.out })

/-- R337, R390, R399, R446, R447, R468 to R473, R477.
Choices of the model met here (DESIGN CHOICE, DEDUCED or PRESUMED): log 18, 64, 67, 70, 76, 113, 121, 143. -/
def Obligations.ResetsAndBoot : Prop :=
  (∀ s facts, Completes (.powerOn facts) s fun t => t = s.reboot 0 0 facts) ∧
  (∀ s facts, s.tmp.halted = false → s.sys.mode ≠ .dormant → Completes (.pinReset facts) s fun t => t = s.reboot 1 0 facts) ∧
  (∀ s cause facts, cause ≤ 5 → s.warmReady cause = true → s.tmp.halted = false → s.sys.mode ≠ .dormant →
    Completes (.warmReset cause facts) s fun t => t = s.reboot 2 cause facts) ∧
  (∀ (s : State) cause, s.warmReady cause = true ↔
    cause = 3 ∧ s.fw.warmDue = true ∧ s.fw.recovery = false ∨ cause = 4 ∧ s.fw.warmDue = true ∧ s.fw.recovery = true ∨
      cause = 5 ∧ s.flt.chipDue = true ∧ s.tmp.govern < 2) ∧
  (∀ s cause facts, s.warmReady cause = false → NoEffect (.warmReset cause facts) s) ∧
  (∀ s cause facts, 1 ≤ cause → cause ≤ 5 → s.tmp.halted = true ∨ s.sys.mode = .dormant →
    NoEffect (.pinReset facts) s ∧ NoEffect (.warmReset cause facts) s) ∧
  (∀ (s : State) kind cause facts, kind ≤ 2 →
    let t := s.reboot kind cause facts
    t.sys.mode = .boot ∧ t.sys.lastReset.toNat = kind ∧ t.sys.rtc = s.sys.rtc ∧ t.sys.cmdDrain = false ∧ t.sys.fnsReady = false ∧
    t.sys.boots = (if kind = 0 then 1 else satInc s.sys.boots) ∧
    t.lcc.ledger = s.lcc.ledger ∧ t.lcc.state = lcDecode s.lcc.ledger ∧ t.lcc.purpose = 0 ∧ t.lcc.guarded = false ∧
    t.tmp.latchResp = s.tmp.cellResp ∧ t.tmp.latchSource = s.tmp.cellSource ∧ t.tmp.latchCount = s.tmp.cellCount ∧
    t.mbx = {} ∧ t.dma = [] ∧ t.mem = [] ∧ t.store.keys = [] ∧ t.store.total = 0 ∧ t.host.bindings = s.host.bindings ∧
    t.host.splitLatch = (if kind = 2 then s.host.splitLatch else facts.split) ∧
    t.flt.grave = (decide (kind ≠ 0) && s.flt.grave) ∧ t.flt.errOut = (decide (kind ≠ 0) && s.flt.errOut) ∧
    (∀ k < 68, k ∉ s.cone.retired → kind ≠ 0 → (s.bank (kilnBank k)).fenced = true → (t.kiln k).state = .withdrawn) ∧ t.cone.retired = s.cone.retired ∧ t.ent.retiredList = s.ent.retiredList) ∧
  (∀ (s : State) kind cause facts, kind ≤ 2 → s.tmp.cellCopy = true →
    (∀ i < 28, s.alarmLive i = false) →
    let t := s.reboot kind cause facts
    t.tmp.govern = (if 2 ≤ s.tmp.cellResp then min 3 s.tmp.cellResp else 0) ∧ t.flt.paritySafe = false ∧ t.tmp.cellResp = 0 ∧ t.tmp.alarm = (if kind = 0 then 0 else s.tmp.alarm) ∧ t.tmp.ring = s.tmp.ring ∧
    t.tmp.last = s.tmp.last ∧ t.setter.wares = [] ∧ t.host.rings = [] ∧ t.tmp.halted = false ∧ t.keys.stored = s.keys.stored ∧ t.keys.hk = [] ∧ t.keys.cache = [] ∧
    (∀ b, (t.bank b).fenced = (decide (kind ≠ 0) && (s.bank b).fenced)) ∧
    (∀ b, (t.bank b).sticky = (if kind = 2 then (s.bank b).sticky else 0)) ∧
    (∀ g, (t.saggar g).cnonce = (s.saggar g).cnonce ∧ (t.saggar g).images = (s.saggar g).images ∧ (t.saggar g).slots = []) ∧
    (let r := State.chooseKazkel s.fw.rollback facts.okA facts.okB 5 s.fw.kazkel
     t.fw.kazkel = r.1 ∧ t.fw.recovery = r.2.isNone ∧ (∀ b, r.2 = some b → t.fw.runningB = b) ∧
     t.sys.bootStep = (if r.2.isNone then 3 else 6))) ∧
  (∀ (t : Slots) rollback okA okB n, t.a.state ≠ .trial → t.b.state ≠ .trial → t.a.state = .committed → okA = true →
    rollback ≤ t.a.svn → State.chooseKazkel rollback okA okB (n + 1) t = (t, some false)) ∧
  (∀ (t : Slots) rollback okA okB n, t.a.state ≠ .trial → t.b.state = .trial → t.b.attempts < 2 → okB = true → rollback ≤ t.b.svn →
    State.chooseKazkel rollback okA okB (n + 1) t = ({ t with b := { t.b with attempts := t.b.attempts + 1 } }, some true)) ∧
  (∀ (t : Slots) rollback okA okB n, t.a.state = .trial → 2 ≤ t.a.attempts ∨ okA = false ∨ t.a.svn < rollback →
    State.chooseKazkel rollback okA okB (n + 1) t =
      State.chooseKazkel rollback okA okB n { t with a := { t.a with state := .rejected } }) ∧
  (∀ s ms, s.sys.mode = .boot → s.sys.bootStep = 7 → s.tmp.halted = false → s.mir.pair.isSome = false ∨ s.sys.pairOk = true →
    Completes (.bootEnd ms) s fun t =>
      (s.cone.lastLost = false → t.sys.mode = s.loadMasters.bootMode ∧ t.sys.prev = .boot ∧ t.sys.cause = 3) ∧
      (s.cone.lastLost = true → s.loadMasters.bootMode = .service → t.sys.mode = .drain ∧ t.sys.prev = .service) ∧ t.sys.bootStep = 9 ∧
      t.sys.bootMs.toNat = min 65535 ms ∧ t.sys.fnsReady = true ∧ 
      t = { s with host := t.host, setter := t.setter, kilns := t.kilns, wheels := t.wheels, keys := t.keys, routing := t.routing, ent
                   := t.ent, fw := t.fw, cus := t.cus, mir := t.mir, tmp := t.tmp, flt := t.flt, log := t.log, cone := t.cone, sys
                   := t.sys, dma := t.dma, store := t.store, mem := t.mem, freeCtr := t.freeCtr, out := t.out }) ∧
  (∀ (s : State), s.lcc.state = .personalised ∨ s.lcc.state = .field ∨ s.lcc.state = .fieldService →
    (s.flt.grave = true ∨ max s.tmp.govern s.tmp.latchResp = 2 ∨ s.flt.paritySafe = true → s.bootMode = .safe) ∧
    (s.flt.grave = false → max s.tmp.govern s.tmp.latchResp ≠ 2 → s.flt.paritySafe = false →
      (3 ≤ s.tmp.govern ∨ 3 ≤ s.tmp.latchResp ∨ s.sys.hearthMade = true ∨ (s.saggar 0).state = .none → s.bootMode = .erased) ∧
      (s.tmp.govern < 3 → s.tmp.latchResp < 3 → s.sys.hearthMade = false → (s.saggar 0).state ≠ .none →
        s.bootMode = if s.mir.pair.isSome then .standby else .service))) ∧
  (∀ (s : State), (s.lcc.state = .scrapped ∨ s.lcc.state = .invalid → s.bootMode = .erased) ∧
    (s.lcc.state = .blank ∨ s.lcc.state = .testOpen ∨ s.lcc.state = .testSealed ∨ s.lcc.state = .returned → s.bootMode = .safe)) ∧
  (∀ s ms, s.sys.mode ≠ .boot ∨ s.sys.bootStep ≠ 7 ∨ s.tmp.halted = true → NoEffect (.bootEnd ms) s) ∧
  (∀ s, s.sys.mode = .boot → s.sys.fnsReady = false → s.tmp.halted = false → Completes .bootReadyTimeout s fun t =>
    t.sys.fnsReady = true ∧ t.host.portA.ready = !s.host.portA.perst ∧ t.host.portB.ready = (s.host.split && !s.host.portB.perst) ∧
    t = { s with host := t.host, sys := t.sys }) ∧
  (∀ s, s.sys.mode ≠ .boot ∨ s.sys.fnsReady = true → NoEffect .bootReadyTimeout s) ∧
  (∀ s, s.sys.pwrfail = false → s.sys.mode ≠ .dormant → Completes .pwrfailFall s fun t =>
    t = (s.modSys fun m => { m with pwrfail := true }).modLog fun l => { l with flush := .power }) ∧
  (∀ s, s.sys.pwrfail = true → s.log.stopped = true → Completes .pwrfailRise s fun t =>
    t = (s.modSys fun m => { m with pwrfail := false }).modLog fun l => { l with stopped := false, flush := .none }) ∧
  (∀ s, s.sys.pwrfail = true → s.log.stopped = false → Completes .pwrfailRise s fun t =>
    t = s.modSys fun m => { m with pwrfail := false }) ∧
  (∀ s, s.sys.pwrfail = true → s.sys.mode ≠ .dormant → Completes .mainRailLoss s fun t =>
    t.sys.mode = .dormant ∧ t.sys.rtc = s.sys.rtc ∧ t.sys.pwrfail = false ∧ t.lcc.ledger = s.lcc.ledger ∧ t.tmp.ring = s.tmp.ring ∧
    t.tmp.cellResp = s.tmp.cellResp ∧ t.keys.stored = s.keys.stored ∧ t.keys.hk = [] ∧ t.flt.grave = false ∧ t.tmp.alarm = 0 ∧
    t.mbx = {} ∧ t.dma = [] ∧ t.mem = [] ∧ t.store.keys = [] ∧ t.setter.wares = [] ∧ t.out = s.out ∧ t.pending = s.pending) ∧
  (∀ s, s.sys.pwrfail = false ∨ s.sys.mode = .dormant → NoEffect .mainRailLoss s)

/-- R481, R483, R484, R486, R487.
Choices of the model met here (DESIGN CHOICE, DEDUCED or PRESUMED): log 18. -/
def Obligations.LifecycleLedger : Prop :=
  (∀ st ∈ lcRecorded, ∀ sel, lcSelector st = some sel → lcOfSlot (lcCodeword sel) = some st) ∧
  lcDecode [] = .blank ∧
  (∀ ledger st t sel, ledger ≠ [] → lcDecode ledger = st → t ∈ lcRecorded → lcSelector t = some sel →
    lcDecode (ledger ++ [lcCodeword sel]) = if lcAllowed st t then t else .invalid) ∧
  (∀ ledger w, lcOfSlot w = none → lcDecode (ledger ++ [w]) = .invalid) ∧
  (∀ ledger w, lcDecode ledger = .invalid → lcDecode (ledger ++ [w]) = .invalid) ∧
  (∀ ledger w, lcDecode ledger = .scrapped → lcDecode (ledger ++ [w]) = .invalid) ∧
  (∀ ledger st t sel, t ∈ lcRecorded → lcSelector t = some sel →
    lcUsed (ledger ++ [lcCodeword sel]) st = lcUsed ledger st + (if st = t then 1 else 0))

/-- R54, R485 to R490, R493, R495 to R498. The whole transition within one write, and SCRAPPED and INVALID by partial words, are as the
log's entries on lifecycle transitions say.
Choices of the model met here (DESIGN CHOICE, DEDUCED or PRESUMED): log 18, 76, 87, 101, 103, 110, 137. -/
def Obligations.LifecycleTransitions : Prop :=
  (∀ s i code facts, i < 1024 → code < 16 → s.answers i = true → s.isPf i = true → s.ownerPf = i →
    Completes (.lifecycleTransition i code false facts) s fun t => t = s.writeXstate code facts) ∧
  (∀ s i code facts, i < 1024 → code < 16 → 2 ≤ lcReach s.lcc.state → 3 ≤ s.sys.bootStep → s.tmp.halted = false →
    s.sys.mode ≠ .dormant → Completes (.lifecycleTransition i code true facts) s fun t => t = s.writeXstate code facts) ∧
  (∀ s i code facts, i < 1024 → code < 16 → lcReach s.lcc.state < 2 → NoEffect (.lifecycleTransition i code true facts) s) ∧
  (∀ (s : State) code facts o, s.lcRefusal code facts = some o →
    let t := s.writeXstate code facts
    t.lcc.ledger = s.lcc.ledger ∧ t.lcc.outcome = BitVec.ofNat 4 o ∧ t.lcc.target = BitVec.ofNat 4 code ∧
    t.lcc.token = [0, 0, 0, 0] ∧ t.lcc.busy = false ∧ t.lcc.pending = s.lcc.pending ∧ 
      t = { s with host := t.host, log := t.log, lcc := t.lcc, out := t.out }) ∧
  (∀ (s : State) code facts,
    (s.lcc.pending = true → s.lcRefusal code facts = some 11) ∧
    (s.lcc.pending = false →
      ((∀ st, lcTarget code = some st → lcAllowed s.lcc.state st = false) → s.lcRefusal code facts = some 2) ∧
      (∀ st, lcTarget code = some st → lcAllowed s.lcc.state st = true →
        (s.lcModeOk = false → s.lcRefusal code facts = some 6) ∧
        (s.lcModeOk = true → s.sys.pwrfail = true → s.lcRefusal code facts = some 7) ∧
        (s.lcModeOk = true → s.sys.pwrfail = false →
          ((st = .testOpen ∧ 16 ≤ s.testUsed) ∨ (st = .fieldService ∧ 8 ≤ s.fsUsed) → s.lcRefusal code facts = some 5) ∧
          ((st = .testOpen → s.testUsed < 16) → (st = .fieldService → s.fsUsed < 8) →
            (s.lcPrecondition s.lcc.state st facts = false → s.lcRefusal code facts = some 8) ∧
            (s.lcPrecondition s.lcc.state st facts = true →
              (st = .testOpen → padTo 32 (Config.sha256 s.tokenBytes) ≠ padTo 32 (Config.testTokenDigest s.testUsed) →
                s.lcRefusal code facts = some 3) ∧
              (s.lcc.state = .field → st = .fieldService → s.lcc.purpose ≠ 1 → s.lcRefusal code facts = some 4) ∧
              (s.lcc.state = .fieldService → st = .returned → s.lcc.purpose ≠ 2 → s.lcRefusal code facts = some 4) ∧
              ((st = .testOpen → padTo 32 (Config.sha256 s.tokenBytes) = padTo 32 (Config.testTokenDigest s.testUsed)) →
                (s.lcc.state = .field → st = .fieldService → s.lcc.purpose = 1) →
                (s.lcc.state = .fieldService → st = .returned → s.lcc.purpose = 2) → s.lcRefusal code facts = none))))))) ∧
  (∀ (s : State), s.lcModeOk = true ↔
    s.sys.mode = .safe ∨ s.sys.mode = .erased ∨ (s.sys.mode = .drain ∧ s.inflight = 0)) ∧
  (∀ (s : State) code st sel facts, s.lcRefusal code facts = none → lcTarget code = some st → lcSelector st = some sel →
    facts.secondOk = true → facts.confirmed = true → facts.stopped = false →
    let t := s.writeXstate code facts
    let w := lcCodeword sel &&& facts.readBack
    t.lcc.ledger = s.lcc.ledger ++ (if w = 0 then [] else [w]) ∧ t.lcc.state = s.lcc.state ∧ t.lcc.guarded = true ∧
    t.lcc.pending = (decide (w ≠ 0) || s.lcc.pending) ∧
    t.lcc.outcome = (if lcDecode t.lcc.ledger = st then 1 else 10) ∧
    (facts.readBack = BitVec.allOnes 128 → s.lcc.state = lcDecode s.lcc.ledger → t.lcc.outcome = 1) ∧
    t.lcc.token = [0, 0, 0, 0] ∧ ((lcPurpose s.lcc.state st).isSome = true → t.lcc.purpose = 0) ∧
    t.keys.hearth = 3 ∧ t.keys.hk = [] ∧ t.keys.stored = none ∧ (∀ g, (t.saggar g).slots = []) ∧ t.mem = [] ∧ t.store.keys = [] ∧ t.mir.session = [] ∧
    t = { s with host := t.host, kilns := t.kilns, wheels := t.wheels, keys := t.keys, routing := t.routing, ent := t.ent, cus := t.cus,
                 mir := t.mir, log := t.log, lcc := t.lcc, store := t.store, mem := t.mem, out := t.out }) ∧
  (∀ (s : State) code facts, s.lcRefusal code facts = none →
    facts.secondOk = false ∨ facts.confirmed = false ∨ facts.stopped = true →
    let t := s.writeXstate code facts
    t.lcc.ledger = s.lcc.ledger ∧ t.lcc.outcome = 9 ∧ t.keys.hearth = 3 ∧ t.keys.hk = [] ∧
    t.tmp.decision = (if facts.secondOk && facts.confirmed then s.tmp.decision else satInc s.tmp.decision)) ∧
  (∀ s, Completes .answerLapse s fun t => t = s.modLcc fun l => { l with purpose := 0 }) ∧
  (∀ s i k r, Serving s i k 0x0A01 r →
    let p := byteAt (reqBody r) 0
    (s.purposeAdmitted p = false → Completes (.lcChallenge i k) s fun t => t = s.endCommand i k Mr.SEQUENCE []) ∧
    (s.purposeAdmitted p = true →
      (p = 1 → 8 ≤ s.fsUsed → Completes (.lcChallenge i k) s fun t => t = s.endCommand i k Mr.LIMIT []) ∧
      ((p = 1 → s.fsUsed < 8) →
        ((s.controlBytes 32).2 = none → Completes (.lcChallenge i k) s fun t => t = (s.controlBytes 32).1) ∧
        (∀ nonce, (s.controlBytes 32).2 = some nonce → Completes (.lcChallenge i k) s fun t =>
          ∃ c, c.length = 64 ∧ c.take 8 = bytesOf [0x5A, 0x56, 0x4C, 0x43, p, lcCode s.lcc.state, if p = 1 then 5 else 6, s.fsUsed] ∧
            slice c 8 8 = leBytes Config.uid.toNat 8 ∧ slice c 16 32 = padTo 32 nonce ∧ slice c 52 8 = leBytes s.sys.rtc.toNat 8 ∧
            t = (((s.controlBytes 32).1).modLcc fun l => { l with challenge := c, purpose := 0 }).endCommand i k Mr.OK
              (c ++ padTo 96 (Config.deviceSign (padTo 48 (Config.sha384 c)))))))) ∧
  (∀ s i k r (a : Option Bytes), Serving s i k 0x0A02 r →
    (bufLen (reqBody r) 8 ≠ 4691 → Completes (.lcAnswer i k a) s fun t => t = s.endCommand i k Mr.BAD_FIELD []) ∧
    (bufLen (reqBody r) 8 = 4691 →
      (a = none → Completes (.lcAnswer i k a) s fun t => t = s.endCommand i k Mr.BUFFER_FAULT []) ∧
      (∀ x, a = some x → x.length = 4691 →
        let h := x.take 64
        (h.take 4 ≠ bytesOf [0x5A, 0x56, 0x4C, 0x41] → Completes (.lcAnswer i k a) s fun t => t = s.endCommand i k Mr.BAD_FIELD []) ∧
        (h.take 4 = bytesOf [0x5A, 0x56, 0x4C, 0x41] → leAt x 6 2 = 0 →
          (Config.verifyMlDsa87 0 h (x.drop 64) = false →
            Completes (.lcAnswer i k a) s fun t => t = s.endCommand i k Mr.IMAGE_SIGNATURE []) ∧
          (Config.verifyMlDsa87 0 h (x.drop 64) = true →
            (s.lcc.challenge = [] ∨ byteAt h 4 ≠ byteAt (reqBody r) 0 ∨ s.answerMatches h = false →
              Completes (.lcAnswer i k a) s fun t => t = s.endCommand i k Mr.SEQUENCE []) ∧
            (s.lcc.challenge ≠ [] → byteAt h 4 = byteAt (reqBody r) 0 → s.answerMatches h = true →
              Completes (.lcAnswer i k a) s fun t => ∃ minutes,
                t = (s.modLcc fun l => { l with purpose := BitVec.ofNat 2 (byteAt (reqBody r) 0), armedAt := s.sys.rtc.toNat }).endCommand
                  i k Mr.OK [byte (byteAt (reqBody r) 0), byte minutes, 0, 0])))))) ∧
  (∀ s i k r, Serving s i k 0x0A03 r → Completes (.lcStatus i k) s fun t =>
    t = s.endCommand i k Mr.OK (bytesOf [lcCode s.lcc.state, s.lcc.target.toNat, s.lcc.outcome.toNat, s.testUsed, s.fsUsed,
      s.lcc.ledger.length, s.lcc.purpose.toNat, s.minutesLeft]))

/-- R36, R500, R502 to R511. Half point, slot read and end of a descriptor are told by the commands' operands; of the
channels with a descriptor under way those at the lowest-numbered level run and the others are pre-empted.
Choices of the model met here (DESIGN CHOICE, DEDUCED or PRESUMED): log 13, 63, 64, 97, 110, 115, 122, 138. -/
def Obligations.DmaDescriptors : Prop :=
  (∀ s i c, i < 1024 → s.answers i = true → s.isPf i = true → s.ownerPf = i → 8 ≤ c → c < 32 →
    (s.dmaLive c = true → (s.chan c).state = .idle → (s.chan c).reading = false → Completes (.dmaKick i c) s fun t =>
      t = (s.modChan c fun ch => { ch with state := .idle, reading := true }).emit
        (.hostRead (s.chan c).fn ((s.chan c).ring.toNat + 64 * (s.chan c).index) 64)) ∧
    (s.dmaLive c = false ∨ (s.chan c).state ≠ .idle ∨ (s.chan c).reading = true → NoEffect (.dmaKick i c) s) ∧
    (∀ v, (s.chan c).lent = true → (s.chan c).reading = false → Completes (.dmaEnable i c v) s fun t =>
      (t.chan c).enable = true ∧ (t.chan c).pollUs.toNat = field v.toNat 8 8 ∧
      (t.chan c).log2 = (if (s.chan c).state = .disabled then min 12 (max 4 (field v.toNat 16 4)) else (s.chan c).log2) ∧
      (t.chan c).index = (s.chan c).index ∧ (t.chan c).ring = (s.chan c).ring ∧
      ((s.bank 12).fenced = false → (s.chan c).enable = false → (t.chan c).reading = true ∧
        t.out = Out.hostRead (s.chan c).fn ((s.chan c).ring.toNat + 64 * (s.chan c).index) 64 :: s.out) ∧
      (∀ x, x ≠ c → t.chan x = s.chan x) ∧ t.host = s.host ∧ t.log = s.log ∧ 
      t = { s with host := t.host, log := t.log, dma := t.dma, out := t.out }) ∧
    ((s.chan c).lent = true → Completes (.dmaDisable i c) s fun t =>
      (t.chan c).enable = false ∧ (t.chan c).state = .disabled ∧ (t.chan c).index = (s.chan c).index ∧
      (t.chan c).lent = true ∧ (t.chan c).desc = [] ∧ (t.chan c).done = (s.chan c).done ∧ (t.chan c).bad = (s.chan c).bad ∧
      (∀ x, x ≠ c → t.chan x = { s.chan x with state := (t.chan x).state }) ∧ t.out = s.out ∧ t.host = s.host ∧
      (dmaDstSpace (s.chan c).desc = 0 ∨ (s.chan c).state = .idle ∨ (s.chan c).state = .disabled →
        t.mem = s.mem ∧ t.routing = s.routing) ∧ 
      t = { s with host := t.host, routing := t.routing, log := t.log, dma := t.dma, store := t.store, mem := t.mem, freeCtr :=
                   t.freeCtr, out := t.out }) ∧
    ((s.chan c).lent = false → (∀ v, NoEffect (.dmaEnable i c v) s) ∧ NoEffect (.dmaDisable i c) s)) ∧
  (∀ s c, 8 ≤ c → c < 32 → s.dmaLive c = true → (s.chan c).state = .idle → (s.chan c).reading = false →
    ((s.chan c).pollUs ≠ 0 → Completes (.dmaPollTimer c) s fun t => t = s.dmaReadSlot c) ∧
    ((s.chan c).pollUs = 0 → NoEffect (.dmaPollTimer c) s)) ∧
  (∀ s c slot, 8 ≤ c → c < 32 → s.dmaLive c = true → (s.chan c).reading = true →
    (dmaOwn slot = false → Completes (.dmaSlotReadDone c slot) s fun t =>
      t = s.modChan c fun ch => { ch with reading := false, state := .idle }) ∧
    (dmaOwn slot = true → dmaFormOk slot = true → Completes (.dmaSlotReadDone c slot) s fun t =>
      t = (s.modChan c fun ch => { ch with reading := false, desc := slot, state := .running, moved := 0, halfDone := false }).dmaTurns) ∧
    (dmaOwn slot = true → dmaFormOk slot = false → Completes (.dmaSlotReadDone c slot) s fun t =>
      (t.chan c).lastCause = 4 ∧ (t.chan c).bad = satInc (s.chan c).bad ∧ (t.chan c).index = ((s.chan c).index + 1) % 2 ^ (s.chan c).log2 ∧
      t.mem = s.mem ∧ t.routing = s.routing ∧ (t.chan c).reading = true)) ∧
  (∀ s c b, 8 ≤ c → c < 32 → s.dmaLive c = true → (s.chan c).reading = true → Completes (.dmaSlotReadFail c b) s fun t =>
    t.chan c = { s.chan c with reading := false, state := .idle, bad := satInc (s.chan c).bad, lastCause := 6 } ∧
    (b = false → t = s.modChan c fun ch => { ch with reading := false, state := .idle, bad := satInc ch.bad, lastCause := 6 }) ∧
    t = { s with host := t.host, dma := t.dma, out := t.out }) ∧
  (∀ s c, 8 ≤ c → c < 32 → s.dmaLive c = true → (s.chan c).state = .running ∨ (s.chan c).state = .preempted → (s.chan c).halfDone = false →
    (dmaHalfIrq (s.chan c).desc = true → Completes (.dmaHalfPoint c) s fun t =>
      (t.chan c).halfDone = true ∧ (t.chan c).moved = (dmaTotal (s.chan c).desc + 1) / 2 ∧ (t.chan c).state = (s.chan c).state ∧
      (t.fn (s.chan c).fn).irqCause = setBit (s.fn (s.chan c).fn).irqCause 1 ∧
      t = { s with host := t.host, dma := t.dma, out := t.out }) ∧
    (dmaHalfIrq (s.chan c).desc = false → NoEffect (.dmaHalfPoint c) s)) ∧
  (∀ s c data, 8 ≤ c → c < 32 → s.dmaLive c = true → (s.chan c).state = .running ∨ (s.chan c).state = .preempted →
    let d := (s.chan c).desc
    dmaFormOk d = true → dmaSrcSpace d = 0 → dmaTotal d ≤ data.length →
    (dmaDstSpace d = 0 ∨ s.dmaReachesAll (s.chan c).fn (dmaLines (dmaDst d) (dmaDstLines d) (dmaDstStride d)) (dmaDstLen d) = true →
      Completes (.dmaDescriptorComplete c (.done data)) s fun t =>
        (t.chan c).done = (s.chan c).done + 1 ∧ (t.chan c).bad = (s.chan c).bad ∧ (t.chan c).lastCause = (s.chan c).lastCause ∧
        (t.chan c).index = ((s.chan c).index + 1) % 2 ^ (s.chan c).log2 ∧ (t.chan c).reading = true ∧
        (dmaDstSpace d = 0 → t.mem = s.mem ∧ t.routing = s.routing) ∧
        (dmaDstSpace d = 1 →
          (∀ j k, j < dmaDstLines d → k < dmaDstLen d →
            t.dmaRead (dmaDst d + j * dmaDstStride d + k) = data.getD (j * dmaDstLen d + k) 0) ∧
          (∀ a, (∀ j k, j < dmaDstLines d → k < dmaDstLen d → a / 64 ≠ (dmaDst d + j * dmaDstStride d + k) / 64) →
            t.dmaRead a = s.dmaRead a) ∧
          (∀ a, (∀ j k, j < dmaDstLines d → k < dmaDstLen d → a ≠ dmaDst d + j * dmaDstStride d + k) →
            (segmentOf a).isSome = true ∨ s.sealOf (a / 64) = some (s.sealFor (s.ownerAt a)) → t.dmaRead a = s.dmaRead a))) ∧
    (dmaDstSpace d = 1 →
      s.dmaReachesAll (s.chan c).fn (dmaLines (dmaDst d) (dmaDstLines d) (dmaDstStride d)) (dmaDstLen d) = false →
      Completes (.dmaDescriptorComplete c (.done data)) s fun t => ∃ b, t = s.dmaAccess c fun x => x.occur b 0 none)) ∧
  (∀ s c data, 8 ≤ c → c < 32 → s.dmaLive c = true → (s.chan c).state = .running ∨ (s.chan c).state = .preempted →
    let d := (s.chan c).desc
    let from_ := dmaLines (dmaSrc d) (dmaSrcLines d) (dmaSrcStride d)
    dmaSrcSpace d = 1 →
    (s.dmaReachesAll (s.chan c).fn from_ (dmaSrcLen d) = false →
      Completes (.dmaDescriptorComplete c (.done data)) s fun t => ∃ b, t = s.dmaAccess c fun x => x.occur b 0 none) ∧
    (s.dmaReachesAll (s.chan c).fn from_ (dmaSrcLen d) = true →
      (∀ a ∈ from_, ∀ k < dmaSrcLen d, s.tagPasses (a + k) = true) → dmaDstSpace d = 0 →
      Completes (.dmaDescriptorComplete c (.done data)) s fun t =>
        t = ((s.dmaWritten c (s.dmaSource d data)).dmaHalf c).dmaDone c ∧ t.mem = s.mem ∧ t.routing = s.routing) ∧
    (s.dmaReachesAll (s.chan c).fn from_ (dmaSrcLen d) = true → ∀ a ∈ from_, ∀ k < dmaSrcLen d, s.tagPasses (a + k) = false →
      Completes (.dmaDescriptorComplete c (.done data)) s fun t =>
        (t.chan c).lastCause = 1 ∧ ∃ b, 2 ≤ b ∧ b ≤ 3 ∧ t = ((s.occur b 4 none).dmaBad c 1).dmaNext c)) ∧
  (∀ s c w, 8 ≤ c → c < 32 → s.dmaLive c = true → (s.chan c).state = .running ∨ (s.chan c).state = .preempted →
    (Completes (.dmaDescriptorComplete c (.srcRead w)) s fun t =>
      (t.chan c).lastCause = 1 ∧ (t.chan c).bad = satInc (s.chan c).bad ∧ (t.chan c).index = ((s.chan c).index + 1) % 2 ^ (s.chan c).log2 ∧
      (t.chan c).done = (s.chan c).done) ∧
    (Completes (.dmaDescriptorComplete c (.dstWrite w)) s fun t =>
      (t.chan c).lastCause = 2 ∧ (t.chan c).bad = satInc (s.chan c).bad ∧ (t.chan c).index = ((s.chan c).index + 1) % 2 ^ (s.chan c).log2 ∧
      (t.chan c).done = (s.chan c).done) ∧
    (∀ b, Completes (.dmaDescriptorComplete c (.access b w)) s fun t =>
      t = (s.dmaWritten c w).dmaAccess c fun x => x.occur b 0 none)) ∧
  (∀ s c, 8 ≤ c → c < 32 → s.dmaLive c = false ∨ (s.chan c).state = .idle ∨ (s.chan c).state = .disabled →
    ∀ e, NoEffect (.dmaDescriptorComplete c e) s) ∧
  (∀ s c, 8 ≤ c → c < 32 → (s.chan c).lent = true →
    ((s.chan c).state = .running ∨ (s.chan c).state = .preempted → Completes (.dmaChannelReset c) s fun t =>
      (t.chan c).lastCause = 5 ∧ (t.chan c).bad = satInc (s.chan c).bad ∧ (t.chan c).index = ((s.chan c).index + 1) % 2 ^ (s.chan c).log2 ∧
      (t.chan c).lent = true ∧ (t.chan c).enable = (s.chan c).enable ∧ (t.chan c).desc = [] ∧ (t.chan c).state = .idle ∧
      (t.chan c).reading = s.dmaLive c ∧
      (∀ x, x ≠ c → t.chan x = { s.chan x with state := (t.chan x).state }) ∧ 
      t = { s with host := t.host, routing := t.routing, dma := t.dma, store := t.store, mem := t.mem, freeCtr := t.freeCtr, out :=
                   t.out }) ∧
    ((s.chan c).state = .idle ∨ (s.chan c).state = .disabled → NoEffect (.dmaChannelReset c) s)) ∧
  (∀ (s : State), (∀ e ∈ s.dma, s.chan e.1 = e.2) → ∀ c,
    let busy := fun x => (s.chan x).state = .running ∨ (s.chan x).state = .preempted
    let outranked := ∃ x, busy x ∧ dmaRunsAt (s.chan x) < dmaRunsAt (s.chan c)
    (¬ busy c → s.dmaTurns.chan c = s.chan c) ∧
    (busy c → outranked → s.dmaTurns.chan c = { s.chan c with state := .preempted }) ∧
    (busy c → ¬ outranked → s.dmaTurns.chan c = { s.chan c with state := .running })) ∧
  (∀ s c, (s.chan c).lent = false → 8 ≤ c → c < 32 → NoEffect (.dmaChannelReset c) s) ∧
  (∀ d, dmaFormOk d = true →
    byteAt d 0 < 8 ∧ byteAt d 1 < 16 ∧ byteAt d 2 < 4 ∧ dmaSrcSpace d < 2 ∧ dmaDstSpace d < 2 ∧ leAt d 56 8 = 0 ∧
    1 ≤ dmaSrcLen d ∧ dmaSrcLen d ≤ 2 ^ 24 ∧ 1 ≤ dmaDstLines d ∧ dmaDstLines d ≤ 65536 ∧
    dmaDstLen d * dmaDstLines d = dmaSrcLen d * dmaSrcLines d ∧ dmaTotal d ≤ 2 ^ 30 ∧
    (dmaDstLines d ≠ 1 → dmaDstLen d ≤ dmaDstStride d))

/-- R71, R500, R502, R505 to R507, R510: the nine commands of the channels, each with the conditions on state and operands under which it
takes effect.
Choices of the model met here (DESIGN CHOICE, DEDUCED or PRESUMED): log 13, 63, 64, 97, 110, 115, 122. -/
def Obligations.DmaChannelCommandsComplete : Prop :=
  (∀ s i c, i < 1024 → s.answers i = true → s.isPf i = true → s.ownerPf = i → 8 ≤ c → c < 32 →
    (s.dmaLive c = true → (s.chan c).state = .idle → (s.chan c).reading = false →
      Completes (.dmaKick i c) s fun t => t = s.dmaReadSlot c) ∧
    ((s.chan c).lent = true → (s.chan c).reading = true → ∀ v, Completes (.dmaEnable i c v) s fun t =>
      (t.chan c).enable = true ∧ (t.chan c).pollUs.toNat = field v.toNat 8 8 ∧ t.out = s.out) ∧
    ((s.chan c).lent = true → Completes (.dmaDisable i c) s fun t => t = s.dmaStop c)) ∧
  (∀ s c, 8 ≤ c → c < 32 → s.dmaLive c = true →
    ((s.chan c).state = .idle → (s.chan c).reading = false → (s.chan c).pollUs ≠ 0 →
      Completes (.dmaPollTimer c) s fun t => t = s.dmaReadSlot c ∧ (t.chan c).reading = true) ∧
    ((s.chan c).reading = true →
      (∀ slot, dmaOwn slot = false → Completes (.dmaSlotReadDone c slot) s fun t => (t.chan c).reading = false ∧ (t.chan c).state = .idle) ∧
      (∀ slot, dmaOwn slot = true → dmaFormOk slot = true → Completes (.dmaSlotReadDone c slot) s fun t => (t.chan c).desc = slot) ∧
      (∀ b, Completes (.dmaSlotReadFail c b) s fun t => (t.chan c).reading = false ∧ (t.chan c).lastCause = 6)) ∧
    (State.dmaBusy (s.chan c) = true →
      (dmaHalfIrq (s.chan c).desc = true → (s.chan c).halfDone = false →
        Completes (.dmaHalfPoint c) s fun t => t = s.dmaHalf c ∧ (t.chan c).halfDone = true) ∧
      (∀ w, Completes (.dmaDescriptorComplete c (.srcRead w)) s fun t => t = ((s.dmaWritten c w).dmaBad c 1).dmaNext c) ∧
      (∀ w, Completes (.dmaDescriptorComplete c (.dstWrite w)) s fun t => t = ((s.dmaWritten c w).dmaBad c 2).dmaNext c) ∧
      (∀ data, Completes (.dmaDescriptorComplete c (.done data)) s fun t => t = s.dmaFinish c data))) ∧
  (∀ s c, 8 ≤ c → c < 32 → (s.chan c).lent = true → State.dmaBusy (s.chan c) = true → Completes (.dmaChannelReset c) s fun t =>
    t = ((s.dmaTorn c).dmaBad c 5).dmaNext c ∧ (t.chan c).lent = true) ∧
  (∀ s c, 8 ≤ c → c < 32 → s.dmaLive c = false →
    NoEffect (.dmaPollTimer c) s ∧ (∀ slot, NoEffect (.dmaSlotReadDone c slot) s) ∧ (∀ b, NoEffect (.dmaSlotReadFail c b) s) ∧
      NoEffect (.dmaHalfPoint c) s ∧ ∀ e, NoEffect (.dmaDescriptorComplete c e) s)

/-- R396, R414, R429, R431, R464, R480, R499, R532.
Choices of the model met here (DESIGN CHOICE, DEDUCED or PRESUMED): log 105. -/
def Obligations.SmbusPort : Prop :=
  (∀ (s : State), s.smbusLive = true ↔ s.sys.mode ≠ .dormant ∧ 2 ≤ s.sys.bootStep) ∧
  (∀ s, s.smbusLive = true →
    (s.tmp.govern < 8 → Completes .smbModGlobal s fun t => ∃ v : Word, t = s.emit (.smbus (some v)) ∧
      field v.toNat 0 3 = modeCode s.sys.mode ∧ field v.toNat 3 3 = s.tmp.govern ∧ bitAt v.toNat 6 = s.flt.grave ∧
      bitAt v.toNat 7 = s.ent.ready ∧ bitAt v.toNat 8 = s.mir.active ∧ bitAt v.toNat 9 = s.mir.lease ∧ v.toNat < 1024) ∧
    (s.tmp.govern < 8 → Completes .smbTmpStat s fun t => ∃ v : Word, t = s.emit (.smbus (some v)) ∧
      field v.toNat 0 3 = s.tmp.govern ∧ bitAt v.toNat 3 = s.tmp.sealed ∧ bitAt v.toNat 4 = s.recoverable ∧
      field v.toNat 8 5 = ((List.range 28).filter fun i => s.alarmLive i).length ∧ v.toNat < 8192) ∧
    (Completes .smbTmpAlarmStat s fun t => ∃ v : Word, t = s.emit (.smbus (some v)) ∧ v.toNat = s.tmp.alarm.toNat) ∧
    (Completes .smbFltSumStat s fun t => ∃ v : Word, t = s.emit (.smbus (some v)) ∧
      bitAt v.toNat 0 = s.flt.grave ∧ bitAt v.toNat 1 = s.flt.parity ∧ bitAt v.toNat 2 = s.flt.errOut ∧ v.toNat < 8) ∧
    (∀ tj, Completes (.smbHottestTj tj) s fun t => ∃ v : Word, t = s.emit (.smbus (some v)) ∧ v.toNat = tj.toNat % 65536) ∧
    (Completes .smbPwrStat s fun t => ∃ v : Word, t = s.emit (.smbus (some v)) ∧
      field v.toNat 0 7 = ((State.allKilns).filter fun k => kilnOn (s.kiln k).state).length ∧ bitAt v.toNat 8 = s.host.portA.d3hot ∧
      bitAt v.toNat 9 = s.host.portB.d3hot ∧ bitAt v.toNat 10 = s.sys.pwrfail ∧ v.toNat < 2048) ∧
    (Completes .smbConeCapacity s fun t => ∃ v : Word, t = s.emit (.smbus (some v)) ∧ v.toNat = s.capacity) ∧
    (s.lcc.ledger.length ≤ 64 → Completes .smbLccStat s fun t => ∃ v : Word, t = s.emit (.smbus (some v)) ∧
      field v.toNat 0 4 = lcCode s.lcc.state ∧ bitAt v.toNat 8 = lcDebugOpen s.lcc.state ∧
      bitAt v.toNat 9 = decide (1 ≤ lcReach s.lcc.state) ∧ bitAt v.toNat 10 = s.lcc.pending ∧ bitAt v.toNat 11 = s.lcc.busy ∧
      field v.toNat 12 4 = s.lcc.target.toNat ∧ field v.toNat 16 4 = s.lcc.outcome.toNat ∧ field v.toNat 20 7 = s.lcc.ledger.length)) ∧
  (∀ s c, s.smbusLive = false →
    c ∈ [Instr.smbModGlobal, Instr.smbTmpStat, Instr.smbTmpAlarmStat, Instr.smbFltSumStat, Instr.smbPwrStat, Instr.smbConeCapacity,
      Instr.smbLccStat] ∨ (∃ tj, c = .smbHottestTj tj) →
    Completes c s fun t => t = s.emit (.smbus none)) ∧
  (∀ s w c, c < 256 → w = true ∨ c < 0x10 ∨ 0x17 < c → Completes (.smbUnlistedCommand w c) s fun t => t = s.emit (.smbus none)) ∧
  (∀ s, s.smbusLive = true → s.tmp.alarm ≠ 0 ∨ s.flt.errOut = true →
    Completes .smbAlertResponse s fun t => t = s.emit (.smbusAlert 0x6C)) ∧
  (∀ s, s.smbusLive = false ∨ (s.tmp.alarm = 0 ∧ s.flt.errOut = false) → NoEffect .smbAlertResponse s)

/-- R36, R37, R491, R493, R494. Halted pairs, breakpoints and the cells of the boundary scan are the model's form (NOTES).
Choices of the model met here (DESIGN CHOICE, DEDUCED or PRESUMED): log 63, 64, 69, 104, 106, 107, 115, 131, 138, 140. -/
def Obligations.JtagAndFactoryModes : Prop :=
  (∀ (s : State), s.jtagLevel = if s.sys.mode = .dormant ∨ s.sys.bootStep < 3 then none else some (lcReach s.lcc.state)) ∧
  (∀ s n c, s.jtagLevel = none ∨ (∃ l, s.jtagLevel = some l ∧ l < n) →
    (n = 0 ∧ (c = .jtagIdcode ∨ ∃ b, c = .jtagBypass b)) ∨
    (n = 1 ∧ ((∃ b, c = .jtagSample b) ∨ (∃ b, c = .jtagPreload b) ∨ ∃ b, c = .jtagExtest b)) ∨
    (n = 2 ∧ ((∃ p, p < 2 ∧ (c = .jtagCoreHalt p ∨ c = .jtagCoreStep p ∨ ∃ a, c = .jtagBreakpoint p a)) ∨
      ∃ a w, a < 2 ^ 44 ∧ c = .jtagMemoryAccess a w)) ∨
    (n = 3 ∧ ((∃ a p, a < 8 ∧ c = .factoryBist a p) ∨ ∃ a x w, a < 5 ∧ c = .factoryDirectAccess a x w)) →
    Completes c s fun t => t = s.emit (.jtag none)) ∧
  (∀ s l, s.jtagLevel = some l →
    (Completes .jtagIdcode s fun t => t = (s.modLcc fun x => { x with extest := false }).emit
      (.jtag (some (Config.idcode Config.part Config.stepping).toNat))) ∧
    (∀ b, Completes (.jtagBypass b) s fun t => t = (s.modLcc fun x => { x with extest := false }).emit (.jtag (some (if b then 2 else 0))))) ∧
  (∀ s l, s.jtagLevel = some l → 1 ≤ l →
    (∀ balls, Completes (.jtagSample balls) s fun t => t = (s.modLcc fun x => { x with extest := false }).emit (.jtag (some balls))) ∧
    (∀ cells, Completes (.jtagPreload cells) s fun t => t = s.modLcc fun x => { x with extest := false, boundary := cells }) ∧
    (∀ balls, Completes (.jtagExtest balls) s fun t =>
      t = ((s.emit (.balls s.lcc.boundary)).emit (.jtag (some balls))).modLcc fun x => { x with extest := true })) ∧
  (∀ s l p, s.jtagLevel = some l → 2 ≤ l → p < 2 →
    (Completes (.jtagCoreHalt p) s fun t => t.lcc.halted = setBit s.lcc.halted p ∧ t = { s with lcc := { s.lcc with halted := t.lcc.halted } }) ∧
    (Completes (.jtagCoreStep p) s fun t => t = s) ∧
    (∀ a, (p, a) ∉ s.lcc.breakpoints → Completes (.jtagBreakpoint p a) s fun t =>
      t = s.modLcc fun x => { x with breakpoints := (p, a) :: x.breakpoints }) ∧
    (∀ a, (p, a) ∈ s.lcc.breakpoints → Completes (.jtagBreakpoint p a) s fun t =>
      t = s.modLcc fun x => { x with halted := setBit x.halted p })) ∧
  (∀ s l a, s.jtagLevel = some l → 2 ≤ l → a < 2 ^ 44 →
    let reached := fun write => if l = 3 then State.inWindow a else s.kazkelReaches a write
    (reached true = false → ∀ w, Completes (.jtagMemoryAccess a (some w)) s fun t => t = s.occur (State.dmaTargetBank a) 0 none) ∧
    (reached false = false → Completes (.jtagMemoryAccess a none) s fun t =>
      t = (s.occur (State.dmaTargetBank a) 0 none).emit (.jtag (some 0))) ∧
    (reached false = true → s.heldAt a = true →
      (s.tagPasses a = true → Completes (.jtagMemoryAccess a none) s fun t => ∃ v, t = s.emit (.jtag (some v)) ∧
        ∀ k, k < 4 → BitVec.ofNat 8 (v / 256 ^ k) = s.dmaRead (a + k)) ∧
      (s.tagPasses a = false → Completes (.jtagMemoryAccess a none) s fun t =>
        t = (s.occur (State.dmaTargetBank a) 4 none).emit (.jtag (some 0)))) ∧
    (reached true = true → State.takesWrite a = true → ∀ w, Completes (.jtagMemoryAccess a (some w)) s fun t =>
      (∀ k, k < 4 → t.dmaRead (a + k) = BitVec.ofNat 8 (w.toNat / 256 ^ k)) ∧
      (∀ x, x / 64 ≠ a / 64 → x / 64 ≠ (a + 3) / 64 → t.dmaRead x = s.dmaRead x) ∧
      (∀ x, x < a ∨ a + 4 ≤ x → (segmentOf x).isSome = true ∨ s.sealOf (x / 64) = some (s.sealFor (s.ownerAt x)) →
        t.dmaRead x = s.dmaRead x) ∧
      t = { s with routing := t.routing, mem := t.mem, store := t.store }) ∧
    (reached false = true → s.heldAt a = false → targetAt a ≠ Target.registers → targetAt a ≠ Target.recorderRing →
      Completes (.jtagMemoryAccess a none) s fun t => ∃ v, t = { s with freeCtr := t.freeCtr, out := .jtag (some v) :: s.out })) ∧
  (∀ s l o, s.jtagLevel = some l → 2 ≤ l → o < 0x100000 →
    (s.regRead 0 o = none →
      (Completes (.jtagMemoryAccess (0x80000000000 + o) none) s fun t => t = (s.occur 1 0 none).emit (.jtag (some 0))) ∧
      ∀ w, Completes (.jtagMemoryAccess (0x80000000000 + o) (some w)) s fun t => t = s.occur 1 0 none) ∧
    (∀ v, s.regRead 0 o = some v →
      (Completes (.jtagMemoryAccess (0x80000000000 + o) none) s fun t => t = (s.rcRead 0 o).emit (.jtag (some v.toNat))) ∧
      ∀ w, Completes (.jtagMemoryAccess (0x80000000000 + o) (some w)) s fun t =>
        t = ((s.pfWrite 0 o w.toNat).or (s.globalReg o w.toNat)).getD s)) ∧
  (∀ s, s.jtagLevel = some 3 → s.lcc.state ≠ .testOpen → s.lcc.state ≠ .returned →
    (∀ a b, a < 8 → Completes (.factoryBist a b) s fun t => t = s.emit (.jtag none)) ∧
    (∀ a x w, a < 5 → Completes (.factoryDirectAccess a x w) s fun t => t = s.emit (.jtag none))) ∧
  (∀ s, s.jtagLevel = some 3 → s.lcc.state = .testOpen ∨ s.lcc.state = .returned →
    let u := if s.lcc.factory then s else (s.modLcc fun x => { x with factory := true }).storeLost
    (∀ a b, a < 8 → Completes (.factoryBist a b) s fun t => t = u.emit (.jtag (some (if b then 1 else 0))) ∧ t.lcc.ledger = s.lcc.ledger) ∧
    (∀ x w, Completes (.factoryDirectAccess 4 x (some w)) s fun t => t = u) ∧
    (∀ x, x < 64 → Completes (.factoryDirectAccess 4 x none) s fun t =>
      t = u.emit (.jtag (some ((s.lcc.ledger.map (·.toNat)).getD x 0)))) ∧
    (∀ a x w, a < 4 → Completes (.factoryDirectAccess a x (some w)) s fun t =>
      t.lcc.arrays = ((a, x), w) :: (u.lcc.arrays.filter fun e => e.1 ≠ (a, x)) ∧
      t = { u with lcc := { u.lcc with arrays := t.lcc.arrays } }) ∧
    (∀ a x v rest, a < 4 → s.lcc.arrays = ((a, x), v) :: rest → Completes (.factoryDirectAccess a x none) s fun t =>
      t = u.emit (.jtag (some v.toNat))) ∧
    (s.lcc.factory = false → u.mem = [] ∧ u.store.keys = [] ∧ u.keys.cache = [] ∧ (∀ g, (u.saggar g).residence = [])))

/-- R10, R54, R55, R59, R69, R480.
Choices of the model met here (DESIGN CHOICE, DEDUCED or PRESUMED): log 104, 131, 140. -/
def Obligations.RegisterReadsThatChangeState : Prop :=
  (∀ s i o v, i < 1024 → s.answers i = true → s.regRead i o = some v →
    (Completes (.rcRegisterRead i o) s fun t => t = (s.rcRead i o).emit (.barRead i o v)) ∧
    Completes (.barUnmappedAccess i true o) s fun t => t = (s.rcRead i o).emit (.barRead i o v)) ∧
  (∀ s i o, i < 1024 → s.answers i = true → s.regRead i o = none →
    (Completes (.rcRegisterRead i o) s fun t => t = (s.violation i violUnmapped).emit (.barRead i o 0)) ∧
    Completes (.barUnmappedAccess i true o) s fun t => t = (s.violation i violUnmapped).emit (.barRead i o 0)) ∧
  (∀ s i o, i < 1024 → s.answers i = false →
    ((s.fn i).flr = true → s.present i = true → Completes (.rcRegisterRead i o) s fun t => t = s.emit (.barRead i o 0)) ∧
    ((s.fn i).flr = false ∨ s.present i = false → NoEffect (.rcRegisterRead i o) s ∧ NoEffect (.rtcLoRead i) s)) ∧
  (let rc := [0x40010, 0x40014, 0x60028, 0x70014, 0x70018, 0x9001C, 0x90104, 0x90108, 0xBE024, 0xD0020, 0xD0024, 0xD0028, 0xD2010, 0xD2014,
      0xD2018, 0xD201C, 0xD2020, 0xD2024]
   ∀ (s : State) i, s.isPf i = true →
    (∀ o ∈ rc, (s.rcRead i o).regRead i o = some 0) ∧
    (∀ o, o ∉ rc → o ≠ 0x208 → o ≠ 0xB0024 → (∀ q < 8, o ≠ 0x2034 + 0x100 * q) → (∀ k < 8, o ≠ 0x100C + 0x200 * k) →
      (∀ g < 256, o ≠ 0x9018 + 0x40 * g) → (∀ c < 32, o ≠ 0xC001C + 0x100 * c) → s.rcRead i o = s) ∧
    s.regRead i 0x40010 = some s.log.dropped ∧ s.rcRead i 0x40010 = s.modLog (fun l => { l with dropped := 0 }) ∧
    s.regRead i 0x40014 = some s.log.skipped ∧ s.rcRead i 0x40014 = s.modLog (fun l => { l with skipped := 0 }) ∧
    s.regRead i 0xD0020 = some s.routing.routed ∧ s.rcRead i 0xD0020 = s.modRouting (fun r => { r with routed := 0 }) ∧
    s.regRead i 0xD0024 = some s.routing.noRoute ∧ s.rcRead i 0xD0024 = s.modRouting (fun r => { r with noRoute := 0 }) ∧
    s.regRead i 0xD0028 = some s.routing.malformed ∧ s.rcRead i 0xD0028 = s.modRouting (fun r => { r with malformed := 0 }) ∧
    s.regRead i 0xD2010 = some s.keys.hit ∧ s.rcRead i 0xD2010 = s.modKeys (fun k => { k with hit := 0 }) ∧
    s.regRead i 0xD2014 = some s.keys.miss ∧ s.rcRead i 0xD2014 = s.modKeys (fun k => { k with miss := 0 }) ∧
    s.regRead i 0xD2018 = some s.keys.relearn ∧ s.rcRead i 0xD2018 = s.modKeys (fun k => { k with relearn := 0 }) ∧
    s.regRead i 0xD201C = some s.keys.evict ∧ s.rcRead i 0xD201C = s.modKeys (fun k => { k with evict := 0 }) ∧
    s.regRead i 0x70014 = some s.ent.waits ∧ s.rcRead i 0x70014 = s.modEnt (fun e => { e with waits := 0 }) ∧
    (∃ v : Word, s.regRead i 0x60028 = some v ∧ field v.toNat 0 16 = s.tmp.fabric.toNat ∧ field v.toNat 16 16 = s.tmp.decision.toNat) ∧
    s.rcRead i 0x60028 = s.modTmp (fun t => { t with fabric := 0, decision := 0 }) ∧
    (∀ q, q < 8 → s.regRead i (0x2034 + 0x100 * q) = some (s.ring i q).dropped ∧
      s.rcRead i (0x2034 + 0x100 * q) = s.modRing i q fun r => { r with dropped := 0 }) ∧
    (∀ k, k < 8 → s.regRead i (0x100C + 0x200 * k) = some (s.box i k).dropped ∧
      s.rcRead i (0x100C + 0x200 * k) = s.modBox i k fun b => { b with dropped := 0 }) ∧
    (∀ c, c < 32 → s.regRead i (0xC001C + 0x100 * c) = some (s.chan c).bad ∧
      s.rcRead i (0xC001C + 0x100 * c) = s.modChan c fun x => { x with bad := 0 }) ∧
    (∀ w, s.windowFn i = some w → s.regRead i 0x208 = some (s.fn w).staleCnt ∧
      s.rcRead i 0x208 = s.modFn w fun f => { f with staleCnt := 0 })) ∧
  (∀ (s : State) i, s.isPf i = false →
    s.regRead i 0x3008 = some (s.fn i).staleCnt ∧ s.rcRead i 0x3008 = s.modFn i (fun f => { f with staleCnt := 0 }) ∧
    (∀ q, q < 8 → s.regRead i (0x34 + 0x100 * q) = some (s.ring i q).dropped ∧
      s.rcRead i (0x34 + 0x100 * q) = s.modRing i q fun r => { r with dropped := 0 }) ∧
    s.regRead i 0x100C = some (s.box i 0).dropped ∧ s.rcRead i 0x100C = s.modBox i 0 (fun b => { b with dropped := 0 }) ∧
    s.regRead i 0x40010 = none) ∧
  (∀ s i, i < 1024 → s.answers i = true → s.isPf i = true → Completes (.rtcLoRead i) s fun t =>
    t.sys.rtcHi.toNat = s.sys.rtc.toNat / 2 ^ 32 ∧ t.sys.rtc = s.sys.rtc ∧
    (∃ v : Word, v.toNat = s.sys.rtc.toNat % 2 ^ 32 ∧ t.out = .barRead i 0xB0024 v :: s.out) ∧
    t = { s with sys := { s.sys with rtcHi := t.sys.rtcHi }, out := t.out }) ∧
  (∀ s i, i < 1024 → s.answers i = true → s.isPf i = false → Completes (.rtcLoRead i) s fun t =>
    t = (s.violation i violUnmapped).emit (.barRead i 0xB0024 0))

/-- R3, R10, R11, R47, R53, R55, R71, R101, R126, R154, R313, R415. That an offset without a register of its own is unmapped is a choice (log 140).
Choices of the model met here (DESIGN CHOICE, DEDUCED or PRESUMED): log 64, 140. -/
def Obligations.RegistersReadTheirFields : Prop :=
  (∀ (s : State) i, s.isPf i = true →
    (∀ o ∈ [0x5E004, 0x60004, 0x80008, 0x80010, 0x80014, 0x80018, 0x8001C, 0xD0008], s.regRead i o = some 0) ∧
    (∀ q, q < 8 → s.regRead i (0x2800 + 0x100 * q) = some 0 ∧ s.regRead i (0x2804 + 0x100 * q) = some 0) ∧
    (∀ k, k < 8 → s.regRead i (0x1000 + 0x200 * k) = some 0) ∧
    (∀ o, (0x24 ≤ o ∧ o < 0x100) ∨ (0x244 ≤ o ∧ o < 0x1000) ∨ (0x3000 ≤ o ∧ o < 0x4000) ∨ (0xE0000 ≤ o ∧ o < 0xF0000) ∨ 0xF1020 ≤ o →
      s.regRead i o = none) ∧
    s.regRead i 0 = some (wordOf [(Config.part, 0), (Config.stepping, 8)]) ∧
    s.regRead i 4 = some (wordOf [(Config.kilnsOffered, 0), (Config.sparesOffered, 7), (Config.storeGib, 16), (b2n Config.x16, 24)]) ∧
    (∃ v : Word, s.regRead i 0x14 = some v ∧ v.toNat = b2n s.host.ownerB + 2 * b2n s.host.ideRequired) ∧
    (∃ v : Word, s.regRead i 0x18 = some v ∧ field v.toNat 0 16 = s.host.violLimit.toNat ∧ field v.toNat 16 16 = s.host.violWindowMs.toNat) ∧
    (∃ v : Word, s.regRead i 0x60010 = some v ∧ v.toNat = s.tmp.alarm.toNat) ∧
    (∃ v : Word, s.regRead i 0x4000 = some v ∧ v.toNat = s.setter.quantum.toNat) ∧
    (∀ g, g < 256 → (s.saggar g).state = .none → s.regRead i (0x9008 + 0x40 * g) = some 0) ∧
    (∀ g, g < 256 → (s.saggar g).state ≠ .none → ∃ v : Word, s.regRead i (0x9008 + 0x40 * g) = some v ∧
      field v.toNat 0 16 = (s.saggar g).epoch.toNat ∧ bitAt v.toNat 16 = (s.saggar g).busy ∧ bitAt v.toNat 17 = (s.saggar g).mixed ∧
      v.toNat < 2 ^ 18) ∧
    (∀ k, k < 68 → (s.kiln k).state = .absent → s.regRead i (0x10008 + 0x400 * k) = some 0) ∧
    (∀ k, k < 68 → (s.kiln k).state ≠ .absent → ∃ v : Word, s.regRead i (0x10008 + 0x400 * k) = some v ∧
      field v.toNat 0 5 = (s.kiln k).freq.toNat ∧ field v.toNat 8 6 = (s.kiln k).volt.toNat ∧ v.toNat < 2 ^ 14) ∧
    (∀ b, isBank b = true → s.regRead i (0x50000 + 0x200 * b) = some (if s.bankLive b then (s.bank b).sticky else 0)) ∧
    (∀ q, q < 8 → ∃ v w : Word, s.regRead i (0x2004 + 0x100 * q) = some v ∧ s.regRead i (0x2008 + 0x100 * q) = some w ∧
      v.toNat + 2 ^ 32 * w.toNat = (s.ring i q).sqBase.toNat) ∧
    (∀ k n, k < 8 → n < 112 → (s.box i k).state = .posted ∨ (s.box i k).state = .busy →
      s.regRead i (0x1040 + 0x200 * k + 4 * n) = some 0) ∧
    (∀ k n, k < 8 → n < 112 → (s.box i k).state ≠ .posted → (s.box i k).state ≠ .busy → ∃ v : Word,
      s.regRead i (0x1040 + 0x200 * k + 4 * n) = some v ∧ v.toNat = leAt (s.box i k).data (4 * n) 4) ∧
    (s.windowFn i = none → ∀ o, 0x200 ≤ o → o < 0x244 → s.regRead i o = none)) ∧
  (∀ (s : State) i, s.isPf i = false →
    (∀ o, 0x301C ≤ o → s.regRead i o = none) ∧
    ((s.fn i).bound = none → s.regRead i 0x3000 = some 0) ∧
    (∀ g, g < 256 → (s.fn i).bound = some g → ∃ v : Word, s.regRead i 0x3000 = some v ∧ v.toNat = g + 2 ^ 31) ∧
    (∃ v : Word, s.regRead i 0x300C = some v ∧ v.toNat = (s.fn i).viol.toNat) ∧
    (∀ e, e < 16 → s.regRead i (0x2008 + 0x10 * e) = some ((s.fn i).entry e).data) ∧
    (∀ q, q < 8 → s.regRead i (0x800 + 0x100 * q) = some 0))

/-- R10, R54, R69, R97, R313, R485, R511.
Choices of the model met here (DESIGN CHOICE, DEDUCED or PRESUMED): log 64, 104, 140. -/
def Obligations.RegisterWrites : Prop :=
  (∀ s i o v, i < 1024 → s.answers i = false → NoEffect (.registerWrite i o v) s) ∧
  (∀ s i o (v : Word), i < 1024 → s.answers i = true → s.regRead i o = none →
    Completes (.registerWrite i o v) s fun t => t = s.violation i violUnmapped) ∧
  (∀ s i o (v : Word), i < 1024 → s.answers i = true → s.isPf i = true → (s.regRead i o).isSome = true → s.pfWrite i o v.toNat = none →
    (∀ u, s.globalReg o v.toNat = some u →
      Completes (.registerWrite i o v) s fun t => t = if s.ownerPf = i then u else s.violation i violUnmapped) ∧
    (s.globalReg o v.toNat = none → NoEffect (.registerWrite i o v) s)) ∧
  (∀ s i o (v : Word), i < 1024 → s.answers i = true → s.isPf i = false → (s.regRead i o).isSome = true →
    Completes (.registerWrite i o v) s fun t => t = s.vfWrite i o v.toNat) ∧
  (∀ s i (v : Word), i < 1024 → s.answers i = true → s.isPf i = true → s.ownerPf = i →
    (Completes (.registerWrite i 0x4000 v) s fun t =>
      t.setter.quantum.toNat = max 1 (v.toNat % 4096) ∧ t = { s with setter := { s.setter with quantum := t.setter.quantum } }) ∧
    (Completes (.registerWrite i 0x4004 v) s fun t =>
      t.setter.slack.toNat = v.toNat % 32 ∧ t.setter.kqLimit = max 16 (v.toNat / 256 % 128) ∧
      t.setter.preemptMax = max 1 (v.toNat / 65536 % 16) ∧
      t = { s with setter := { s.setter with
        slack := t.setter.slack, kqLimit := t.setter.kqLimit, preemptMax := t.setter.preemptMax } }) ∧
    (∀ g, g < 64 → Completes (.registerWrite i (0x5000 + 0x80 * g) v) s fun t =>
      mget 1 t.setter.weights g = max 1 (v.toNat % 256) ∧ (∀ h, h ≠ g → mget 1 t.setter.weights h = mget 1 s.setter.weights h) ∧
      t = { s with setter := { s.setter with weights := t.setter.weights } }) ∧
    (Completes (.registerWrite i 0x40018 v) s fun t =>
      (∀ b < 4, t.log.irq.getLsbD b = (s.log.irq.getLsbD b && !v.getLsbD b)) ∧ t = { s with log := { s.log with irq := t.log.irq } }) ∧
    (Completes (.registerWrite i 0x40020 v) s fun t =>
      t.log.periodMs = max 10 (v.toNat % 4096) ∧ t.log.paceUs = max 1 (v.toNat / 65536 % 4096) ∧
      t = { s with log := { s.log with periodMs := t.log.periodMs, paceUs := t.log.paceUs } }) ∧
    (Completes (.registerWrite i 0x40024 v) s fun t =>
      t.log.rate = max 1 (v.toNat % 256) ∧ t.log.burst = max t.log.rate (v.toNat / 256 % 65536) ∧
      t = { s with log := { s.log with rate := t.log.rate, burst := t.log.burst } }) ∧
    (Completes (.registerWrite i 0x70004 v) s fun t =>
      t.ent.waitMs = min 1000 (v.toNat % 1024) ∧ t = { s with ent := { s.ent with waitMs := t.ent.waitMs } }) ∧
    (Completes (.registerWrite i 0x7000C v) s fun t =>
      (∀ b, t.ent.irq.getLsbD b = (s.ent.irq.getLsbD b && !v.getLsbD b)) ∧ t = { s with ent := { s.ent with irq := t.ent.irq } }) ∧
    (∀ n, n < 4 → Completes (.registerWrite i (0x80010 + 4 * n) v) s fun t =>
      t.lcc.token = s.lcc.token.set n v ∧ t = { s with lcc := { s.lcc with token := t.lcc.token } }) ∧
    (Completes (.registerWrite i 0x9000C v) s fun t =>
      t.mir.warmKilns = min 64 (max 1 (v.toNat % 128)) ∧ t = { s with mir := { s.mir with warmKilns := t.mir.warmKilns } }) ∧
    (Completes (.registerWrite i 0xB000C v) s fun t =>
      t.sys.parkEnable = v.getLsbD 0 ∧ t.sys.minAwake = min 64 (max 1 (v.toNat / 256 % 128)) ∧
      t = { s with sys := { s.sys with parkEnable := t.sys.parkEnable, minAwake := t.sys.minAwake } }) ∧
    (Completes (.registerWrite i 0xD0004 v) s fun t =>
      t.routing.lockMaxMs.toNat = max 1 (v.toNat % 65536) ∧
      t = { s with routing := { s.routing with lockMaxMs := t.routing.lockMaxMs } }) ∧
    (Completes (.registerWrite i 0xD0010 v) s fun t =>
      t.routing.segSel.toNat = v.toNat % 2 ^ 18 ∧ t = { s with routing := { s.routing with segSel := t.routing.segSel } }) ∧
    (∀ b n, b < 100 → n < 32 → faultSev b n ≠ 0 → s.bankLive b = true → Completes (.registerWrite i (0x50100 + 0x200 * b + 4 * n) v) s fun t =>
      mget 0 (t.bank b).react n = BitVec.ofNat 5 v.toNat ∧ (∀ x, x ≠ b → t.bank x = s.bank x) ∧ t = { s with flt := t.flt }) ∧
    (∀ c, 8 ≤ c → c < 32 → (s.chan c).lent = true →
      ((s.chan c).state = .disabled → Completes (.registerWrite i (0xC0008 + 0x100 * c) v) s fun t =>
        (t.chan c).ring.toNat = (s.chan c).ring.toNat / 2 ^ 32 * 2 ^ 32 + v.toNat / 64 * 64 ∧ (∀ x, x ≠ c → t.chan x = s.chan x) ∧
        t = { s with dma := t.dma }) ∧
      ((s.chan c).state ≠ .disabled → NoEffect (.registerWrite i (0xC0008 + 0x100 * c) v) s))) ∧
  (∀ s i (v : Word), i < 1024 → s.answers i = true → s.isPf i = true →
    (Completes (.registerWrite i 0x100 v) s fun t =>
      (t.port (s.portOf i)).fnSel.toNat = v.toNat % 1024 ∧ (t.port (!s.portOf i)).fnSel = (s.port (!s.portOf i)).fnSel ∧
      t = { s with host := t.host }) ∧
    (∀ q, q < 8 → Completes (.registerWrite i (0x2004 + 0x100 * q) v) s fun t =>
      (t.ring i q).sqBase.toNat = (if (s.ring i q).state = .disabled then
        (s.ring i q).sqBase.toNat / 2 ^ 32 * 2 ^ 32 + v.toNat / 4096 * 4096 else (s.ring i q).sqBase.toNat) ∧
      (∀ j p, 8 * j + p ≠ 8 * i + q → t.ring j p = s.ring j p) ∧ t = { s with host := t.host }) ∧
    (∀ k n, k < 8 → n < 112 →
      ((s.box i k).state = .idle ∨ (s.box i k).state = .done → Completes (.registerWrite i (0x1040 + 0x200 * k + 4 * n) v) s fun t =>
        (t.box i k).data = (padTo 448 (s.box i k).data).take (4 * n) ++ leBytes v.toNat 4 ++ (padTo 448 (s.box i k).data).drop (4 * n + 4) ∧
        (t.box i k).dropped = (s.box i k).dropped ∧ t = { s with mbx := { s.mbx with boxes := t.mbx.boxes } }) ∧
      ((s.box i k).state ≠ .idle → (s.box i k).state ≠ .done → Completes (.registerWrite i (0x1040 + 0x200 * k + 4 * n) v) s fun t =>
        (t.box i k).data = (s.box i k).data ∧ (t.box i k).dropped = satInc (s.box i k).dropped ∧
        t = { s with mbx := { s.mbx with boxes := t.mbx.boxes } }))) ∧
  (∀ s i (v : Word), i < 1024 → s.answers i = true → s.isPf i = false →
    (Completes (.registerWrite i 0x300C v) s fun t =>
      (∀ b, (t.fn i).viol.getLsbD b = ((s.fn i).viol.getLsbD b && !v.getLsbD b)) ∧
      (∀ j, j ≠ i → t.fn j = s.fn j) ∧ t = { s with host := t.host }) ∧
    (Completes (.registerWrite i 0x3018 v) s fun t =>
      (∀ b, (t.fn i).irqCause.getLsbD b = ((s.fn i).irqCause.getLsbD b && !v.getLsbD b)) ∧
      (∀ j, j ≠ i → t.fn j = s.fn j) ∧ t = { s with host := t.host }) ∧
    (∀ e, e < 16 → Completes (.registerWrite i (0x2008 + 0x10 * e) v) s fun t =>
      (mget {} (t.fn i).msix e).data = v ∧ (mget {} (t.fn i).msix e).addr = (mget {} (s.fn i).msix e).addr ∧
      (∀ j, j ≠ i → t.fn j = s.fn j) ∧ t = { s with host := t.host }))

/-- The queue, and the idle tick of log entry 1 (R479). -/
def Obligations.StepTakesTheFrontCommand : Prop :=
  (∀ (s : State) c rest, s.pending = c :: rest → step s = exec c { s with pending := rest }) ∧
  (∀ (s : State), s.pending = [] → s.sys.backup = true → step s = .next (s.modSys fun m => { m with rtc := m.rtc + 1 })) ∧
  (∀ (s : State), s.pending = [] → s.sys.backup = false → step s = .next s)

/-- R54, R97, R313, R322, R414, R465, R480, R481, R511 (register tables). Values the spec leaves open are the log's.
Choices of the model met here (DESIGN CHOICE, DEDUCED or PRESUMED): log 1, 4, 11. -/
def Obligations.ResetState : Prop :=
  let s := State.reset
  modeCode s.sys.mode = 1 ∧ s.sys.bootStep = 0 ∧ s.sys.parkEnable = true ∧ s.sys.minAwake = 16 ∧
  s.tmp.govern = 0 ∧ s.tmp.alarm = 0 ∧ s.tmp.halted = false ∧ s.flt.grave = false ∧ s.flt.parity = false ∧
  s.host.ownerB = false ∧ s.host.portA.ready = false ∧ s.host.portB.ready = false ∧ s.host.violLimit = 0x40 ∧
  (∀ i q, (s.ring i q).state = .disabled) ∧ (∀ i k, (s.box i k).state = .idle) ∧
  (∀ c, (s.chan c).state = .disabled ∧ (s.chan c).lent = false ∧ (s.chan c).log2 = 4 ∧ (s.chan c).pollUs = 10) ∧
  s.setter.quantum = 0x40 ∧ s.setter.slack = 4 ∧ s.setter.kqLimit = 0x30 ∧ s.setter.preemptMax = 8 ∧ s.setter.wares = [] ∧
  s.log.periodMs = 1000 ∧ s.log.paceUs = 100 ∧ s.log.unsettled = [] ∧ s.lcc.ledger = [] ∧ s.lcc.state = .blank ∧
  s.keys.hearth = 0 ∧ s.keys.cache = [] ∧ s.routing.rows = [] ∧ s.ent.seeds = [] ∧ s.ent.rctC = 0 ∧ s.store.keys = [] ∧ s.store.total = 0 ∧ s.mir.session = [] ∧
  Memory.wf s.mem ∧ s.pending = []

/-- R48, R73, R147, R311, R389, R415, R500: which units exist. That a command to none of them changes nothing is log entry 8. -/
def Obligations.EveryCommandCompletes : Prop :=
  (∀ (c : Instr) (s : State), Completes c s fun t => t.pending = s.pending) ∧
  (∀ (c : Instr) (s : State), c.wf = false → NoEffect c s)

/-- R470, whole: the boot's ninth step, where no bank's parity failed during the boot (R427 sends that one to SAFE) and the live and
the latched response are not one GUARD and the other ERASE (ResetsAndBoot states both). Where the last kiln is fenced, R460 and R466
take SERVICE on to DRAIN. -/
def Obligations.BootModes : Prop :=
  ∀ s ms, s.sys.mode = .boot → s.sys.bootStep = 7 → s.tmp.halted = false → s.flt.paritySafe = false →
    (s.tmp.govern = 2 → s.tmp.latchResp ≤ 2) → (s.tmp.latchResp = 2 → s.tmp.govern ≤ 2) →
    let plain := s.lcc.state = .personalised ∨ s.lcc.state = .field ∨ s.lcc.state = .fieldService
    let toSafe := s.flt.grave = true ∨ s.tmp.govern = 2 ∨ s.tmp.latchResp = 2
    let toErased := 3 ≤ s.tmp.govern ∨ 3 ≤ s.tmp.latchResp ∨ s.sys.hearthMade = true ∨ (s.loadMasters.saggar 0).state = .none
    let verified := s.mir.pair.isSome = true ∧ s.sys.pairOk = true
    Completes (.bootEnd ms) s fun t =>
      (s.lcc.state = .blank ∨ s.lcc.state = .testOpen ∨ s.lcc.state = .testSealed ∨ s.lcc.state = .returned → t.sys.mode = .safe) ∧
      (s.lcc.state = .scrapped ∨ s.lcc.state = .invalid → t.sys.mode = .erased) ∧
      (plain → toSafe → t.sys.mode = .safe) ∧
      (plain → ¬ toSafe → toErased → t.sys.mode = .erased) ∧
      (plain → ¬ toSafe → ¬ toErased → verified → t.sys.mode = .standby) ∧
      (plain → ¬ toSafe → ¬ toErased → ¬ verified → s.cone.lastLost = false → t.sys.mode = .service) ∧
      (plain → ¬ toSafe → ¬ toErased → ¬ verified → s.cone.lastLost = true → t.sys.mode = .drain ∧ t.sys.prev = .service) ∧
      (s.mir.pair.isSome = true → s.sys.pairOk = false → t.mir.pair = none ∧ t.mir.link = .unpaired)

/-- R486, whole: what any write that is not refused has met, and what the slot it burns uses up. -/
def Obligations.TransitionsThatExist : Prop :=
  (∀ (s : State) code facts, s.lcRefusal code facts = none → ∃ st sel,
    lcTarget code = some st ∧ lcSelector st = some sel ∧
    (s.lcc.state, st) ∈ [(LcState.blank, LcState.testOpen), (.testOpen, .testSealed), (.testSealed, .testOpen),
      (.testSealed, .personalised), (.personalised, .field), (.field, .fieldService), (.fieldService, .field),
      (.fieldService, .returned), (.blank, .scrapped), (.testOpen, .scrapped), (.testSealed, .scrapped), (.personalised, .scrapped),
      (.returned, .scrapped), (.field, .scrapped), (.fieldService, .scrapped)] ∧
    (st = .testOpen → s.testUsed < 16 ∧ padTo 32 (Config.sha256 s.tokenBytes) = padTo 32 (Config.testTokenDigest s.testUsed)) ∧
    (st = .personalised → facts.certificate = true) ∧
    (st = .fieldService → (∀ g < 256, (s.saggar g).state = .none) ∧ s.lcc.purpose = 1 ∧ s.fsUsed < 8 ∧
      ∃ e rest, s.cus.journal = e :: rest ∧ crKind e.record = 6 ∧ e.outcome = some Mr.OK) ∧
    (st = .returned → s.lcc.purpose = 2) ∧
    (st = .scrapped → s.lcc.state = .field ∨ s.lcc.state = .fieldService → s.sys.mode = .erased)) ∧
  (∀ (s : State) code facts, s.lcc.state = .scrapped ∨ s.lcc.state = .invalid → ∃ o, s.lcRefusal code facts = some o) ∧
  (∀ (s : State) facts, s.lcc.state = .returned → ∃ o, s.lcRefusal 4 facts = some o) ∧
  (∀ (s : State) code st sel facts, s.lcRefusal code facts = none → lcTarget code = some st → lcSelector st = some sel →
    facts.secondOk = true → facts.confirmed = true → facts.stopped = false → facts.readBack = BitVec.allOnes 128 →
    let t := s.writeXstate code facts
    t.lcc.ledger = s.lcc.ledger ++ [lcCodeword sel] ∧ t.testUsed = s.testUsed + (if st = .testOpen then 1 else 0) ∧
    t.fsUsed = s.fsUsed + (if st = .fieldService then 1 else 0)) ∧
  (∀ (s : State) code facts, s.lcRefusal code facts ≠ none → (s.writeXstate code facts).lcc.ledger = s.lcc.ledger)

/-- R505, whole, with the fields of R503 and the equality and overlap of R504. -/
def Obligations.DescriptorFormCheck : Prop :=
  ∀ s c d, 8 ≤ c → c < 32 → s.dmaLive c = true → (s.chan c).reading = true → byteAt d 0 % 2 = 1 →
    let form :=
      byteAt d 0 < 8 ∧ byteAt d 1 < 16 ∧ byteAt d 2 < 4 ∧ leAt d 56 8 = 0 ∧ byteAt d 1 % 4 < 2 ∧ byteAt d 1 / 4 % 4 < 2 ∧
      1 ≤ leAt d 24 4 ∧ leAt d 24 4 ≤ 2 ^ 24 ∧ 1 ≤ leAt d 28 4 ∧ leAt d 28 4 ≤ 65536 ∧
      1 ≤ leAt d 36 4 ∧ leAt d 36 4 ≤ 2 ^ 24 ∧ 1 ≤ leAt d 40 4 ∧ leAt d 40 4 ≤ 65536 ∧
      leAt d 36 4 * leAt d 40 4 = leAt d 24 4 * leAt d 28 4 ∧ leAt d 24 4 * leAt d 28 4 ≤ 2 ^ 30 ∧
      (leAt d 40 4 = 1 ∨ leAt d 36 4 ≤ leAt d 44 4)
    Completes (.dmaSlotReadDone c d) s fun t =>
      (form → ((t.chan c).state = .running ∨ (t.chan c).state = .preempted) ∧ (t.chan c).desc = d ∧ t.mem = s.mem ∧ t.routing = s.routing ∧ t.host = s.host ∧
        t.out = s.out) ∧
      (¬ form → (t.chan c).state = .idle ∧ (t.chan c).lastCause = 4 ∧ (t.chan c).bad = satInc (s.chan c).bad ∧
        (t.chan c).done = (s.chan c).done ∧ (t.chan c).index = ((s.chan c).index + 1) % 2 ^ (s.chan c).log2 ∧
        t.mem = s.mem ∧ t.routing = s.routing ∧
        ((s.fn (s.chan c).fn).queue = [] → (s.fn (s.chan c).fn).dpl.enable = false →
          Out.hostWrite (s.chan c).fn ((s.chan c).ring.toNat + 64 * (s.chan c).index)
            [byte (byteAt d 0 / 2 * 2), byte (byteAt d 1), byte (byteAt d 2), byte 0x42, 0, 0, 0, 0] ∈ t.out))

/-- R482, R483, R485, R488: what one step can do to the ledger. -/
def Obligations.LedgerIsAppendOnly : Prop :=
  ∀ s t, step s = .next t →
    t.lcc.ledger = s.lcc.ledger ∨
    ∃ fn code jtag facts rest st sel w, s.pending = .lifecycleTransition fn code jtag facts :: rest ∧
      ({ s with pending := rest } : State).lcRefusal code facts = none ∧ lcTarget code = some st ∧ lcSelector st = some sel ∧
      t.lcc.ledger = s.lcc.ledger ++ [w] ∧ w &&& lcCodeword sel = w ∧ w ≠ 0

/-- R482 (at most 52 slots), R484 to R487, R489.
Choices of the model met here (DESIGN CHOICE, DEDUCED or PRESUMED): log 18. -/
def Obligations.LedgerNeverFills : Prop :=
  let sound := fun (s : State) =>
    s.lcc.ledger.length ≤ 52 ∧ (s.lcc.pending = false → s.lcc.state = lcDecode s.lcc.ledger) ∧
    (lcDecode s.lcc.ledger ≠ .invalid →
      (∀ w rest, s.lcc.ledger = w :: rest → lcOfSlot w = some .testOpen ∨ lcOfSlot w = some .scrapped) ∧
      s.testUsed ≤ 16 ∧ s.fsUsed ≤ 8)
  sound State.reset ∧ ∀ s t, sound s → step s = .next t → sound t

/-- R390, R400, R412, R428, R468, R471. -/
def Obligations.EraseHaltHolds : Prop :=
  ∀ s t, s.tmp.halted = true → 4 ≤ s.tmp.govern → step s = .next t →
    (∀ facts rest, s.pending ≠ .powerOn facts :: rest) → (∀ rest, s.pending ≠ .mainRailLoss :: rest) →
    t.tmp.halted = true ∧ 4 ≤ t.tmp.govern

/-- R32, R324, R401, R504: the memory of the staging pages. -/
def Obligations.StagingStaysCanonical : Prop :=
  Memory.wf State.reset.mem ∧ ∀ s t, Memory.wf s.mem → step s = .next t → Memory.wf t.mem

/-- R333, R336, R338, R473 row 2. -/
def Obligations.RollbackNeverFalls : Prop :=
  ∀ s t, step s = .next t → s.fw.rollback ≤ t.fw.rollback ∧
    (t.fw.rollback ≠ s.fw.rollback → ∃ fn mailbox rest, s.pending = .imageCommit fn mailbox :: rest)
end

