-- ==== Sys2Proof/Laws/State.lean ====
section
/-! SUPPORT. One lemma per field per update of the state: what an update sets, and that it leaves every other field alone. -/

namespace Sys2Proof.Machine.State

@[simp] theorem modMir_mir (s : State) (f : Mirror → Mirror) : (s.modMir f).mir = f s.mir := rfl
@[simp] theorem modMir_host (s : State) (f : Mirror → Mirror) : (s.modMir f).host = s.host := rfl
@[simp] theorem modMir_setter (s : State) (f : Mirror → Mirror) : (s.modMir f).setter = s.setter := rfl
@[simp] theorem modMir_kilns (s : State) (f : Mirror → Mirror) : (s.modMir f).kilns = s.kilns := rfl
@[simp] theorem modMir_wheels (s : State) (f : Mirror → Mirror) : (s.modMir f).wheels = s.wheels := rfl
@[simp] theorem modMir_keys (s : State) (f : Mirror → Mirror) : (s.modMir f).keys = s.keys := rfl
@[simp] theorem modMir_routing (s : State) (f : Mirror → Mirror) : (s.modMir f).routing = s.routing := rfl
@[simp] theorem modMir_ent (s : State) (f : Mirror → Mirror) : (s.modMir f).ent = s.ent := rfl
@[simp] theorem modMir_mbx (s : State) (f : Mirror → Mirror) : (s.modMir f).mbx = s.mbx := rfl
@[simp] theorem modMir_fw (s : State) (f : Mirror → Mirror) : (s.modMir f).fw = s.fw := rfl
@[simp] theorem modMir_cus (s : State) (f : Mirror → Mirror) : (s.modMir f).cus = s.cus := rfl
@[simp] theorem modMir_tmp (s : State) (f : Mirror → Mirror) : (s.modMir f).tmp = s.tmp := rfl
@[simp] theorem modMir_flt (s : State) (f : Mirror → Mirror) : (s.modMir f).flt = s.flt := rfl
@[simp] theorem modMir_log (s : State) (f : Mirror → Mirror) : (s.modMir f).log = s.log := rfl
@[simp] theorem modMir_cone (s : State) (f : Mirror → Mirror) : (s.modMir f).cone = s.cone := rfl
@[simp] theorem modMir_sys (s : State) (f : Mirror → Mirror) : (s.modMir f).sys = s.sys := rfl
@[simp] theorem modMir_lcc (s : State) (f : Mirror → Mirror) : (s.modMir f).lcc = s.lcc := rfl
@[simp] theorem modMir_dma (s : State) (f : Mirror → Mirror) : (s.modMir f).dma = s.dma := rfl
@[simp] theorem modMir_store (s : State) (f : Mirror → Mirror) : (s.modMir f).store = s.store := rfl
@[simp] theorem modMir_mem (s : State) (f : Mirror → Mirror) : (s.modMir f).mem = s.mem := rfl
@[simp] theorem modMir_freeCtr (s : State) (f : Mirror → Mirror) : (s.modMir f).freeCtr = s.freeCtr := rfl
@[simp] theorem modMir_out (s : State) (f : Mirror → Mirror) : (s.modMir f).out = s.out := rfl
@[simp] theorem modMir_pending (s : State) (f : Mirror → Mirror) : (s.modMir f).pending = s.pending := rfl

@[simp] theorem modTmp_tmp (s : State) (f : Tamper → Tamper) : (s.modTmp f).tmp = f s.tmp := rfl
@[simp] theorem modTmp_host (s : State) (f : Tamper → Tamper) : (s.modTmp f).host = s.host := rfl
@[simp] theorem modTmp_setter (s : State) (f : Tamper → Tamper) : (s.modTmp f).setter = s.setter := rfl
@[simp] theorem modTmp_kilns (s : State) (f : Tamper → Tamper) : (s.modTmp f).kilns = s.kilns := rfl
@[simp] theorem modTmp_wheels (s : State) (f : Tamper → Tamper) : (s.modTmp f).wheels = s.wheels := rfl
@[simp] theorem modTmp_keys (s : State) (f : Tamper → Tamper) : (s.modTmp f).keys = s.keys := rfl
@[simp] theorem modTmp_routing (s : State) (f : Tamper → Tamper) : (s.modTmp f).routing = s.routing := rfl
@[simp] theorem modTmp_ent (s : State) (f : Tamper → Tamper) : (s.modTmp f).ent = s.ent := rfl
@[simp] theorem modTmp_mbx (s : State) (f : Tamper → Tamper) : (s.modTmp f).mbx = s.mbx := rfl
@[simp] theorem modTmp_fw (s : State) (f : Tamper → Tamper) : (s.modTmp f).fw = s.fw := rfl
@[simp] theorem modTmp_cus (s : State) (f : Tamper → Tamper) : (s.modTmp f).cus = s.cus := rfl
@[simp] theorem modTmp_mir (s : State) (f : Tamper → Tamper) : (s.modTmp f).mir = s.mir := rfl
@[simp] theorem modTmp_flt (s : State) (f : Tamper → Tamper) : (s.modTmp f).flt = s.flt := rfl
@[simp] theorem modTmp_log (s : State) (f : Tamper → Tamper) : (s.modTmp f).log = s.log := rfl
@[simp] theorem modTmp_cone (s : State) (f : Tamper → Tamper) : (s.modTmp f).cone = s.cone := rfl
@[simp] theorem modTmp_sys (s : State) (f : Tamper → Tamper) : (s.modTmp f).sys = s.sys := rfl
@[simp] theorem modTmp_lcc (s : State) (f : Tamper → Tamper) : (s.modTmp f).lcc = s.lcc := rfl
@[simp] theorem modTmp_dma (s : State) (f : Tamper → Tamper) : (s.modTmp f).dma = s.dma := rfl
@[simp] theorem modTmp_store (s : State) (f : Tamper → Tamper) : (s.modTmp f).store = s.store := rfl
@[simp] theorem modTmp_mem (s : State) (f : Tamper → Tamper) : (s.modTmp f).mem = s.mem := rfl
@[simp] theorem modTmp_freeCtr (s : State) (f : Tamper → Tamper) : (s.modTmp f).freeCtr = s.freeCtr := rfl
@[simp] theorem modTmp_out (s : State) (f : Tamper → Tamper) : (s.modTmp f).out = s.out := rfl
@[simp] theorem modTmp_pending (s : State) (f : Tamper → Tamper) : (s.modTmp f).pending = s.pending := rfl

@[simp] theorem modFlt_flt (s : State) (f : Faults → Faults) : (s.modFlt f).flt = f s.flt := rfl
@[simp] theorem modFlt_host (s : State) (f : Faults → Faults) : (s.modFlt f).host = s.host := rfl
@[simp] theorem modFlt_setter (s : State) (f : Faults → Faults) : (s.modFlt f).setter = s.setter := rfl
@[simp] theorem modFlt_kilns (s : State) (f : Faults → Faults) : (s.modFlt f).kilns = s.kilns := rfl
@[simp] theorem modFlt_wheels (s : State) (f : Faults → Faults) : (s.modFlt f).wheels = s.wheels := rfl
@[simp] theorem modFlt_keys (s : State) (f : Faults → Faults) : (s.modFlt f).keys = s.keys := rfl
@[simp] theorem modFlt_routing (s : State) (f : Faults → Faults) : (s.modFlt f).routing = s.routing := rfl
@[simp] theorem modFlt_ent (s : State) (f : Faults → Faults) : (s.modFlt f).ent = s.ent := rfl
@[simp] theorem modFlt_mbx (s : State) (f : Faults → Faults) : (s.modFlt f).mbx = s.mbx := rfl
@[simp] theorem modFlt_fw (s : State) (f : Faults → Faults) : (s.modFlt f).fw = s.fw := rfl
@[simp] theorem modFlt_cus (s : State) (f : Faults → Faults) : (s.modFlt f).cus = s.cus := rfl
@[simp] theorem modFlt_mir (s : State) (f : Faults → Faults) : (s.modFlt f).mir = s.mir := rfl
@[simp] theorem modFlt_tmp (s : State) (f : Faults → Faults) : (s.modFlt f).tmp = s.tmp := rfl
@[simp] theorem modFlt_log (s : State) (f : Faults → Faults) : (s.modFlt f).log = s.log := rfl
@[simp] theorem modFlt_cone (s : State) (f : Faults → Faults) : (s.modFlt f).cone = s.cone := rfl
@[simp] theorem modFlt_sys (s : State) (f : Faults → Faults) : (s.modFlt f).sys = s.sys := rfl
@[simp] theorem modFlt_lcc (s : State) (f : Faults → Faults) : (s.modFlt f).lcc = s.lcc := rfl
@[simp] theorem modFlt_dma (s : State) (f : Faults → Faults) : (s.modFlt f).dma = s.dma := rfl
@[simp] theorem modFlt_store (s : State) (f : Faults → Faults) : (s.modFlt f).store = s.store := rfl
@[simp] theorem modFlt_mem (s : State) (f : Faults → Faults) : (s.modFlt f).mem = s.mem := rfl
@[simp] theorem modFlt_freeCtr (s : State) (f : Faults → Faults) : (s.modFlt f).freeCtr = s.freeCtr := rfl
@[simp] theorem modFlt_out (s : State) (f : Faults → Faults) : (s.modFlt f).out = s.out := rfl
@[simp] theorem modFlt_pending (s : State) (f : Faults → Faults) : (s.modFlt f).pending = s.pending := rfl

@[simp] theorem modLog_log (s : State) (f : Recorder → Recorder) : (s.modLog f).log = f s.log := rfl
@[simp] theorem modLog_host (s : State) (f : Recorder → Recorder) : (s.modLog f).host = s.host := rfl
@[simp] theorem modLog_setter (s : State) (f : Recorder → Recorder) : (s.modLog f).setter = s.setter := rfl
@[simp] theorem modLog_kilns (s : State) (f : Recorder → Recorder) : (s.modLog f).kilns = s.kilns := rfl
@[simp] theorem modLog_wheels (s : State) (f : Recorder → Recorder) : (s.modLog f).wheels = s.wheels := rfl
@[simp] theorem modLog_keys (s : State) (f : Recorder → Recorder) : (s.modLog f).keys = s.keys := rfl
@[simp] theorem modLog_routing (s : State) (f : Recorder → Recorder) : (s.modLog f).routing = s.routing := rfl
@[simp] theorem modLog_ent (s : State) (f : Recorder → Recorder) : (s.modLog f).ent = s.ent := rfl
@[simp] theorem modLog_mbx (s : State) (f : Recorder → Recorder) : (s.modLog f).mbx = s.mbx := rfl
@[simp] theorem modLog_fw (s : State) (f : Recorder → Recorder) : (s.modLog f).fw = s.fw := rfl
@[simp] theorem modLog_cus (s : State) (f : Recorder → Recorder) : (s.modLog f).cus = s.cus := rfl
@[simp] theorem modLog_mir (s : State) (f : Recorder → Recorder) : (s.modLog f).mir = s.mir := rfl
@[simp] theorem modLog_tmp (s : State) (f : Recorder → Recorder) : (s.modLog f).tmp = s.tmp := rfl
@[simp] theorem modLog_flt (s : State) (f : Recorder → Recorder) : (s.modLog f).flt = s.flt := rfl
@[simp] theorem modLog_cone (s : State) (f : Recorder → Recorder) : (s.modLog f).cone = s.cone := rfl
@[simp] theorem modLog_sys (s : State) (f : Recorder → Recorder) : (s.modLog f).sys = s.sys := rfl
@[simp] theorem modLog_lcc (s : State) (f : Recorder → Recorder) : (s.modLog f).lcc = s.lcc := rfl
@[simp] theorem modLog_dma (s : State) (f : Recorder → Recorder) : (s.modLog f).dma = s.dma := rfl
@[simp] theorem modLog_store (s : State) (f : Recorder → Recorder) : (s.modLog f).store = s.store := rfl
@[simp] theorem modLog_mem (s : State) (f : Recorder → Recorder) : (s.modLog f).mem = s.mem := rfl
@[simp] theorem modLog_freeCtr (s : State) (f : Recorder → Recorder) : (s.modLog f).freeCtr = s.freeCtr := rfl
@[simp] theorem modLog_out (s : State) (f : Recorder → Recorder) : (s.modLog f).out = s.out := rfl
@[simp] theorem modLog_pending (s : State) (f : Recorder → Recorder) : (s.modLog f).pending = s.pending := rfl

@[simp] theorem modSys_sys (s : State) (f : Modes → Modes) : (s.modSys f).sys = f s.sys := rfl
@[simp] theorem modSys_host (s : State) (f : Modes → Modes) : (s.modSys f).host = s.host := rfl
@[simp] theorem modSys_setter (s : State) (f : Modes → Modes) : (s.modSys f).setter = s.setter := rfl
@[simp] theorem modSys_kilns (s : State) (f : Modes → Modes) : (s.modSys f).kilns = s.kilns := rfl
@[simp] theorem modSys_wheels (s : State) (f : Modes → Modes) : (s.modSys f).wheels = s.wheels := rfl
@[simp] theorem modSys_keys (s : State) (f : Modes → Modes) : (s.modSys f).keys = s.keys := rfl
@[simp] theorem modSys_routing (s : State) (f : Modes → Modes) : (s.modSys f).routing = s.routing := rfl
@[simp] theorem modSys_ent (s : State) (f : Modes → Modes) : (s.modSys f).ent = s.ent := rfl
@[simp] theorem modSys_mbx (s : State) (f : Modes → Modes) : (s.modSys f).mbx = s.mbx := rfl
@[simp] theorem modSys_fw (s : State) (f : Modes → Modes) : (s.modSys f).fw = s.fw := rfl
@[simp] theorem modSys_cus (s : State) (f : Modes → Modes) : (s.modSys f).cus = s.cus := rfl
@[simp] theorem modSys_mir (s : State) (f : Modes → Modes) : (s.modSys f).mir = s.mir := rfl
@[simp] theorem modSys_tmp (s : State) (f : Modes → Modes) : (s.modSys f).tmp = s.tmp := rfl
@[simp] theorem modSys_flt (s : State) (f : Modes → Modes) : (s.modSys f).flt = s.flt := rfl
@[simp] theorem modSys_log (s : State) (f : Modes → Modes) : (s.modSys f).log = s.log := rfl
@[simp] theorem modSys_cone (s : State) (f : Modes → Modes) : (s.modSys f).cone = s.cone := rfl
@[simp] theorem modSys_lcc (s : State) (f : Modes → Modes) : (s.modSys f).lcc = s.lcc := rfl
@[simp] theorem modSys_dma (s : State) (f : Modes → Modes) : (s.modSys f).dma = s.dma := rfl
@[simp] theorem modSys_store (s : State) (f : Modes → Modes) : (s.modSys f).store = s.store := rfl
@[simp] theorem modSys_mem (s : State) (f : Modes → Modes) : (s.modSys f).mem = s.mem := rfl
@[simp] theorem modSys_freeCtr (s : State) (f : Modes → Modes) : (s.modSys f).freeCtr = s.freeCtr := rfl
@[simp] theorem modSys_out (s : State) (f : Modes → Modes) : (s.modSys f).out = s.out := rfl
@[simp] theorem modSys_pending (s : State) (f : Modes → Modes) : (s.modSys f).pending = s.pending := rfl

@[simp] theorem modSetter_setter (s : State) (f : Setter → Setter) : (s.modSetter f).setter = f s.setter := rfl
@[simp] theorem modSetter_host (s : State) (f : Setter → Setter) : (s.modSetter f).host = s.host := rfl
@[simp] theorem modSetter_kilns (s : State) (f : Setter → Setter) : (s.modSetter f).kilns = s.kilns := rfl
@[simp] theorem modSetter_wheels (s : State) (f : Setter → Setter) : (s.modSetter f).wheels = s.wheels := rfl
@[simp] theorem modSetter_keys (s : State) (f : Setter → Setter) : (s.modSetter f).keys = s.keys := rfl
@[simp] theorem modSetter_routing (s : State) (f : Setter → Setter) : (s.modSetter f).routing = s.routing := rfl
@[simp] theorem modSetter_ent (s : State) (f : Setter → Setter) : (s.modSetter f).ent = s.ent := rfl
@[simp] theorem modSetter_mbx (s : State) (f : Setter → Setter) : (s.modSetter f).mbx = s.mbx := rfl
@[simp] theorem modSetter_fw (s : State) (f : Setter → Setter) : (s.modSetter f).fw = s.fw := rfl
@[simp] theorem modSetter_cus (s : State) (f : Setter → Setter) : (s.modSetter f).cus = s.cus := rfl
@[simp] theorem modSetter_mir (s : State) (f : Setter → Setter) : (s.modSetter f).mir = s.mir := rfl
@[simp] theorem modSetter_tmp (s : State) (f : Setter → Setter) : (s.modSetter f).tmp = s.tmp := rfl
@[simp] theorem modSetter_flt (s : State) (f : Setter → Setter) : (s.modSetter f).flt = s.flt := rfl
@[simp] theorem modSetter_log (s : State) (f : Setter → Setter) : (s.modSetter f).log = s.log := rfl
@[simp] theorem modSetter_cone (s : State) (f : Setter → Setter) : (s.modSetter f).cone = s.cone := rfl
@[simp] theorem modSetter_sys (s : State) (f : Setter → Setter) : (s.modSetter f).sys = s.sys := rfl
@[simp] theorem modSetter_lcc (s : State) (f : Setter → Setter) : (s.modSetter f).lcc = s.lcc := rfl
@[simp] theorem modSetter_dma (s : State) (f : Setter → Setter) : (s.modSetter f).dma = s.dma := rfl
@[simp] theorem modSetter_store (s : State) (f : Setter → Setter) : (s.modSetter f).store = s.store := rfl
@[simp] theorem modSetter_mem (s : State) (f : Setter → Setter) : (s.modSetter f).mem = s.mem := rfl
@[simp] theorem modSetter_freeCtr (s : State) (f : Setter → Setter) : (s.modSetter f).freeCtr = s.freeCtr := rfl
@[simp] theorem modSetter_out (s : State) (f : Setter → Setter) : (s.modSetter f).out = s.out := rfl
@[simp] theorem modSetter_pending (s : State) (f : Setter → Setter) : (s.modSetter f).pending = s.pending := rfl

@[simp] theorem modEnt_ent (s : State) (f : Entropy → Entropy) : (s.modEnt f).ent = f s.ent := rfl
@[simp] theorem modEnt_host (s : State) (f : Entropy → Entropy) : (s.modEnt f).host = s.host := rfl
@[simp] theorem modEnt_setter (s : State) (f : Entropy → Entropy) : (s.modEnt f).setter = s.setter := rfl
@[simp] theorem modEnt_kilns (s : State) (f : Entropy → Entropy) : (s.modEnt f).kilns = s.kilns := rfl
@[simp] theorem modEnt_wheels (s : State) (f : Entropy → Entropy) : (s.modEnt f).wheels = s.wheels := rfl
@[simp] theorem modEnt_keys (s : State) (f : Entropy → Entropy) : (s.modEnt f).keys = s.keys := rfl
@[simp] theorem modEnt_routing (s : State) (f : Entropy → Entropy) : (s.modEnt f).routing = s.routing := rfl
@[simp] theorem modEnt_mbx (s : State) (f : Entropy → Entropy) : (s.modEnt f).mbx = s.mbx := rfl
@[simp] theorem modEnt_fw (s : State) (f : Entropy → Entropy) : (s.modEnt f).fw = s.fw := rfl
@[simp] theorem modEnt_cus (s : State) (f : Entropy → Entropy) : (s.modEnt f).cus = s.cus := rfl
@[simp] theorem modEnt_mir (s : State) (f : Entropy → Entropy) : (s.modEnt f).mir = s.mir := rfl
@[simp] theorem modEnt_tmp (s : State) (f : Entropy → Entropy) : (s.modEnt f).tmp = s.tmp := rfl
@[simp] theorem modEnt_flt (s : State) (f : Entropy → Entropy) : (s.modEnt f).flt = s.flt := rfl
@[simp] theorem modEnt_log (s : State) (f : Entropy → Entropy) : (s.modEnt f).log = s.log := rfl
@[simp] theorem modEnt_cone (s : State) (f : Entropy → Entropy) : (s.modEnt f).cone = s.cone := rfl
@[simp] theorem modEnt_sys (s : State) (f : Entropy → Entropy) : (s.modEnt f).sys = s.sys := rfl
@[simp] theorem modEnt_lcc (s : State) (f : Entropy → Entropy) : (s.modEnt f).lcc = s.lcc := rfl
@[simp] theorem modEnt_dma (s : State) (f : Entropy → Entropy) : (s.modEnt f).dma = s.dma := rfl
@[simp] theorem modEnt_store (s : State) (f : Entropy → Entropy) : (s.modEnt f).store = s.store := rfl
@[simp] theorem modEnt_mem (s : State) (f : Entropy → Entropy) : (s.modEnt f).mem = s.mem := rfl
@[simp] theorem modEnt_freeCtr (s : State) (f : Entropy → Entropy) : (s.modEnt f).freeCtr = s.freeCtr := rfl
@[simp] theorem modEnt_out (s : State) (f : Entropy → Entropy) : (s.modEnt f).out = s.out := rfl
@[simp] theorem modEnt_pending (s : State) (f : Entropy → Entropy) : (s.modEnt f).pending = s.pending := rfl

@[simp] theorem modKeys_keys (s : State) (f : KeyStore → KeyStore) : (s.modKeys f).keys = f s.keys := rfl
@[simp] theorem modKeys_host (s : State) (f : KeyStore → KeyStore) : (s.modKeys f).host = s.host := rfl
@[simp] theorem modKeys_setter (s : State) (f : KeyStore → KeyStore) : (s.modKeys f).setter = s.setter := rfl
@[simp] theorem modKeys_kilns (s : State) (f : KeyStore → KeyStore) : (s.modKeys f).kilns = s.kilns := rfl
@[simp] theorem modKeys_wheels (s : State) (f : KeyStore → KeyStore) : (s.modKeys f).wheels = s.wheels := rfl
@[simp] theorem modKeys_routing (s : State) (f : KeyStore → KeyStore) : (s.modKeys f).routing = s.routing := rfl
@[simp] theorem modKeys_ent (s : State) (f : KeyStore → KeyStore) : (s.modKeys f).ent = s.ent := rfl
@[simp] theorem modKeys_mbx (s : State) (f : KeyStore → KeyStore) : (s.modKeys f).mbx = s.mbx := rfl
@[simp] theorem modKeys_fw (s : State) (f : KeyStore → KeyStore) : (s.modKeys f).fw = s.fw := rfl
@[simp] theorem modKeys_cus (s : State) (f : KeyStore → KeyStore) : (s.modKeys f).cus = s.cus := rfl
@[simp] theorem modKeys_mir (s : State) (f : KeyStore → KeyStore) : (s.modKeys f).mir = s.mir := rfl
@[simp] theorem modKeys_tmp (s : State) (f : KeyStore → KeyStore) : (s.modKeys f).tmp = s.tmp := rfl
@[simp] theorem modKeys_flt (s : State) (f : KeyStore → KeyStore) : (s.modKeys f).flt = s.flt := rfl
@[simp] theorem modKeys_log (s : State) (f : KeyStore → KeyStore) : (s.modKeys f).log = s.log := rfl
@[simp] theorem modKeys_cone (s : State) (f : KeyStore → KeyStore) : (s.modKeys f).cone = s.cone := rfl
@[simp] theorem modKeys_sys (s : State) (f : KeyStore → KeyStore) : (s.modKeys f).sys = s.sys := rfl
@[simp] theorem modKeys_lcc (s : State) (f : KeyStore → KeyStore) : (s.modKeys f).lcc = s.lcc := rfl
@[simp] theorem modKeys_dma (s : State) (f : KeyStore → KeyStore) : (s.modKeys f).dma = s.dma := rfl
@[simp] theorem modKeys_store (s : State) (f : KeyStore → KeyStore) : (s.modKeys f).store = s.store := rfl
@[simp] theorem modKeys_mem (s : State) (f : KeyStore → KeyStore) : (s.modKeys f).mem = s.mem := rfl
@[simp] theorem modKeys_freeCtr (s : State) (f : KeyStore → KeyStore) : (s.modKeys f).freeCtr = s.freeCtr := rfl
@[simp] theorem modKeys_out (s : State) (f : KeyStore → KeyStore) : (s.modKeys f).out = s.out := rfl
@[simp] theorem modKeys_pending (s : State) (f : KeyStore → KeyStore) : (s.modKeys f).pending = s.pending := rfl

@[simp] theorem modRouting_routing (s : State) (f : Routing → Routing) : (s.modRouting f).routing = f s.routing := rfl
@[simp] theorem modRouting_host (s : State) (f : Routing → Routing) : (s.modRouting f).host = s.host := rfl
@[simp] theorem modRouting_setter (s : State) (f : Routing → Routing) : (s.modRouting f).setter = s.setter := rfl
@[simp] theorem modRouting_kilns (s : State) (f : Routing → Routing) : (s.modRouting f).kilns = s.kilns := rfl
@[simp] theorem modRouting_wheels (s : State) (f : Routing → Routing) : (s.modRouting f).wheels = s.wheels := rfl
@[simp] theorem modRouting_keys (s : State) (f : Routing → Routing) : (s.modRouting f).keys = s.keys := rfl
@[simp] theorem modRouting_ent (s : State) (f : Routing → Routing) : (s.modRouting f).ent = s.ent := rfl
@[simp] theorem modRouting_mbx (s : State) (f : Routing → Routing) : (s.modRouting f).mbx = s.mbx := rfl
@[simp] theorem modRouting_fw (s : State) (f : Routing → Routing) : (s.modRouting f).fw = s.fw := rfl
@[simp] theorem modRouting_cus (s : State) (f : Routing → Routing) : (s.modRouting f).cus = s.cus := rfl
@[simp] theorem modRouting_mir (s : State) (f : Routing → Routing) : (s.modRouting f).mir = s.mir := rfl
@[simp] theorem modRouting_tmp (s : State) (f : Routing → Routing) : (s.modRouting f).tmp = s.tmp := rfl
@[simp] theorem modRouting_flt (s : State) (f : Routing → Routing) : (s.modRouting f).flt = s.flt := rfl
@[simp] theorem modRouting_log (s : State) (f : Routing → Routing) : (s.modRouting f).log = s.log := rfl
@[simp] theorem modRouting_cone (s : State) (f : Routing → Routing) : (s.modRouting f).cone = s.cone := rfl
@[simp] theorem modRouting_sys (s : State) (f : Routing → Routing) : (s.modRouting f).sys = s.sys := rfl
@[simp] theorem modRouting_lcc (s : State) (f : Routing → Routing) : (s.modRouting f).lcc = s.lcc := rfl
@[simp] theorem modRouting_dma (s : State) (f : Routing → Routing) : (s.modRouting f).dma = s.dma := rfl
@[simp] theorem modRouting_store (s : State) (f : Routing → Routing) : (s.modRouting f).store = s.store := rfl
@[simp] theorem modRouting_mem (s : State) (f : Routing → Routing) : (s.modRouting f).mem = s.mem := rfl
@[simp] theorem modRouting_freeCtr (s : State) (f : Routing → Routing) : (s.modRouting f).freeCtr = s.freeCtr := rfl
@[simp] theorem modRouting_out (s : State) (f : Routing → Routing) : (s.modRouting f).out = s.out := rfl
@[simp] theorem modRouting_pending (s : State) (f : Routing → Routing) : (s.modRouting f).pending = s.pending := rfl

@[simp] theorem modFw_fw (s : State) (f : Firmware → Firmware) : (s.modFw f).fw = f s.fw := rfl
@[simp] theorem modFw_host (s : State) (f : Firmware → Firmware) : (s.modFw f).host = s.host := rfl
@[simp] theorem modFw_setter (s : State) (f : Firmware → Firmware) : (s.modFw f).setter = s.setter := rfl
@[simp] theorem modFw_kilns (s : State) (f : Firmware → Firmware) : (s.modFw f).kilns = s.kilns := rfl
@[simp] theorem modFw_wheels (s : State) (f : Firmware → Firmware) : (s.modFw f).wheels = s.wheels := rfl
@[simp] theorem modFw_keys (s : State) (f : Firmware → Firmware) : (s.modFw f).keys = s.keys := rfl
@[simp] theorem modFw_routing (s : State) (f : Firmware → Firmware) : (s.modFw f).routing = s.routing := rfl
@[simp] theorem modFw_ent (s : State) (f : Firmware → Firmware) : (s.modFw f).ent = s.ent := rfl
@[simp] theorem modFw_mbx (s : State) (f : Firmware → Firmware) : (s.modFw f).mbx = s.mbx := rfl
@[simp] theorem modFw_cus (s : State) (f : Firmware → Firmware) : (s.modFw f).cus = s.cus := rfl
@[simp] theorem modFw_mir (s : State) (f : Firmware → Firmware) : (s.modFw f).mir = s.mir := rfl
@[simp] theorem modFw_tmp (s : State) (f : Firmware → Firmware) : (s.modFw f).tmp = s.tmp := rfl
@[simp] theorem modFw_flt (s : State) (f : Firmware → Firmware) : (s.modFw f).flt = s.flt := rfl
@[simp] theorem modFw_log (s : State) (f : Firmware → Firmware) : (s.modFw f).log = s.log := rfl
@[simp] theorem modFw_cone (s : State) (f : Firmware → Firmware) : (s.modFw f).cone = s.cone := rfl
@[simp] theorem modFw_sys (s : State) (f : Firmware → Firmware) : (s.modFw f).sys = s.sys := rfl
@[simp] theorem modFw_lcc (s : State) (f : Firmware → Firmware) : (s.modFw f).lcc = s.lcc := rfl
@[simp] theorem modFw_dma (s : State) (f : Firmware → Firmware) : (s.modFw f).dma = s.dma := rfl
@[simp] theorem modFw_store (s : State) (f : Firmware → Firmware) : (s.modFw f).store = s.store := rfl
@[simp] theorem modFw_mem (s : State) (f : Firmware → Firmware) : (s.modFw f).mem = s.mem := rfl
@[simp] theorem modFw_freeCtr (s : State) (f : Firmware → Firmware) : (s.modFw f).freeCtr = s.freeCtr := rfl
@[simp] theorem modFw_out (s : State) (f : Firmware → Firmware) : (s.modFw f).out = s.out := rfl
@[simp] theorem modFw_pending (s : State) (f : Firmware → Firmware) : (s.modFw f).pending = s.pending := rfl

@[simp] theorem modCone_cone (s : State) (f : Cones → Cones) : (s.modCone f).cone = f s.cone := rfl
@[simp] theorem modCone_host (s : State) (f : Cones → Cones) : (s.modCone f).host = s.host := rfl
@[simp] theorem modCone_setter (s : State) (f : Cones → Cones) : (s.modCone f).setter = s.setter := rfl
@[simp] theorem modCone_kilns (s : State) (f : Cones → Cones) : (s.modCone f).kilns = s.kilns := rfl
@[simp] theorem modCone_wheels (s : State) (f : Cones → Cones) : (s.modCone f).wheels = s.wheels := rfl
@[simp] theorem modCone_keys (s : State) (f : Cones → Cones) : (s.modCone f).keys = s.keys := rfl
@[simp] theorem modCone_routing (s : State) (f : Cones → Cones) : (s.modCone f).routing = s.routing := rfl
@[simp] theorem modCone_ent (s : State) (f : Cones → Cones) : (s.modCone f).ent = s.ent := rfl
@[simp] theorem modCone_mbx (s : State) (f : Cones → Cones) : (s.modCone f).mbx = s.mbx := rfl
@[simp] theorem modCone_fw (s : State) (f : Cones → Cones) : (s.modCone f).fw = s.fw := rfl
@[simp] theorem modCone_cus (s : State) (f : Cones → Cones) : (s.modCone f).cus = s.cus := rfl
@[simp] theorem modCone_mir (s : State) (f : Cones → Cones) : (s.modCone f).mir = s.mir := rfl
@[simp] theorem modCone_tmp (s : State) (f : Cones → Cones) : (s.modCone f).tmp = s.tmp := rfl
@[simp] theorem modCone_flt (s : State) (f : Cones → Cones) : (s.modCone f).flt = s.flt := rfl
@[simp] theorem modCone_log (s : State) (f : Cones → Cones) : (s.modCone f).log = s.log := rfl
@[simp] theorem modCone_sys (s : State) (f : Cones → Cones) : (s.modCone f).sys = s.sys := rfl
@[simp] theorem modCone_lcc (s : State) (f : Cones → Cones) : (s.modCone f).lcc = s.lcc := rfl
@[simp] theorem modCone_dma (s : State) (f : Cones → Cones) : (s.modCone f).dma = s.dma := rfl
@[simp] theorem modCone_store (s : State) (f : Cones → Cones) : (s.modCone f).store = s.store := rfl
@[simp] theorem modCone_mem (s : State) (f : Cones → Cones) : (s.modCone f).mem = s.mem := rfl
@[simp] theorem modCone_freeCtr (s : State) (f : Cones → Cones) : (s.modCone f).freeCtr = s.freeCtr := rfl
@[simp] theorem modCone_out (s : State) (f : Cones → Cones) : (s.modCone f).out = s.out := rfl
@[simp] theorem modCone_pending (s : State) (f : Cones → Cones) : (s.modCone f).pending = s.pending := rfl

@[simp] theorem modLcc_lcc (s : State) (f : Lifecycle → Lifecycle) : (s.modLcc f).lcc = f s.lcc := rfl
@[simp] theorem modLcc_host (s : State) (f : Lifecycle → Lifecycle) : (s.modLcc f).host = s.host := rfl
@[simp] theorem modLcc_setter (s : State) (f : Lifecycle → Lifecycle) : (s.modLcc f).setter = s.setter := rfl
@[simp] theorem modLcc_kilns (s : State) (f : Lifecycle → Lifecycle) : (s.modLcc f).kilns = s.kilns := rfl
@[simp] theorem modLcc_wheels (s : State) (f : Lifecycle → Lifecycle) : (s.modLcc f).wheels = s.wheels := rfl
@[simp] theorem modLcc_keys (s : State) (f : Lifecycle → Lifecycle) : (s.modLcc f).keys = s.keys := rfl
@[simp] theorem modLcc_routing (s : State) (f : Lifecycle → Lifecycle) : (s.modLcc f).routing = s.routing := rfl
@[simp] theorem modLcc_ent (s : State) (f : Lifecycle → Lifecycle) : (s.modLcc f).ent = s.ent := rfl
@[simp] theorem modLcc_mbx (s : State) (f : Lifecycle → Lifecycle) : (s.modLcc f).mbx = s.mbx := rfl
@[simp] theorem modLcc_fw (s : State) (f : Lifecycle → Lifecycle) : (s.modLcc f).fw = s.fw := rfl
@[simp] theorem modLcc_cus (s : State) (f : Lifecycle → Lifecycle) : (s.modLcc f).cus = s.cus := rfl
@[simp] theorem modLcc_mir (s : State) (f : Lifecycle → Lifecycle) : (s.modLcc f).mir = s.mir := rfl
@[simp] theorem modLcc_tmp (s : State) (f : Lifecycle → Lifecycle) : (s.modLcc f).tmp = s.tmp := rfl
@[simp] theorem modLcc_flt (s : State) (f : Lifecycle → Lifecycle) : (s.modLcc f).flt = s.flt := rfl
@[simp] theorem modLcc_log (s : State) (f : Lifecycle → Lifecycle) : (s.modLcc f).log = s.log := rfl
@[simp] theorem modLcc_cone (s : State) (f : Lifecycle → Lifecycle) : (s.modLcc f).cone = s.cone := rfl
@[simp] theorem modLcc_sys (s : State) (f : Lifecycle → Lifecycle) : (s.modLcc f).sys = s.sys := rfl
@[simp] theorem modLcc_dma (s : State) (f : Lifecycle → Lifecycle) : (s.modLcc f).dma = s.dma := rfl
@[simp] theorem modLcc_store (s : State) (f : Lifecycle → Lifecycle) : (s.modLcc f).store = s.store := rfl
@[simp] theorem modLcc_mem (s : State) (f : Lifecycle → Lifecycle) : (s.modLcc f).mem = s.mem := rfl
@[simp] theorem modLcc_freeCtr (s : State) (f : Lifecycle → Lifecycle) : (s.modLcc f).freeCtr = s.freeCtr := rfl
@[simp] theorem modLcc_out (s : State) (f : Lifecycle → Lifecycle) : (s.modLcc f).out = s.out := rfl
@[simp] theorem modLcc_pending (s : State) (f : Lifecycle → Lifecycle) : (s.modLcc f).pending = s.pending := rfl

@[simp] theorem modHost_host (s : State) (f : HostPort → HostPort) : (s.modHost f).host = f s.host := rfl
@[simp] theorem modHost_setter (s : State) (f : HostPort → HostPort) : (s.modHost f).setter = s.setter := rfl
@[simp] theorem modHost_kilns (s : State) (f : HostPort → HostPort) : (s.modHost f).kilns = s.kilns := rfl
@[simp] theorem modHost_wheels (s : State) (f : HostPort → HostPort) : (s.modHost f).wheels = s.wheels := rfl
@[simp] theorem modHost_keys (s : State) (f : HostPort → HostPort) : (s.modHost f).keys = s.keys := rfl
@[simp] theorem modHost_routing (s : State) (f : HostPort → HostPort) : (s.modHost f).routing = s.routing := rfl
@[simp] theorem modHost_ent (s : State) (f : HostPort → HostPort) : (s.modHost f).ent = s.ent := rfl
@[simp] theorem modHost_mbx (s : State) (f : HostPort → HostPort) : (s.modHost f).mbx = s.mbx := rfl
@[simp] theorem modHost_fw (s : State) (f : HostPort → HostPort) : (s.modHost f).fw = s.fw := rfl
@[simp] theorem modHost_cus (s : State) (f : HostPort → HostPort) : (s.modHost f).cus = s.cus := rfl
@[simp] theorem modHost_mir (s : State) (f : HostPort → HostPort) : (s.modHost f).mir = s.mir := rfl
@[simp] theorem modHost_tmp (s : State) (f : HostPort → HostPort) : (s.modHost f).tmp = s.tmp := rfl
@[simp] theorem modHost_flt (s : State) (f : HostPort → HostPort) : (s.modHost f).flt = s.flt := rfl
@[simp] theorem modHost_log (s : State) (f : HostPort → HostPort) : (s.modHost f).log = s.log := rfl
@[simp] theorem modHost_cone (s : State) (f : HostPort → HostPort) : (s.modHost f).cone = s.cone := rfl
@[simp] theorem modHost_sys (s : State) (f : HostPort → HostPort) : (s.modHost f).sys = s.sys := rfl
@[simp] theorem modHost_lcc (s : State) (f : HostPort → HostPort) : (s.modHost f).lcc = s.lcc := rfl
@[simp] theorem modHost_dma (s : State) (f : HostPort → HostPort) : (s.modHost f).dma = s.dma := rfl
@[simp] theorem modHost_store (s : State) (f : HostPort → HostPort) : (s.modHost f).store = s.store := rfl
@[simp] theorem modHost_mem (s : State) (f : HostPort → HostPort) : (s.modHost f).mem = s.mem := rfl
@[simp] theorem modHost_freeCtr (s : State) (f : HostPort → HostPort) : (s.modHost f).freeCtr = s.freeCtr := rfl
@[simp] theorem modHost_out (s : State) (f : HostPort → HostPort) : (s.modHost f).out = s.out := rfl
@[simp] theorem modHost_pending (s : State) (f : HostPort → HostPort) : (s.modHost f).pending = s.pending := rfl

@[simp] theorem modCus_cus (s : State) (f : Custodians → Custodians) : (s.modCus f).cus = f s.cus := rfl
@[simp] theorem modCus_host (s : State) (f : Custodians → Custodians) : (s.modCus f).host = s.host := rfl
@[simp] theorem modCus_setter (s : State) (f : Custodians → Custodians) : (s.modCus f).setter = s.setter := rfl
@[simp] theorem modCus_kilns (s : State) (f : Custodians → Custodians) : (s.modCus f).kilns = s.kilns := rfl
@[simp] theorem modCus_wheels (s : State) (f : Custodians → Custodians) : (s.modCus f).wheels = s.wheels := rfl
@[simp] theorem modCus_keys (s : State) (f : Custodians → Custodians) : (s.modCus f).keys = s.keys := rfl
@[simp] theorem modCus_routing (s : State) (f : Custodians → Custodians) : (s.modCus f).routing = s.routing := rfl
@[simp] theorem modCus_ent (s : State) (f : Custodians → Custodians) : (s.modCus f).ent = s.ent := rfl
@[simp] theorem modCus_mbx (s : State) (f : Custodians → Custodians) : (s.modCus f).mbx = s.mbx := rfl
@[simp] theorem modCus_fw (s : State) (f : Custodians → Custodians) : (s.modCus f).fw = s.fw := rfl
@[simp] theorem modCus_mir (s : State) (f : Custodians → Custodians) : (s.modCus f).mir = s.mir := rfl
@[simp] theorem modCus_tmp (s : State) (f : Custodians → Custodians) : (s.modCus f).tmp = s.tmp := rfl
@[simp] theorem modCus_flt (s : State) (f : Custodians → Custodians) : (s.modCus f).flt = s.flt := rfl
@[simp] theorem modCus_log (s : State) (f : Custodians → Custodians) : (s.modCus f).log = s.log := rfl
@[simp] theorem modCus_cone (s : State) (f : Custodians → Custodians) : (s.modCus f).cone = s.cone := rfl
@[simp] theorem modCus_sys (s : State) (f : Custodians → Custodians) : (s.modCus f).sys = s.sys := rfl
@[simp] theorem modCus_lcc (s : State) (f : Custodians → Custodians) : (s.modCus f).lcc = s.lcc := rfl
@[simp] theorem modCus_dma (s : State) (f : Custodians → Custodians) : (s.modCus f).dma = s.dma := rfl
@[simp] theorem modCus_store (s : State) (f : Custodians → Custodians) : (s.modCus f).store = s.store := rfl
@[simp] theorem modCus_mem (s : State) (f : Custodians → Custodians) : (s.modCus f).mem = s.mem := rfl
@[simp] theorem modCus_freeCtr (s : State) (f : Custodians → Custodians) : (s.modCus f).freeCtr = s.freeCtr := rfl
@[simp] theorem modCus_out (s : State) (f : Custodians → Custodians) : (s.modCus f).out = s.out := rfl
@[simp] theorem modCus_pending (s : State) (f : Custodians → Custodians) : (s.modCus f).pending = s.pending := rfl

@[simp] theorem modMbx_mbx (s : State) (f : Mailboxes → Mailboxes) : (s.modMbx f).mbx = f s.mbx := rfl
@[simp] theorem modMbx_host (s : State) (f : Mailboxes → Mailboxes) : (s.modMbx f).host = s.host := rfl
@[simp] theorem modMbx_setter (s : State) (f : Mailboxes → Mailboxes) : (s.modMbx f).setter = s.setter := rfl
@[simp] theorem modMbx_kilns (s : State) (f : Mailboxes → Mailboxes) : (s.modMbx f).kilns = s.kilns := rfl
@[simp] theorem modMbx_wheels (s : State) (f : Mailboxes → Mailboxes) : (s.modMbx f).wheels = s.wheels := rfl
@[simp] theorem modMbx_keys (s : State) (f : Mailboxes → Mailboxes) : (s.modMbx f).keys = s.keys := rfl
@[simp] theorem modMbx_routing (s : State) (f : Mailboxes → Mailboxes) : (s.modMbx f).routing = s.routing := rfl
@[simp] theorem modMbx_ent (s : State) (f : Mailboxes → Mailboxes) : (s.modMbx f).ent = s.ent := rfl
@[simp] theorem modMbx_fw (s : State) (f : Mailboxes → Mailboxes) : (s.modMbx f).fw = s.fw := rfl
@[simp] theorem modMbx_cus (s : State) (f : Mailboxes → Mailboxes) : (s.modMbx f).cus = s.cus := rfl
@[simp] theorem modMbx_mir (s : State) (f : Mailboxes → Mailboxes) : (s.modMbx f).mir = s.mir := rfl
@[simp] theorem modMbx_tmp (s : State) (f : Mailboxes → Mailboxes) : (s.modMbx f).tmp = s.tmp := rfl
@[simp] theorem modMbx_flt (s : State) (f : Mailboxes → Mailboxes) : (s.modMbx f).flt = s.flt := rfl
@[simp] theorem modMbx_log (s : State) (f : Mailboxes → Mailboxes) : (s.modMbx f).log = s.log := rfl
@[simp] theorem modMbx_cone (s : State) (f : Mailboxes → Mailboxes) : (s.modMbx f).cone = s.cone := rfl
@[simp] theorem modMbx_sys (s : State) (f : Mailboxes → Mailboxes) : (s.modMbx f).sys = s.sys := rfl
@[simp] theorem modMbx_lcc (s : State) (f : Mailboxes → Mailboxes) : (s.modMbx f).lcc = s.lcc := rfl
@[simp] theorem modMbx_dma (s : State) (f : Mailboxes → Mailboxes) : (s.modMbx f).dma = s.dma := rfl
@[simp] theorem modMbx_store (s : State) (f : Mailboxes → Mailboxes) : (s.modMbx f).store = s.store := rfl
@[simp] theorem modMbx_mem (s : State) (f : Mailboxes → Mailboxes) : (s.modMbx f).mem = s.mem := rfl
@[simp] theorem modMbx_freeCtr (s : State) (f : Mailboxes → Mailboxes) : (s.modMbx f).freeCtr = s.freeCtr := rfl
@[simp] theorem modMbx_out (s : State) (f : Mailboxes → Mailboxes) : (s.modMbx f).out = s.out := rfl
@[simp] theorem modMbx_pending (s : State) (f : Mailboxes → Mailboxes) : (s.modMbx f).pending = s.pending := rfl

@[simp] theorem modStore_store (s : State) (f : Store → Store) : (s.modStore f).store = f s.store := rfl
@[simp] theorem modStore_host (s : State) (f : Store → Store) : (s.modStore f).host = s.host := rfl
@[simp] theorem modStore_setter (s : State) (f : Store → Store) : (s.modStore f).setter = s.setter := rfl
@[simp] theorem modStore_kilns (s : State) (f : Store → Store) : (s.modStore f).kilns = s.kilns := rfl
@[simp] theorem modStore_wheels (s : State) (f : Store → Store) : (s.modStore f).wheels = s.wheels := rfl
@[simp] theorem modStore_keys (s : State) (f : Store → Store) : (s.modStore f).keys = s.keys := rfl
@[simp] theorem modStore_routing (s : State) (f : Store → Store) : (s.modStore f).routing = s.routing := rfl
@[simp] theorem modStore_ent (s : State) (f : Store → Store) : (s.modStore f).ent = s.ent := rfl
@[simp] theorem modStore_mbx (s : State) (f : Store → Store) : (s.modStore f).mbx = s.mbx := rfl
@[simp] theorem modStore_fw (s : State) (f : Store → Store) : (s.modStore f).fw = s.fw := rfl
@[simp] theorem modStore_cus (s : State) (f : Store → Store) : (s.modStore f).cus = s.cus := rfl
@[simp] theorem modStore_mir (s : State) (f : Store → Store) : (s.modStore f).mir = s.mir := rfl
@[simp] theorem modStore_tmp (s : State) (f : Store → Store) : (s.modStore f).tmp = s.tmp := rfl
@[simp] theorem modStore_flt (s : State) (f : Store → Store) : (s.modStore f).flt = s.flt := rfl
@[simp] theorem modStore_log (s : State) (f : Store → Store) : (s.modStore f).log = s.log := rfl
@[simp] theorem modStore_cone (s : State) (f : Store → Store) : (s.modStore f).cone = s.cone := rfl
@[simp] theorem modStore_sys (s : State) (f : Store → Store) : (s.modStore f).sys = s.sys := rfl
@[simp] theorem modStore_lcc (s : State) (f : Store → Store) : (s.modStore f).lcc = s.lcc := rfl
@[simp] theorem modStore_dma (s : State) (f : Store → Store) : (s.modStore f).dma = s.dma := rfl
@[simp] theorem modStore_mem (s : State) (f : Store → Store) : (s.modStore f).mem = s.mem := rfl
@[simp] theorem modStore_freeCtr (s : State) (f : Store → Store) : (s.modStore f).freeCtr = s.freeCtr := rfl
@[simp] theorem modStore_out (s : State) (f : Store → Store) : (s.modStore f).out = s.out := rfl
@[simp] theorem modStore_pending (s : State) (f : Store → Store) : (s.modStore f).pending = s.pending := rfl

@[simp] theorem setFn_setter (s : State) (i : Nat) (x : Fn) : (s.setFn i x).setter = s.setter := rfl
@[simp] theorem setFn_kilns (s : State) (i : Nat) (x : Fn) : (s.setFn i x).kilns = s.kilns := rfl
@[simp] theorem setFn_wheels (s : State) (i : Nat) (x : Fn) : (s.setFn i x).wheels = s.wheels := rfl
@[simp] theorem setFn_keys (s : State) (i : Nat) (x : Fn) : (s.setFn i x).keys = s.keys := rfl
@[simp] theorem setFn_routing (s : State) (i : Nat) (x : Fn) : (s.setFn i x).routing = s.routing := rfl
@[simp] theorem setFn_ent (s : State) (i : Nat) (x : Fn) : (s.setFn i x).ent = s.ent := rfl
@[simp] theorem setFn_mbx (s : State) (i : Nat) (x : Fn) : (s.setFn i x).mbx = s.mbx := rfl
@[simp] theorem setFn_fw (s : State) (i : Nat) (x : Fn) : (s.setFn i x).fw = s.fw := rfl
@[simp] theorem setFn_cus (s : State) (i : Nat) (x : Fn) : (s.setFn i x).cus = s.cus := rfl
@[simp] theorem setFn_mir (s : State) (i : Nat) (x : Fn) : (s.setFn i x).mir = s.mir := rfl
@[simp] theorem setFn_tmp (s : State) (i : Nat) (x : Fn) : (s.setFn i x).tmp = s.tmp := rfl
@[simp] theorem setFn_flt (s : State) (i : Nat) (x : Fn) : (s.setFn i x).flt = s.flt := rfl
@[simp] theorem setFn_log (s : State) (i : Nat) (x : Fn) : (s.setFn i x).log = s.log := rfl
@[simp] theorem setFn_cone (s : State) (i : Nat) (x : Fn) : (s.setFn i x).cone = s.cone := rfl
@[simp] theorem setFn_sys (s : State) (i : Nat) (x : Fn) : (s.setFn i x).sys = s.sys := rfl
@[simp] theorem setFn_lcc (s : State) (i : Nat) (x : Fn) : (s.setFn i x).lcc = s.lcc := rfl
@[simp] theorem setFn_dma (s : State) (i : Nat) (x : Fn) : (s.setFn i x).dma = s.dma := rfl
@[simp] theorem setFn_store (s : State) (i : Nat) (x : Fn) : (s.setFn i x).store = s.store := rfl
@[simp] theorem setFn_mem (s : State) (i : Nat) (x : Fn) : (s.setFn i x).mem = s.mem := rfl
@[simp] theorem setFn_freeCtr (s : State) (i : Nat) (x : Fn) : (s.setFn i x).freeCtr = s.freeCtr := rfl
@[simp] theorem setFn_out (s : State) (i : Nat) (x : Fn) : (s.setFn i x).out = s.out := rfl
@[simp] theorem setFn_pending (s : State) (i : Nat) (x : Fn) : (s.setFn i x).pending = s.pending := rfl

@[simp] theorem modFn_setter (s : State) (i : Nat) (g : Fn → Fn) : (s.modFn i g).setter = s.setter := rfl
@[simp] theorem modFn_kilns (s : State) (i : Nat) (g : Fn → Fn) : (s.modFn i g).kilns = s.kilns := rfl
@[simp] theorem modFn_wheels (s : State) (i : Nat) (g : Fn → Fn) : (s.modFn i g).wheels = s.wheels := rfl
@[simp] theorem modFn_keys (s : State) (i : Nat) (g : Fn → Fn) : (s.modFn i g).keys = s.keys := rfl
@[simp] theorem modFn_routing (s : State) (i : Nat) (g : Fn → Fn) : (s.modFn i g).routing = s.routing := rfl
@[simp] theorem modFn_ent (s : State) (i : Nat) (g : Fn → Fn) : (s.modFn i g).ent = s.ent := rfl
@[simp] theorem modFn_mbx (s : State) (i : Nat) (g : Fn → Fn) : (s.modFn i g).mbx = s.mbx := rfl
@[simp] theorem modFn_fw (s : State) (i : Nat) (g : Fn → Fn) : (s.modFn i g).fw = s.fw := rfl
@[simp] theorem modFn_cus (s : State) (i : Nat) (g : Fn → Fn) : (s.modFn i g).cus = s.cus := rfl
@[simp] theorem modFn_mir (s : State) (i : Nat) (g : Fn → Fn) : (s.modFn i g).mir = s.mir := rfl
@[simp] theorem modFn_tmp (s : State) (i : Nat) (g : Fn → Fn) : (s.modFn i g).tmp = s.tmp := rfl
@[simp] theorem modFn_flt (s : State) (i : Nat) (g : Fn → Fn) : (s.modFn i g).flt = s.flt := rfl
@[simp] theorem modFn_log (s : State) (i : Nat) (g : Fn → Fn) : (s.modFn i g).log = s.log := rfl
@[simp] theorem modFn_cone (s : State) (i : Nat) (g : Fn → Fn) : (s.modFn i g).cone = s.cone := rfl
@[simp] theorem modFn_sys (s : State) (i : Nat) (g : Fn → Fn) : (s.modFn i g).sys = s.sys := rfl
@[simp] theorem modFn_lcc (s : State) (i : Nat) (g : Fn → Fn) : (s.modFn i g).lcc = s.lcc := rfl
@[simp] theorem modFn_dma (s : State) (i : Nat) (g : Fn → Fn) : (s.modFn i g).dma = s.dma := rfl
@[simp] theorem modFn_store (s : State) (i : Nat) (g : Fn → Fn) : (s.modFn i g).store = s.store := rfl
@[simp] theorem modFn_mem (s : State) (i : Nat) (g : Fn → Fn) : (s.modFn i g).mem = s.mem := rfl
@[simp] theorem modFn_freeCtr (s : State) (i : Nat) (g : Fn → Fn) : (s.modFn i g).freeCtr = s.freeCtr := rfl
@[simp] theorem modFn_out (s : State) (i : Nat) (g : Fn → Fn) : (s.modFn i g).out = s.out := rfl
@[simp] theorem modFn_pending (s : State) (i : Nat) (g : Fn → Fn) : (s.modFn i g).pending = s.pending := rfl

@[simp] theorem modRing_setter (s : State) (i q : Nat) (g : Ring → Ring) : (s.modRing i q g).setter = s.setter := rfl
@[simp] theorem modRing_kilns (s : State) (i q : Nat) (g : Ring → Ring) : (s.modRing i q g).kilns = s.kilns := rfl
@[simp] theorem modRing_wheels (s : State) (i q : Nat) (g : Ring → Ring) : (s.modRing i q g).wheels = s.wheels := rfl
@[simp] theorem modRing_keys (s : State) (i q : Nat) (g : Ring → Ring) : (s.modRing i q g).keys = s.keys := rfl
@[simp] theorem modRing_routing (s : State) (i q : Nat) (g : Ring → Ring) : (s.modRing i q g).routing = s.routing := rfl
@[simp] theorem modRing_ent (s : State) (i q : Nat) (g : Ring → Ring) : (s.modRing i q g).ent = s.ent := rfl
@[simp] theorem modRing_mbx (s : State) (i q : Nat) (g : Ring → Ring) : (s.modRing i q g).mbx = s.mbx := rfl
@[simp] theorem modRing_fw (s : State) (i q : Nat) (g : Ring → Ring) : (s.modRing i q g).fw = s.fw := rfl
@[simp] theorem modRing_cus (s : State) (i q : Nat) (g : Ring → Ring) : (s.modRing i q g).cus = s.cus := rfl
@[simp] theorem modRing_mir (s : State) (i q : Nat) (g : Ring → Ring) : (s.modRing i q g).mir = s.mir := rfl
@[simp] theorem modRing_tmp (s : State) (i q : Nat) (g : Ring → Ring) : (s.modRing i q g).tmp = s.tmp := rfl
@[simp] theorem modRing_flt (s : State) (i q : Nat) (g : Ring → Ring) : (s.modRing i q g).flt = s.flt := rfl
@[simp] theorem modRing_log (s : State) (i q : Nat) (g : Ring → Ring) : (s.modRing i q g).log = s.log := rfl
@[simp] theorem modRing_cone (s : State) (i q : Nat) (g : Ring → Ring) : (s.modRing i q g).cone = s.cone := rfl
@[simp] theorem modRing_sys (s : State) (i q : Nat) (g : Ring → Ring) : (s.modRing i q g).sys = s.sys := rfl
@[simp] theorem modRing_lcc (s : State) (i q : Nat) (g : Ring → Ring) : (s.modRing i q g).lcc = s.lcc := rfl
@[simp] theorem modRing_dma (s : State) (i q : Nat) (g : Ring → Ring) : (s.modRing i q g).dma = s.dma := rfl
@[simp] theorem modRing_store (s : State) (i q : Nat) (g : Ring → Ring) : (s.modRing i q g).store = s.store := rfl
@[simp] theorem modRing_mem (s : State) (i q : Nat) (g : Ring → Ring) : (s.modRing i q g).mem = s.mem := rfl
@[simp] theorem modRing_freeCtr (s : State) (i q : Nat) (g : Ring → Ring) : (s.modRing i q g).freeCtr = s.freeCtr := rfl
@[simp] theorem modRing_out (s : State) (i q : Nat) (g : Ring → Ring) : (s.modRing i q g).out = s.out := rfl
@[simp] theorem modRing_pending (s : State) (i q : Nat) (g : Ring → Ring) : (s.modRing i q g).pending = s.pending := rfl

@[simp] theorem setRing_setter (s : State) (i q : Nat) (x : Ring) : (s.setRing i q x).setter = s.setter := rfl
@[simp] theorem setRing_kilns (s : State) (i q : Nat) (x : Ring) : (s.setRing i q x).kilns = s.kilns := rfl
@[simp] theorem setRing_wheels (s : State) (i q : Nat) (x : Ring) : (s.setRing i q x).wheels = s.wheels := rfl
@[simp] theorem setRing_keys (s : State) (i q : Nat) (x : Ring) : (s.setRing i q x).keys = s.keys := rfl
@[simp] theorem setRing_routing (s : State) (i q : Nat) (x : Ring) : (s.setRing i q x).routing = s.routing := rfl
@[simp] theorem setRing_ent (s : State) (i q : Nat) (x : Ring) : (s.setRing i q x).ent = s.ent := rfl
@[simp] theorem setRing_mbx (s : State) (i q : Nat) (x : Ring) : (s.setRing i q x).mbx = s.mbx := rfl
@[simp] theorem setRing_fw (s : State) (i q : Nat) (x : Ring) : (s.setRing i q x).fw = s.fw := rfl
@[simp] theorem setRing_cus (s : State) (i q : Nat) (x : Ring) : (s.setRing i q x).cus = s.cus := rfl
@[simp] theorem setRing_mir (s : State) (i q : Nat) (x : Ring) : (s.setRing i q x).mir = s.mir := rfl
@[simp] theorem setRing_tmp (s : State) (i q : Nat) (x : Ring) : (s.setRing i q x).tmp = s.tmp := rfl
@[simp] theorem setRing_flt (s : State) (i q : Nat) (x : Ring) : (s.setRing i q x).flt = s.flt := rfl
@[simp] theorem setRing_log (s : State) (i q : Nat) (x : Ring) : (s.setRing i q x).log = s.log := rfl
@[simp] theorem setRing_cone (s : State) (i q : Nat) (x : Ring) : (s.setRing i q x).cone = s.cone := rfl
@[simp] theorem setRing_sys (s : State) (i q : Nat) (x : Ring) : (s.setRing i q x).sys = s.sys := rfl
@[simp] theorem setRing_lcc (s : State) (i q : Nat) (x : Ring) : (s.setRing i q x).lcc = s.lcc := rfl
@[simp] theorem setRing_dma (s : State) (i q : Nat) (x : Ring) : (s.setRing i q x).dma = s.dma := rfl
@[simp] theorem setRing_store (s : State) (i q : Nat) (x : Ring) : (s.setRing i q x).store = s.store := rfl
@[simp] theorem setRing_mem (s : State) (i q : Nat) (x : Ring) : (s.setRing i q x).mem = s.mem := rfl
@[simp] theorem setRing_freeCtr (s : State) (i q : Nat) (x : Ring) : (s.setRing i q x).freeCtr = s.freeCtr := rfl
@[simp] theorem setRing_out (s : State) (i q : Nat) (x : Ring) : (s.setRing i q x).out = s.out := rfl
@[simp] theorem setRing_pending (s : State) (i q : Nat) (x : Ring) : (s.setRing i q x).pending = s.pending := rfl

@[simp] theorem modKiln_host (s : State) (k : Nat) (g : Kiln → Kiln) : (s.modKiln k g).host = s.host := rfl
@[simp] theorem modKiln_setter (s : State) (k : Nat) (g : Kiln → Kiln) : (s.modKiln k g).setter = s.setter := rfl
@[simp] theorem modKiln_wheels (s : State) (k : Nat) (g : Kiln → Kiln) : (s.modKiln k g).wheels = s.wheels := rfl
@[simp] theorem modKiln_keys (s : State) (k : Nat) (g : Kiln → Kiln) : (s.modKiln k g).keys = s.keys := rfl
@[simp] theorem modKiln_routing (s : State) (k : Nat) (g : Kiln → Kiln) : (s.modKiln k g).routing = s.routing := rfl
@[simp] theorem modKiln_ent (s : State) (k : Nat) (g : Kiln → Kiln) : (s.modKiln k g).ent = s.ent := rfl
@[simp] theorem modKiln_mbx (s : State) (k : Nat) (g : Kiln → Kiln) : (s.modKiln k g).mbx = s.mbx := rfl
@[simp] theorem modKiln_fw (s : State) (k : Nat) (g : Kiln → Kiln) : (s.modKiln k g).fw = s.fw := rfl
@[simp] theorem modKiln_cus (s : State) (k : Nat) (g : Kiln → Kiln) : (s.modKiln k g).cus = s.cus := rfl
@[simp] theorem modKiln_mir (s : State) (k : Nat) (g : Kiln → Kiln) : (s.modKiln k g).mir = s.mir := rfl
@[simp] theorem modKiln_tmp (s : State) (k : Nat) (g : Kiln → Kiln) : (s.modKiln k g).tmp = s.tmp := rfl
@[simp] theorem modKiln_flt (s : State) (k : Nat) (g : Kiln → Kiln) : (s.modKiln k g).flt = s.flt := rfl
@[simp] theorem modKiln_log (s : State) (k : Nat) (g : Kiln → Kiln) : (s.modKiln k g).log = s.log := rfl
@[simp] theorem modKiln_cone (s : State) (k : Nat) (g : Kiln → Kiln) : (s.modKiln k g).cone = s.cone := rfl
@[simp] theorem modKiln_sys (s : State) (k : Nat) (g : Kiln → Kiln) : (s.modKiln k g).sys = s.sys := rfl
@[simp] theorem modKiln_lcc (s : State) (k : Nat) (g : Kiln → Kiln) : (s.modKiln k g).lcc = s.lcc := rfl
@[simp] theorem modKiln_dma (s : State) (k : Nat) (g : Kiln → Kiln) : (s.modKiln k g).dma = s.dma := rfl
@[simp] theorem modKiln_store (s : State) (k : Nat) (g : Kiln → Kiln) : (s.modKiln k g).store = s.store := rfl
@[simp] theorem modKiln_mem (s : State) (k : Nat) (g : Kiln → Kiln) : (s.modKiln k g).mem = s.mem := rfl
@[simp] theorem modKiln_freeCtr (s : State) (k : Nat) (g : Kiln → Kiln) : (s.modKiln k g).freeCtr = s.freeCtr := rfl
@[simp] theorem modKiln_out (s : State) (k : Nat) (g : Kiln → Kiln) : (s.modKiln k g).out = s.out := rfl
@[simp] theorem modKiln_pending (s : State) (k : Nat) (g : Kiln → Kiln) : (s.modKiln k g).pending = s.pending := rfl

@[simp] theorem modWheel_host (s : State) (m : Nat) (g : WheelReg → WheelReg) : (s.modWheel m g).host = s.host := rfl
@[simp] theorem modWheel_setter (s : State) (m : Nat) (g : WheelReg → WheelReg) : (s.modWheel m g).setter = s.setter := rfl
@[simp] theorem modWheel_kilns (s : State) (m : Nat) (g : WheelReg → WheelReg) : (s.modWheel m g).kilns = s.kilns := rfl
@[simp] theorem modWheel_keys (s : State) (m : Nat) (g : WheelReg → WheelReg) : (s.modWheel m g).keys = s.keys := rfl
@[simp] theorem modWheel_routing (s : State) (m : Nat) (g : WheelReg → WheelReg) : (s.modWheel m g).routing = s.routing := rfl
@[simp] theorem modWheel_ent (s : State) (m : Nat) (g : WheelReg → WheelReg) : (s.modWheel m g).ent = s.ent := rfl
@[simp] theorem modWheel_mbx (s : State) (m : Nat) (g : WheelReg → WheelReg) : (s.modWheel m g).mbx = s.mbx := rfl
@[simp] theorem modWheel_fw (s : State) (m : Nat) (g : WheelReg → WheelReg) : (s.modWheel m g).fw = s.fw := rfl
@[simp] theorem modWheel_cus (s : State) (m : Nat) (g : WheelReg → WheelReg) : (s.modWheel m g).cus = s.cus := rfl
@[simp] theorem modWheel_mir (s : State) (m : Nat) (g : WheelReg → WheelReg) : (s.modWheel m g).mir = s.mir := rfl
@[simp] theorem modWheel_tmp (s : State) (m : Nat) (g : WheelReg → WheelReg) : (s.modWheel m g).tmp = s.tmp := rfl
@[simp] theorem modWheel_flt (s : State) (m : Nat) (g : WheelReg → WheelReg) : (s.modWheel m g).flt = s.flt := rfl
@[simp] theorem modWheel_log (s : State) (m : Nat) (g : WheelReg → WheelReg) : (s.modWheel m g).log = s.log := rfl
@[simp] theorem modWheel_cone (s : State) (m : Nat) (g : WheelReg → WheelReg) : (s.modWheel m g).cone = s.cone := rfl
@[simp] theorem modWheel_sys (s : State) (m : Nat) (g : WheelReg → WheelReg) : (s.modWheel m g).sys = s.sys := rfl
@[simp] theorem modWheel_lcc (s : State) (m : Nat) (g : WheelReg → WheelReg) : (s.modWheel m g).lcc = s.lcc := rfl
@[simp] theorem modWheel_dma (s : State) (m : Nat) (g : WheelReg → WheelReg) : (s.modWheel m g).dma = s.dma := rfl
@[simp] theorem modWheel_store (s : State) (m : Nat) (g : WheelReg → WheelReg) : (s.modWheel m g).store = s.store := rfl
@[simp] theorem modWheel_mem (s : State) (m : Nat) (g : WheelReg → WheelReg) : (s.modWheel m g).mem = s.mem := rfl
@[simp] theorem modWheel_freeCtr (s : State) (m : Nat) (g : WheelReg → WheelReg) : (s.modWheel m g).freeCtr = s.freeCtr := rfl
@[simp] theorem modWheel_out (s : State) (m : Nat) (g : WheelReg → WheelReg) : (s.modWheel m g).out = s.out := rfl
@[simp] theorem modWheel_pending (s : State) (m : Nat) (g : WheelReg → WheelReg) : (s.modWheel m g).pending = s.pending := rfl

@[simp] theorem modSaggar_host (s : State) (i : Nat) (g : Saggar → Saggar) : (s.modSaggar i g).host = s.host := rfl
@[simp] theorem modSaggar_setter (s : State) (i : Nat) (g : Saggar → Saggar) : (s.modSaggar i g).setter = s.setter := rfl
@[simp] theorem modSaggar_kilns (s : State) (i : Nat) (g : Saggar → Saggar) : (s.modSaggar i g).kilns = s.kilns := rfl
@[simp] theorem modSaggar_wheels (s : State) (i : Nat) (g : Saggar → Saggar) : (s.modSaggar i g).wheels = s.wheels := rfl
@[simp] theorem modSaggar_routing (s : State) (i : Nat) (g : Saggar → Saggar) : (s.modSaggar i g).routing = s.routing := rfl
@[simp] theorem modSaggar_ent (s : State) (i : Nat) (g : Saggar → Saggar) : (s.modSaggar i g).ent = s.ent := rfl
@[simp] theorem modSaggar_mbx (s : State) (i : Nat) (g : Saggar → Saggar) : (s.modSaggar i g).mbx = s.mbx := rfl
@[simp] theorem modSaggar_fw (s : State) (i : Nat) (g : Saggar → Saggar) : (s.modSaggar i g).fw = s.fw := rfl
@[simp] theorem modSaggar_cus (s : State) (i : Nat) (g : Saggar → Saggar) : (s.modSaggar i g).cus = s.cus := rfl
@[simp] theorem modSaggar_mir (s : State) (i : Nat) (g : Saggar → Saggar) : (s.modSaggar i g).mir = s.mir := rfl
@[simp] theorem modSaggar_tmp (s : State) (i : Nat) (g : Saggar → Saggar) : (s.modSaggar i g).tmp = s.tmp := rfl
@[simp] theorem modSaggar_flt (s : State) (i : Nat) (g : Saggar → Saggar) : (s.modSaggar i g).flt = s.flt := rfl
@[simp] theorem modSaggar_log (s : State) (i : Nat) (g : Saggar → Saggar) : (s.modSaggar i g).log = s.log := rfl
@[simp] theorem modSaggar_cone (s : State) (i : Nat) (g : Saggar → Saggar) : (s.modSaggar i g).cone = s.cone := rfl
@[simp] theorem modSaggar_sys (s : State) (i : Nat) (g : Saggar → Saggar) : (s.modSaggar i g).sys = s.sys := rfl
@[simp] theorem modSaggar_lcc (s : State) (i : Nat) (g : Saggar → Saggar) : (s.modSaggar i g).lcc = s.lcc := rfl
@[simp] theorem modSaggar_dma (s : State) (i : Nat) (g : Saggar → Saggar) : (s.modSaggar i g).dma = s.dma := rfl
@[simp] theorem modSaggar_store (s : State) (i : Nat) (g : Saggar → Saggar) : (s.modSaggar i g).store = s.store := rfl
@[simp] theorem modSaggar_mem (s : State) (i : Nat) (g : Saggar → Saggar) : (s.modSaggar i g).mem = s.mem := rfl
@[simp] theorem modSaggar_freeCtr (s : State) (i : Nat) (g : Saggar → Saggar) : (s.modSaggar i g).freeCtr = s.freeCtr := rfl
@[simp] theorem modSaggar_out (s : State) (i : Nat) (g : Saggar → Saggar) : (s.modSaggar i g).out = s.out := rfl
@[simp] theorem modSaggar_pending (s : State) (i : Nat) (g : Saggar → Saggar) : (s.modSaggar i g).pending = s.pending := rfl

@[simp] theorem setCache_host (s : State) (h : Nat) (e : Option CacheEntry) : (s.setCache h e).host = s.host := rfl
@[simp] theorem setCache_setter (s : State) (h : Nat) (e : Option CacheEntry) : (s.setCache h e).setter = s.setter := rfl
@[simp] theorem setCache_kilns (s : State) (h : Nat) (e : Option CacheEntry) : (s.setCache h e).kilns = s.kilns := rfl
@[simp] theorem setCache_wheels (s : State) (h : Nat) (e : Option CacheEntry) : (s.setCache h e).wheels = s.wheels := rfl
@[simp] theorem setCache_routing (s : State) (h : Nat) (e : Option CacheEntry) : (s.setCache h e).routing = s.routing := rfl
@[simp] theorem setCache_ent (s : State) (h : Nat) (e : Option CacheEntry) : (s.setCache h e).ent = s.ent := rfl
@[simp] theorem setCache_mbx (s : State) (h : Nat) (e : Option CacheEntry) : (s.setCache h e).mbx = s.mbx := rfl
@[simp] theorem setCache_fw (s : State) (h : Nat) (e : Option CacheEntry) : (s.setCache h e).fw = s.fw := rfl
@[simp] theorem setCache_cus (s : State) (h : Nat) (e : Option CacheEntry) : (s.setCache h e).cus = s.cus := rfl
@[simp] theorem setCache_mir (s : State) (h : Nat) (e : Option CacheEntry) : (s.setCache h e).mir = s.mir := rfl
@[simp] theorem setCache_tmp (s : State) (h : Nat) (e : Option CacheEntry) : (s.setCache h e).tmp = s.tmp := rfl
@[simp] theorem setCache_flt (s : State) (h : Nat) (e : Option CacheEntry) : (s.setCache h e).flt = s.flt := rfl
@[simp] theorem setCache_log (s : State) (h : Nat) (e : Option CacheEntry) : (s.setCache h e).log = s.log := rfl
@[simp] theorem setCache_cone (s : State) (h : Nat) (e : Option CacheEntry) : (s.setCache h e).cone = s.cone := rfl
@[simp] theorem setCache_sys (s : State) (h : Nat) (e : Option CacheEntry) : (s.setCache h e).sys = s.sys := rfl
@[simp] theorem setCache_lcc (s : State) (h : Nat) (e : Option CacheEntry) : (s.setCache h e).lcc = s.lcc := rfl
@[simp] theorem setCache_dma (s : State) (h : Nat) (e : Option CacheEntry) : (s.setCache h e).dma = s.dma := rfl
@[simp] theorem setCache_store (s : State) (h : Nat) (e : Option CacheEntry) : (s.setCache h e).store = s.store := rfl
@[simp] theorem setCache_mem (s : State) (h : Nat) (e : Option CacheEntry) : (s.setCache h e).mem = s.mem := rfl
@[simp] theorem setCache_freeCtr (s : State) (h : Nat) (e : Option CacheEntry) : (s.setCache h e).freeCtr = s.freeCtr := rfl
@[simp] theorem setCache_out (s : State) (h : Nat) (e : Option CacheEntry) : (s.setCache h e).out = s.out := rfl
@[simp] theorem setCache_pending (s : State) (h : Nat) (e : Option CacheEntry) : (s.setCache h e).pending = s.pending := rfl

@[simp] theorem setWare_host (s : State) (t : Nat) (w : Option Ware) : (s.setWare t w).host = s.host := rfl
@[simp] theorem setWare_kilns (s : State) (t : Nat) (w : Option Ware) : (s.setWare t w).kilns = s.kilns := rfl
@[simp] theorem setWare_wheels (s : State) (t : Nat) (w : Option Ware) : (s.setWare t w).wheels = s.wheels := rfl
@[simp] theorem setWare_keys (s : State) (t : Nat) (w : Option Ware) : (s.setWare t w).keys = s.keys := rfl
@[simp] theorem setWare_routing (s : State) (t : Nat) (w : Option Ware) : (s.setWare t w).routing = s.routing := rfl
@[simp] theorem setWare_ent (s : State) (t : Nat) (w : Option Ware) : (s.setWare t w).ent = s.ent := rfl
@[simp] theorem setWare_mbx (s : State) (t : Nat) (w : Option Ware) : (s.setWare t w).mbx = s.mbx := rfl
@[simp] theorem setWare_fw (s : State) (t : Nat) (w : Option Ware) : (s.setWare t w).fw = s.fw := rfl
@[simp] theorem setWare_cus (s : State) (t : Nat) (w : Option Ware) : (s.setWare t w).cus = s.cus := rfl
@[simp] theorem setWare_mir (s : State) (t : Nat) (w : Option Ware) : (s.setWare t w).mir = s.mir := rfl
@[simp] theorem setWare_tmp (s : State) (t : Nat) (w : Option Ware) : (s.setWare t w).tmp = s.tmp := rfl
@[simp] theorem setWare_flt (s : State) (t : Nat) (w : Option Ware) : (s.setWare t w).flt = s.flt := rfl
@[simp] theorem setWare_log (s : State) (t : Nat) (w : Option Ware) : (s.setWare t w).log = s.log := rfl
@[simp] theorem setWare_cone (s : State) (t : Nat) (w : Option Ware) : (s.setWare t w).cone = s.cone := rfl
@[simp] theorem setWare_sys (s : State) (t : Nat) (w : Option Ware) : (s.setWare t w).sys = s.sys := rfl
@[simp] theorem setWare_lcc (s : State) (t : Nat) (w : Option Ware) : (s.setWare t w).lcc = s.lcc := rfl
@[simp] theorem setWare_dma (s : State) (t : Nat) (w : Option Ware) : (s.setWare t w).dma = s.dma := rfl
@[simp] theorem setWare_store (s : State) (t : Nat) (w : Option Ware) : (s.setWare t w).store = s.store := rfl
@[simp] theorem setWare_mem (s : State) (t : Nat) (w : Option Ware) : (s.setWare t w).mem = s.mem := rfl
@[simp] theorem setWare_freeCtr (s : State) (t : Nat) (w : Option Ware) : (s.setWare t w).freeCtr = s.freeCtr := rfl
@[simp] theorem setWare_out (s : State) (t : Nat) (w : Option Ware) : (s.setWare t w).out = s.out := rfl
@[simp] theorem setWare_pending (s : State) (t : Nat) (w : Option Ware) : (s.setWare t w).pending = s.pending := rfl

@[simp] theorem modSegment_host (s : State) (i : Nat) (g : Segment → Segment) : (s.modSegment i g).host = s.host := rfl
@[simp] theorem modSegment_setter (s : State) (i : Nat) (g : Segment → Segment) : (s.modSegment i g).setter = s.setter := rfl
@[simp] theorem modSegment_kilns (s : State) (i : Nat) (g : Segment → Segment) : (s.modSegment i g).kilns = s.kilns := rfl
@[simp] theorem modSegment_wheels (s : State) (i : Nat) (g : Segment → Segment) : (s.modSegment i g).wheels = s.wheels := rfl
@[simp] theorem modSegment_keys (s : State) (i : Nat) (g : Segment → Segment) : (s.modSegment i g).keys = s.keys := rfl
@[simp] theorem modSegment_ent (s : State) (i : Nat) (g : Segment → Segment) : (s.modSegment i g).ent = s.ent := rfl
@[simp] theorem modSegment_mbx (s : State) (i : Nat) (g : Segment → Segment) : (s.modSegment i g).mbx = s.mbx := rfl
@[simp] theorem modSegment_fw (s : State) (i : Nat) (g : Segment → Segment) : (s.modSegment i g).fw = s.fw := rfl
@[simp] theorem modSegment_cus (s : State) (i : Nat) (g : Segment → Segment) : (s.modSegment i g).cus = s.cus := rfl
@[simp] theorem modSegment_mir (s : State) (i : Nat) (g : Segment → Segment) : (s.modSegment i g).mir = s.mir := rfl
@[simp] theorem modSegment_tmp (s : State) (i : Nat) (g : Segment → Segment) : (s.modSegment i g).tmp = s.tmp := rfl
@[simp] theorem modSegment_flt (s : State) (i : Nat) (g : Segment → Segment) : (s.modSegment i g).flt = s.flt := rfl
@[simp] theorem modSegment_log (s : State) (i : Nat) (g : Segment → Segment) : (s.modSegment i g).log = s.log := rfl
@[simp] theorem modSegment_cone (s : State) (i : Nat) (g : Segment → Segment) : (s.modSegment i g).cone = s.cone := rfl
@[simp] theorem modSegment_sys (s : State) (i : Nat) (g : Segment → Segment) : (s.modSegment i g).sys = s.sys := rfl
@[simp] theorem modSegment_lcc (s : State) (i : Nat) (g : Segment → Segment) : (s.modSegment i g).lcc = s.lcc := rfl
@[simp] theorem modSegment_dma (s : State) (i : Nat) (g : Segment → Segment) : (s.modSegment i g).dma = s.dma := rfl
@[simp] theorem modSegment_store (s : State) (i : Nat) (g : Segment → Segment) : (s.modSegment i g).store = s.store := rfl
@[simp] theorem modSegment_mem (s : State) (i : Nat) (g : Segment → Segment) : (s.modSegment i g).mem = s.mem := rfl
@[simp] theorem modSegment_freeCtr (s : State) (i : Nat) (g : Segment → Segment) : (s.modSegment i g).freeCtr = s.freeCtr := rfl
@[simp] theorem modSegment_out (s : State) (i : Nat) (g : Segment → Segment) : (s.modSegment i g).out = s.out := rfl
@[simp] theorem modSegment_pending (s : State) (i : Nat) (g : Segment → Segment) : (s.modSegment i g).pending = s.pending := rfl

@[simp] theorem modGrant_host (s : State) (i : Nat) (g : Grant → Grant) : (s.modGrant i g).host = s.host := rfl
@[simp] theorem modGrant_setter (s : State) (i : Nat) (g : Grant → Grant) : (s.modGrant i g).setter = s.setter := rfl
@[simp] theorem modGrant_kilns (s : State) (i : Nat) (g : Grant → Grant) : (s.modGrant i g).kilns = s.kilns := rfl
@[simp] theorem modGrant_wheels (s : State) (i : Nat) (g : Grant → Grant) : (s.modGrant i g).wheels = s.wheels := rfl
@[simp] theorem modGrant_keys (s : State) (i : Nat) (g : Grant → Grant) : (s.modGrant i g).keys = s.keys := rfl
@[simp] theorem modGrant_ent (s : State) (i : Nat) (g : Grant → Grant) : (s.modGrant i g).ent = s.ent := rfl
@[simp] theorem modGrant_mbx (s : State) (i : Nat) (g : Grant → Grant) : (s.modGrant i g).mbx = s.mbx := rfl
@[simp] theorem modGrant_fw (s : State) (i : Nat) (g : Grant → Grant) : (s.modGrant i g).fw = s.fw := rfl
@[simp] theorem modGrant_cus (s : State) (i : Nat) (g : Grant → Grant) : (s.modGrant i g).cus = s.cus := rfl
@[simp] theorem modGrant_mir (s : State) (i : Nat) (g : Grant → Grant) : (s.modGrant i g).mir = s.mir := rfl
@[simp] theorem modGrant_tmp (s : State) (i : Nat) (g : Grant → Grant) : (s.modGrant i g).tmp = s.tmp := rfl
@[simp] theorem modGrant_flt (s : State) (i : Nat) (g : Grant → Grant) : (s.modGrant i g).flt = s.flt := rfl
@[simp] theorem modGrant_log (s : State) (i : Nat) (g : Grant → Grant) : (s.modGrant i g).log = s.log := rfl
@[simp] theorem modGrant_cone (s : State) (i : Nat) (g : Grant → Grant) : (s.modGrant i g).cone = s.cone := rfl
@[simp] theorem modGrant_sys (s : State) (i : Nat) (g : Grant → Grant) : (s.modGrant i g).sys = s.sys := rfl
@[simp] theorem modGrant_lcc (s : State) (i : Nat) (g : Grant → Grant) : (s.modGrant i g).lcc = s.lcc := rfl
@[simp] theorem modGrant_dma (s : State) (i : Nat) (g : Grant → Grant) : (s.modGrant i g).dma = s.dma := rfl
@[simp] theorem modGrant_store (s : State) (i : Nat) (g : Grant → Grant) : (s.modGrant i g).store = s.store := rfl
@[simp] theorem modGrant_mem (s : State) (i : Nat) (g : Grant → Grant) : (s.modGrant i g).mem = s.mem := rfl
@[simp] theorem modGrant_freeCtr (s : State) (i : Nat) (g : Grant → Grant) : (s.modGrant i g).freeCtr = s.freeCtr := rfl
@[simp] theorem modGrant_out (s : State) (i : Nat) (g : Grant → Grant) : (s.modGrant i g).out = s.out := rfl
@[simp] theorem modGrant_pending (s : State) (i : Nat) (g : Grant → Grant) : (s.modGrant i g).pending = s.pending := rfl

@[simp] theorem modSource_host (s : State) (i : Nat) (g : Source → Source) : (s.modSource i g).host = s.host := rfl
@[simp] theorem modSource_setter (s : State) (i : Nat) (g : Source → Source) : (s.modSource i g).setter = s.setter := rfl
@[simp] theorem modSource_kilns (s : State) (i : Nat) (g : Source → Source) : (s.modSource i g).kilns = s.kilns := rfl
@[simp] theorem modSource_wheels (s : State) (i : Nat) (g : Source → Source) : (s.modSource i g).wheels = s.wheels := rfl
@[simp] theorem modSource_keys (s : State) (i : Nat) (g : Source → Source) : (s.modSource i g).keys = s.keys := rfl
@[simp] theorem modSource_routing (s : State) (i : Nat) (g : Source → Source) : (s.modSource i g).routing = s.routing := rfl
@[simp] theorem modSource_mbx (s : State) (i : Nat) (g : Source → Source) : (s.modSource i g).mbx = s.mbx := rfl
@[simp] theorem modSource_fw (s : State) (i : Nat) (g : Source → Source) : (s.modSource i g).fw = s.fw := rfl
@[simp] theorem modSource_cus (s : State) (i : Nat) (g : Source → Source) : (s.modSource i g).cus = s.cus := rfl
@[simp] theorem modSource_mir (s : State) (i : Nat) (g : Source → Source) : (s.modSource i g).mir = s.mir := rfl
@[simp] theorem modSource_tmp (s : State) (i : Nat) (g : Source → Source) : (s.modSource i g).tmp = s.tmp := rfl
@[simp] theorem modSource_flt (s : State) (i : Nat) (g : Source → Source) : (s.modSource i g).flt = s.flt := rfl
@[simp] theorem modSource_log (s : State) (i : Nat) (g : Source → Source) : (s.modSource i g).log = s.log := rfl
@[simp] theorem modSource_cone (s : State) (i : Nat) (g : Source → Source) : (s.modSource i g).cone = s.cone := rfl
@[simp] theorem modSource_sys (s : State) (i : Nat) (g : Source → Source) : (s.modSource i g).sys = s.sys := rfl
@[simp] theorem modSource_lcc (s : State) (i : Nat) (g : Source → Source) : (s.modSource i g).lcc = s.lcc := rfl
@[simp] theorem modSource_dma (s : State) (i : Nat) (g : Source → Source) : (s.modSource i g).dma = s.dma := rfl
@[simp] theorem modSource_store (s : State) (i : Nat) (g : Source → Source) : (s.modSource i g).store = s.store := rfl
@[simp] theorem modSource_mem (s : State) (i : Nat) (g : Source → Source) : (s.modSource i g).mem = s.mem := rfl
@[simp] theorem modSource_freeCtr (s : State) (i : Nat) (g : Source → Source) : (s.modSource i g).freeCtr = s.freeCtr := rfl
@[simp] theorem modSource_out (s : State) (i : Nat) (g : Source → Source) : (s.modSource i g).out = s.out := rfl
@[simp] theorem modSource_pending (s : State) (i : Nat) (g : Source → Source) : (s.modSource i g).pending = s.pending := rfl

@[simp] theorem modDrbg_host (s : State) (i : Nat) (g : Drbg → Drbg) : (s.modDrbg i g).host = s.host := rfl
@[simp] theorem modDrbg_setter (s : State) (i : Nat) (g : Drbg → Drbg) : (s.modDrbg i g).setter = s.setter := rfl
@[simp] theorem modDrbg_kilns (s : State) (i : Nat) (g : Drbg → Drbg) : (s.modDrbg i g).kilns = s.kilns := rfl
@[simp] theorem modDrbg_wheels (s : State) (i : Nat) (g : Drbg → Drbg) : (s.modDrbg i g).wheels = s.wheels := rfl
@[simp] theorem modDrbg_keys (s : State) (i : Nat) (g : Drbg → Drbg) : (s.modDrbg i g).keys = s.keys := rfl
@[simp] theorem modDrbg_routing (s : State) (i : Nat) (g : Drbg → Drbg) : (s.modDrbg i g).routing = s.routing := rfl
@[simp] theorem modDrbg_mbx (s : State) (i : Nat) (g : Drbg → Drbg) : (s.modDrbg i g).mbx = s.mbx := rfl
@[simp] theorem modDrbg_fw (s : State) (i : Nat) (g : Drbg → Drbg) : (s.modDrbg i g).fw = s.fw := rfl
@[simp] theorem modDrbg_cus (s : State) (i : Nat) (g : Drbg → Drbg) : (s.modDrbg i g).cus = s.cus := rfl
@[simp] theorem modDrbg_mir (s : State) (i : Nat) (g : Drbg → Drbg) : (s.modDrbg i g).mir = s.mir := rfl
@[simp] theorem modDrbg_tmp (s : State) (i : Nat) (g : Drbg → Drbg) : (s.modDrbg i g).tmp = s.tmp := rfl
@[simp] theorem modDrbg_flt (s : State) (i : Nat) (g : Drbg → Drbg) : (s.modDrbg i g).flt = s.flt := rfl
@[simp] theorem modDrbg_log (s : State) (i : Nat) (g : Drbg → Drbg) : (s.modDrbg i g).log = s.log := rfl
@[simp] theorem modDrbg_cone (s : State) (i : Nat) (g : Drbg → Drbg) : (s.modDrbg i g).cone = s.cone := rfl
@[simp] theorem modDrbg_sys (s : State) (i : Nat) (g : Drbg → Drbg) : (s.modDrbg i g).sys = s.sys := rfl
@[simp] theorem modDrbg_lcc (s : State) (i : Nat) (g : Drbg → Drbg) : (s.modDrbg i g).lcc = s.lcc := rfl
@[simp] theorem modDrbg_dma (s : State) (i : Nat) (g : Drbg → Drbg) : (s.modDrbg i g).dma = s.dma := rfl
@[simp] theorem modDrbg_store (s : State) (i : Nat) (g : Drbg → Drbg) : (s.modDrbg i g).store = s.store := rfl
@[simp] theorem modDrbg_mem (s : State) (i : Nat) (g : Drbg → Drbg) : (s.modDrbg i g).mem = s.mem := rfl
@[simp] theorem modDrbg_freeCtr (s : State) (i : Nat) (g : Drbg → Drbg) : (s.modDrbg i g).freeCtr = s.freeCtr := rfl
@[simp] theorem modDrbg_out (s : State) (i : Nat) (g : Drbg → Drbg) : (s.modDrbg i g).out = s.out := rfl
@[simp] theorem modDrbg_pending (s : State) (i : Nat) (g : Drbg → Drbg) : (s.modDrbg i g).pending = s.pending := rfl

@[simp] theorem modBox_host (s : State) (i k : Nat) (g : Mbx → Mbx) : (s.modBox i k g).host = s.host := rfl
@[simp] theorem modBox_setter (s : State) (i k : Nat) (g : Mbx → Mbx) : (s.modBox i k g).setter = s.setter := rfl
@[simp] theorem modBox_kilns (s : State) (i k : Nat) (g : Mbx → Mbx) : (s.modBox i k g).kilns = s.kilns := rfl
@[simp] theorem modBox_wheels (s : State) (i k : Nat) (g : Mbx → Mbx) : (s.modBox i k g).wheels = s.wheels := rfl
@[simp] theorem modBox_keys (s : State) (i k : Nat) (g : Mbx → Mbx) : (s.modBox i k g).keys = s.keys := rfl
@[simp] theorem modBox_routing (s : State) (i k : Nat) (g : Mbx → Mbx) : (s.modBox i k g).routing = s.routing := rfl
@[simp] theorem modBox_ent (s : State) (i k : Nat) (g : Mbx → Mbx) : (s.modBox i k g).ent = s.ent := rfl
@[simp] theorem modBox_fw (s : State) (i k : Nat) (g : Mbx → Mbx) : (s.modBox i k g).fw = s.fw := rfl
@[simp] theorem modBox_cus (s : State) (i k : Nat) (g : Mbx → Mbx) : (s.modBox i k g).cus = s.cus := rfl
@[simp] theorem modBox_mir (s : State) (i k : Nat) (g : Mbx → Mbx) : (s.modBox i k g).mir = s.mir := rfl
@[simp] theorem modBox_tmp (s : State) (i k : Nat) (g : Mbx → Mbx) : (s.modBox i k g).tmp = s.tmp := rfl
@[simp] theorem modBox_flt (s : State) (i k : Nat) (g : Mbx → Mbx) : (s.modBox i k g).flt = s.flt := rfl
@[simp] theorem modBox_log (s : State) (i k : Nat) (g : Mbx → Mbx) : (s.modBox i k g).log = s.log := rfl
@[simp] theorem modBox_cone (s : State) (i k : Nat) (g : Mbx → Mbx) : (s.modBox i k g).cone = s.cone := rfl
@[simp] theorem modBox_sys (s : State) (i k : Nat) (g : Mbx → Mbx) : (s.modBox i k g).sys = s.sys := rfl
@[simp] theorem modBox_lcc (s : State) (i k : Nat) (g : Mbx → Mbx) : (s.modBox i k g).lcc = s.lcc := rfl
@[simp] theorem modBox_dma (s : State) (i k : Nat) (g : Mbx → Mbx) : (s.modBox i k g).dma = s.dma := rfl
@[simp] theorem modBox_store (s : State) (i k : Nat) (g : Mbx → Mbx) : (s.modBox i k g).store = s.store := rfl
@[simp] theorem modBox_mem (s : State) (i k : Nat) (g : Mbx → Mbx) : (s.modBox i k g).mem = s.mem := rfl
@[simp] theorem modBox_freeCtr (s : State) (i k : Nat) (g : Mbx → Mbx) : (s.modBox i k g).freeCtr = s.freeCtr := rfl
@[simp] theorem modBox_out (s : State) (i k : Nat) (g : Mbx → Mbx) : (s.modBox i k g).out = s.out := rfl
@[simp] theorem modBox_pending (s : State) (i k : Nat) (g : Mbx → Mbx) : (s.modBox i k g).pending = s.pending := rfl

@[simp] theorem modCer_host (s : State) (g : Ceremony → Ceremony) : (s.modCer g).host = s.host := rfl
@[simp] theorem modCer_setter (s : State) (g : Ceremony → Ceremony) : (s.modCer g).setter = s.setter := rfl
@[simp] theorem modCer_kilns (s : State) (g : Ceremony → Ceremony) : (s.modCer g).kilns = s.kilns := rfl
@[simp] theorem modCer_wheels (s : State) (g : Ceremony → Ceremony) : (s.modCer g).wheels = s.wheels := rfl
@[simp] theorem modCer_keys (s : State) (g : Ceremony → Ceremony) : (s.modCer g).keys = s.keys := rfl
@[simp] theorem modCer_routing (s : State) (g : Ceremony → Ceremony) : (s.modCer g).routing = s.routing := rfl
@[simp] theorem modCer_ent (s : State) (g : Ceremony → Ceremony) : (s.modCer g).ent = s.ent := rfl
@[simp] theorem modCer_mbx (s : State) (g : Ceremony → Ceremony) : (s.modCer g).mbx = s.mbx := rfl
@[simp] theorem modCer_fw (s : State) (g : Ceremony → Ceremony) : (s.modCer g).fw = s.fw := rfl
@[simp] theorem modCer_mir (s : State) (g : Ceremony → Ceremony) : (s.modCer g).mir = s.mir := rfl
@[simp] theorem modCer_tmp (s : State) (g : Ceremony → Ceremony) : (s.modCer g).tmp = s.tmp := rfl
@[simp] theorem modCer_flt (s : State) (g : Ceremony → Ceremony) : (s.modCer g).flt = s.flt := rfl
@[simp] theorem modCer_log (s : State) (g : Ceremony → Ceremony) : (s.modCer g).log = s.log := rfl
@[simp] theorem modCer_cone (s : State) (g : Ceremony → Ceremony) : (s.modCer g).cone = s.cone := rfl
@[simp] theorem modCer_sys (s : State) (g : Ceremony → Ceremony) : (s.modCer g).sys = s.sys := rfl
@[simp] theorem modCer_lcc (s : State) (g : Ceremony → Ceremony) : (s.modCer g).lcc = s.lcc := rfl
@[simp] theorem modCer_dma (s : State) (g : Ceremony → Ceremony) : (s.modCer g).dma = s.dma := rfl
@[simp] theorem modCer_store (s : State) (g : Ceremony → Ceremony) : (s.modCer g).store = s.store := rfl
@[simp] theorem modCer_mem (s : State) (g : Ceremony → Ceremony) : (s.modCer g).mem = s.mem := rfl
@[simp] theorem modCer_freeCtr (s : State) (g : Ceremony → Ceremony) : (s.modCer g).freeCtr = s.freeCtr := rfl
@[simp] theorem modCer_out (s : State) (g : Ceremony → Ceremony) : (s.modCer g).out = s.out := rfl
@[simp] theorem modCer_pending (s : State) (g : Ceremony → Ceremony) : (s.modCer g).pending = s.pending := rfl

@[simp] theorem modBank_host (s : State) (b : Nat) (g : FaultBank → FaultBank) : (s.modBank b g).host = s.host := rfl
@[simp] theorem modBank_setter (s : State) (b : Nat) (g : FaultBank → FaultBank) : (s.modBank b g).setter = s.setter := rfl
@[simp] theorem modBank_kilns (s : State) (b : Nat) (g : FaultBank → FaultBank) : (s.modBank b g).kilns = s.kilns := rfl
@[simp] theorem modBank_wheels (s : State) (b : Nat) (g : FaultBank → FaultBank) : (s.modBank b g).wheels = s.wheels := rfl
@[simp] theorem modBank_keys (s : State) (b : Nat) (g : FaultBank → FaultBank) : (s.modBank b g).keys = s.keys := rfl
@[simp] theorem modBank_routing (s : State) (b : Nat) (g : FaultBank → FaultBank) : (s.modBank b g).routing = s.routing := rfl
@[simp] theorem modBank_ent (s : State) (b : Nat) (g : FaultBank → FaultBank) : (s.modBank b g).ent = s.ent := rfl
@[simp] theorem modBank_mbx (s : State) (b : Nat) (g : FaultBank → FaultBank) : (s.modBank b g).mbx = s.mbx := rfl
@[simp] theorem modBank_fw (s : State) (b : Nat) (g : FaultBank → FaultBank) : (s.modBank b g).fw = s.fw := rfl
@[simp] theorem modBank_cus (s : State) (b : Nat) (g : FaultBank → FaultBank) : (s.modBank b g).cus = s.cus := rfl
@[simp] theorem modBank_mir (s : State) (b : Nat) (g : FaultBank → FaultBank) : (s.modBank b g).mir = s.mir := rfl
@[simp] theorem modBank_tmp (s : State) (b : Nat) (g : FaultBank → FaultBank) : (s.modBank b g).tmp = s.tmp := rfl
@[simp] theorem modBank_log (s : State) (b : Nat) (g : FaultBank → FaultBank) : (s.modBank b g).log = s.log := rfl
@[simp] theorem modBank_cone (s : State) (b : Nat) (g : FaultBank → FaultBank) : (s.modBank b g).cone = s.cone := rfl
@[simp] theorem modBank_sys (s : State) (b : Nat) (g : FaultBank → FaultBank) : (s.modBank b g).sys = s.sys := rfl
@[simp] theorem modBank_lcc (s : State) (b : Nat) (g : FaultBank → FaultBank) : (s.modBank b g).lcc = s.lcc := rfl
@[simp] theorem modBank_dma (s : State) (b : Nat) (g : FaultBank → FaultBank) : (s.modBank b g).dma = s.dma := rfl
@[simp] theorem modBank_store (s : State) (b : Nat) (g : FaultBank → FaultBank) : (s.modBank b g).store = s.store := rfl
@[simp] theorem modBank_mem (s : State) (b : Nat) (g : FaultBank → FaultBank) : (s.modBank b g).mem = s.mem := rfl
@[simp] theorem modBank_freeCtr (s : State) (b : Nat) (g : FaultBank → FaultBank) : (s.modBank b g).freeCtr = s.freeCtr := rfl
@[simp] theorem modBank_out (s : State) (b : Nat) (g : FaultBank → FaultBank) : (s.modBank b g).out = s.out := rfl
@[simp] theorem modBank_pending (s : State) (b : Nat) (g : FaultBank → FaultBank) : (s.modBank b g).pending = s.pending := rfl

@[simp] theorem modStream_host (s : State) (i : Nat) (g : LogStream → LogStream) : (s.modStream i g).host = s.host := rfl
@[simp] theorem modStream_setter (s : State) (i : Nat) (g : LogStream → LogStream) : (s.modStream i g).setter = s.setter := rfl
@[simp] theorem modStream_kilns (s : State) (i : Nat) (g : LogStream → LogStream) : (s.modStream i g).kilns = s.kilns := rfl
@[simp] theorem modStream_wheels (s : State) (i : Nat) (g : LogStream → LogStream) : (s.modStream i g).wheels = s.wheels := rfl
@[simp] theorem modStream_keys (s : State) (i : Nat) (g : LogStream → LogStream) : (s.modStream i g).keys = s.keys := rfl
@[simp] theorem modStream_routing (s : State) (i : Nat) (g : LogStream → LogStream) : (s.modStream i g).routing = s.routing := rfl
@[simp] theorem modStream_ent (s : State) (i : Nat) (g : LogStream → LogStream) : (s.modStream i g).ent = s.ent := rfl
@[simp] theorem modStream_mbx (s : State) (i : Nat) (g : LogStream → LogStream) : (s.modStream i g).mbx = s.mbx := rfl
@[simp] theorem modStream_fw (s : State) (i : Nat) (g : LogStream → LogStream) : (s.modStream i g).fw = s.fw := rfl
@[simp] theorem modStream_cus (s : State) (i : Nat) (g : LogStream → LogStream) : (s.modStream i g).cus = s.cus := rfl
@[simp] theorem modStream_mir (s : State) (i : Nat) (g : LogStream → LogStream) : (s.modStream i g).mir = s.mir := rfl
@[simp] theorem modStream_tmp (s : State) (i : Nat) (g : LogStream → LogStream) : (s.modStream i g).tmp = s.tmp := rfl
@[simp] theorem modStream_flt (s : State) (i : Nat) (g : LogStream → LogStream) : (s.modStream i g).flt = s.flt := rfl
@[simp] theorem modStream_cone (s : State) (i : Nat) (g : LogStream → LogStream) : (s.modStream i g).cone = s.cone := rfl
@[simp] theorem modStream_sys (s : State) (i : Nat) (g : LogStream → LogStream) : (s.modStream i g).sys = s.sys := rfl
@[simp] theorem modStream_lcc (s : State) (i : Nat) (g : LogStream → LogStream) : (s.modStream i g).lcc = s.lcc := rfl
@[simp] theorem modStream_dma (s : State) (i : Nat) (g : LogStream → LogStream) : (s.modStream i g).dma = s.dma := rfl
@[simp] theorem modStream_store (s : State) (i : Nat) (g : LogStream → LogStream) : (s.modStream i g).store = s.store := rfl
@[simp] theorem modStream_mem (s : State) (i : Nat) (g : LogStream → LogStream) : (s.modStream i g).mem = s.mem := rfl
@[simp] theorem modStream_freeCtr (s : State) (i : Nat) (g : LogStream → LogStream) : (s.modStream i g).freeCtr = s.freeCtr := rfl
@[simp] theorem modStream_out (s : State) (i : Nat) (g : LogStream → LogStream) : (s.modStream i g).out = s.out := rfl
@[simp] theorem modStream_pending (s : State) (i : Nat) (g : LogStream → LogStream) : (s.modStream i g).pending = s.pending := rfl

@[simp] theorem modConeKiln_host (s : State) (i : Nat) (g : ConeKiln → ConeKiln) : (s.modConeKiln i g).host = s.host := rfl
@[simp] theorem modConeKiln_setter (s : State) (i : Nat) (g : ConeKiln → ConeKiln) : (s.modConeKiln i g).setter = s.setter := rfl
@[simp] theorem modConeKiln_kilns (s : State) (i : Nat) (g : ConeKiln → ConeKiln) : (s.modConeKiln i g).kilns = s.kilns := rfl
@[simp] theorem modConeKiln_wheels (s : State) (i : Nat) (g : ConeKiln → ConeKiln) : (s.modConeKiln i g).wheels = s.wheels := rfl
@[simp] theorem modConeKiln_keys (s : State) (i : Nat) (g : ConeKiln → ConeKiln) : (s.modConeKiln i g).keys = s.keys := rfl
@[simp] theorem modConeKiln_routing (s : State) (i : Nat) (g : ConeKiln → ConeKiln) : (s.modConeKiln i g).routing = s.routing := rfl
@[simp] theorem modConeKiln_ent (s : State) (i : Nat) (g : ConeKiln → ConeKiln) : (s.modConeKiln i g).ent = s.ent := rfl
@[simp] theorem modConeKiln_mbx (s : State) (i : Nat) (g : ConeKiln → ConeKiln) : (s.modConeKiln i g).mbx = s.mbx := rfl
@[simp] theorem modConeKiln_fw (s : State) (i : Nat) (g : ConeKiln → ConeKiln) : (s.modConeKiln i g).fw = s.fw := rfl
@[simp] theorem modConeKiln_cus (s : State) (i : Nat) (g : ConeKiln → ConeKiln) : (s.modConeKiln i g).cus = s.cus := rfl
@[simp] theorem modConeKiln_mir (s : State) (i : Nat) (g : ConeKiln → ConeKiln) : (s.modConeKiln i g).mir = s.mir := rfl
@[simp] theorem modConeKiln_tmp (s : State) (i : Nat) (g : ConeKiln → ConeKiln) : (s.modConeKiln i g).tmp = s.tmp := rfl
@[simp] theorem modConeKiln_flt (s : State) (i : Nat) (g : ConeKiln → ConeKiln) : (s.modConeKiln i g).flt = s.flt := rfl
@[simp] theorem modConeKiln_log (s : State) (i : Nat) (g : ConeKiln → ConeKiln) : (s.modConeKiln i g).log = s.log := rfl
@[simp] theorem modConeKiln_sys (s : State) (i : Nat) (g : ConeKiln → ConeKiln) : (s.modConeKiln i g).sys = s.sys := rfl
@[simp] theorem modConeKiln_lcc (s : State) (i : Nat) (g : ConeKiln → ConeKiln) : (s.modConeKiln i g).lcc = s.lcc := rfl
@[simp] theorem modConeKiln_dma (s : State) (i : Nat) (g : ConeKiln → ConeKiln) : (s.modConeKiln i g).dma = s.dma := rfl
@[simp] theorem modConeKiln_store (s : State) (i : Nat) (g : ConeKiln → ConeKiln) : (s.modConeKiln i g).store = s.store := rfl
@[simp] theorem modConeKiln_mem (s : State) (i : Nat) (g : ConeKiln → ConeKiln) : (s.modConeKiln i g).mem = s.mem := rfl
@[simp] theorem modConeKiln_freeCtr (s : State) (i : Nat) (g : ConeKiln → ConeKiln) : (s.modConeKiln i g).freeCtr = s.freeCtr := rfl
@[simp] theorem modConeKiln_out (s : State) (i : Nat) (g : ConeKiln → ConeKiln) : (s.modConeKiln i g).out = s.out := rfl
@[simp] theorem modConeKiln_pending (s : State) (i : Nat) (g : ConeKiln → ConeKiln) : (s.modConeKiln i g).pending = s.pending := rfl

@[simp] theorem modConeBlock_host (s : State) (i : Nat) (g : ConeBlock → ConeBlock) : (s.modConeBlock i g).host = s.host := rfl
@[simp] theorem modConeBlock_setter (s : State) (i : Nat) (g : ConeBlock → ConeBlock) : (s.modConeBlock i g).setter = s.setter := rfl
@[simp] theorem modConeBlock_kilns (s : State) (i : Nat) (g : ConeBlock → ConeBlock) : (s.modConeBlock i g).kilns = s.kilns := rfl
@[simp] theorem modConeBlock_wheels (s : State) (i : Nat) (g : ConeBlock → ConeBlock) : (s.modConeBlock i g).wheels = s.wheels := rfl
@[simp] theorem modConeBlock_keys (s : State) (i : Nat) (g : ConeBlock → ConeBlock) : (s.modConeBlock i g).keys = s.keys := rfl
@[simp] theorem modConeBlock_routing (s : State) (i : Nat) (g : ConeBlock → ConeBlock) : (s.modConeBlock i g).routing = s.routing := rfl
@[simp] theorem modConeBlock_ent (s : State) (i : Nat) (g : ConeBlock → ConeBlock) : (s.modConeBlock i g).ent = s.ent := rfl
@[simp] theorem modConeBlock_mbx (s : State) (i : Nat) (g : ConeBlock → ConeBlock) : (s.modConeBlock i g).mbx = s.mbx := rfl
@[simp] theorem modConeBlock_fw (s : State) (i : Nat) (g : ConeBlock → ConeBlock) : (s.modConeBlock i g).fw = s.fw := rfl
@[simp] theorem modConeBlock_cus (s : State) (i : Nat) (g : ConeBlock → ConeBlock) : (s.modConeBlock i g).cus = s.cus := rfl
@[simp] theorem modConeBlock_mir (s : State) (i : Nat) (g : ConeBlock → ConeBlock) : (s.modConeBlock i g).mir = s.mir := rfl
@[simp] theorem modConeBlock_tmp (s : State) (i : Nat) (g : ConeBlock → ConeBlock) : (s.modConeBlock i g).tmp = s.tmp := rfl
@[simp] theorem modConeBlock_flt (s : State) (i : Nat) (g : ConeBlock → ConeBlock) : (s.modConeBlock i g).flt = s.flt := rfl
@[simp] theorem modConeBlock_log (s : State) (i : Nat) (g : ConeBlock → ConeBlock) : (s.modConeBlock i g).log = s.log := rfl
@[simp] theorem modConeBlock_sys (s : State) (i : Nat) (g : ConeBlock → ConeBlock) : (s.modConeBlock i g).sys = s.sys := rfl
@[simp] theorem modConeBlock_lcc (s : State) (i : Nat) (g : ConeBlock → ConeBlock) : (s.modConeBlock i g).lcc = s.lcc := rfl
@[simp] theorem modConeBlock_dma (s : State) (i : Nat) (g : ConeBlock → ConeBlock) : (s.modConeBlock i g).dma = s.dma := rfl
@[simp] theorem modConeBlock_store (s : State) (i : Nat) (g : ConeBlock → ConeBlock) : (s.modConeBlock i g).store = s.store := rfl
@[simp] theorem modConeBlock_mem (s : State) (i : Nat) (g : ConeBlock → ConeBlock) : (s.modConeBlock i g).mem = s.mem := rfl
@[simp] theorem modConeBlock_freeCtr (s : State) (i : Nat) (g : ConeBlock → ConeBlock) : (s.modConeBlock i g).freeCtr = s.freeCtr := rfl
@[simp] theorem modConeBlock_out (s : State) (i : Nat) (g : ConeBlock → ConeBlock) : (s.modConeBlock i g).out = s.out := rfl
@[simp] theorem modConeBlock_pending (s : State) (i : Nat) (g : ConeBlock → ConeBlock) : (s.modConeBlock i g).pending = s.pending := rfl

@[simp] theorem modChan_host (s : State) (c : Nat) (g : Channel → Channel) : (s.modChan c g).host = s.host := rfl
@[simp] theorem modChan_setter (s : State) (c : Nat) (g : Channel → Channel) : (s.modChan c g).setter = s.setter := rfl
@[simp] theorem modChan_kilns (s : State) (c : Nat) (g : Channel → Channel) : (s.modChan c g).kilns = s.kilns := rfl
@[simp] theorem modChan_wheels (s : State) (c : Nat) (g : Channel → Channel) : (s.modChan c g).wheels = s.wheels := rfl
@[simp] theorem modChan_keys (s : State) (c : Nat) (g : Channel → Channel) : (s.modChan c g).keys = s.keys := rfl
@[simp] theorem modChan_routing (s : State) (c : Nat) (g : Channel → Channel) : (s.modChan c g).routing = s.routing := rfl
@[simp] theorem modChan_ent (s : State) (c : Nat) (g : Channel → Channel) : (s.modChan c g).ent = s.ent := rfl
@[simp] theorem modChan_mbx (s : State) (c : Nat) (g : Channel → Channel) : (s.modChan c g).mbx = s.mbx := rfl
@[simp] theorem modChan_fw (s : State) (c : Nat) (g : Channel → Channel) : (s.modChan c g).fw = s.fw := rfl
@[simp] theorem modChan_cus (s : State) (c : Nat) (g : Channel → Channel) : (s.modChan c g).cus = s.cus := rfl
@[simp] theorem modChan_mir (s : State) (c : Nat) (g : Channel → Channel) : (s.modChan c g).mir = s.mir := rfl
@[simp] theorem modChan_tmp (s : State) (c : Nat) (g : Channel → Channel) : (s.modChan c g).tmp = s.tmp := rfl
@[simp] theorem modChan_flt (s : State) (c : Nat) (g : Channel → Channel) : (s.modChan c g).flt = s.flt := rfl
@[simp] theorem modChan_log (s : State) (c : Nat) (g : Channel → Channel) : (s.modChan c g).log = s.log := rfl
@[simp] theorem modChan_cone (s : State) (c : Nat) (g : Channel → Channel) : (s.modChan c g).cone = s.cone := rfl
@[simp] theorem modChan_sys (s : State) (c : Nat) (g : Channel → Channel) : (s.modChan c g).sys = s.sys := rfl
@[simp] theorem modChan_lcc (s : State) (c : Nat) (g : Channel → Channel) : (s.modChan c g).lcc = s.lcc := rfl
@[simp] theorem modChan_store (s : State) (c : Nat) (g : Channel → Channel) : (s.modChan c g).store = s.store := rfl
@[simp] theorem modChan_mem (s : State) (c : Nat) (g : Channel → Channel) : (s.modChan c g).mem = s.mem := rfl
@[simp] theorem modChan_freeCtr (s : State) (c : Nat) (g : Channel → Channel) : (s.modChan c g).freeCtr = s.freeCtr := rfl
@[simp] theorem modChan_out (s : State) (c : Nat) (g : Channel → Channel) : (s.modChan c g).out = s.out := rfl
@[simp] theorem modChan_pending (s : State) (c : Nat) (g : Channel → Channel) : (s.modChan c g).pending = s.pending := rfl

@[simp] theorem emit_host (s : State) (o : Out) : (s.emit o).host = s.host := rfl
@[simp] theorem emit_setter (s : State) (o : Out) : (s.emit o).setter = s.setter := rfl
@[simp] theorem emit_kilns (s : State) (o : Out) : (s.emit o).kilns = s.kilns := rfl
@[simp] theorem emit_wheels (s : State) (o : Out) : (s.emit o).wheels = s.wheels := rfl
@[simp] theorem emit_keys (s : State) (o : Out) : (s.emit o).keys = s.keys := rfl
@[simp] theorem emit_routing (s : State) (o : Out) : (s.emit o).routing = s.routing := rfl
@[simp] theorem emit_ent (s : State) (o : Out) : (s.emit o).ent = s.ent := rfl
@[simp] theorem emit_mbx (s : State) (o : Out) : (s.emit o).mbx = s.mbx := rfl
@[simp] theorem emit_fw (s : State) (o : Out) : (s.emit o).fw = s.fw := rfl
@[simp] theorem emit_cus (s : State) (o : Out) : (s.emit o).cus = s.cus := rfl
@[simp] theorem emit_mir (s : State) (o : Out) : (s.emit o).mir = s.mir := rfl
@[simp] theorem emit_tmp (s : State) (o : Out) : (s.emit o).tmp = s.tmp := rfl
@[simp] theorem emit_flt (s : State) (o : Out) : (s.emit o).flt = s.flt := rfl
@[simp] theorem emit_log (s : State) (o : Out) : (s.emit o).log = s.log := rfl
@[simp] theorem emit_cone (s : State) (o : Out) : (s.emit o).cone = s.cone := rfl
@[simp] theorem emit_sys (s : State) (o : Out) : (s.emit o).sys = s.sys := rfl
@[simp] theorem emit_lcc (s : State) (o : Out) : (s.emit o).lcc = s.lcc := rfl
@[simp] theorem emit_dma (s : State) (o : Out) : (s.emit o).dma = s.dma := rfl
@[simp] theorem emit_store (s : State) (o : Out) : (s.emit o).store = s.store := rfl
@[simp] theorem emit_mem (s : State) (o : Out) : (s.emit o).mem = s.mem := rfl
@[simp] theorem emit_freeCtr (s : State) (o : Out) : (s.emit o).freeCtr = s.freeCtr := rfl
@[simp] theorem emit_pending (s : State) (o : Out) : (s.emit o).pending = s.pending := rfl

@[simp] theorem drew_host (s : State) (n : Nat) : (s.drew n).host = s.host := rfl
@[simp] theorem drew_setter (s : State) (n : Nat) : (s.drew n).setter = s.setter := rfl
@[simp] theorem drew_kilns (s : State) (n : Nat) : (s.drew n).kilns = s.kilns := rfl
@[simp] theorem drew_wheels (s : State) (n : Nat) : (s.drew n).wheels = s.wheels := rfl
@[simp] theorem drew_keys (s : State) (n : Nat) : (s.drew n).keys = s.keys := rfl
@[simp] theorem drew_routing (s : State) (n : Nat) : (s.drew n).routing = s.routing := rfl
@[simp] theorem drew_ent (s : State) (n : Nat) : (s.drew n).ent = s.ent := rfl
@[simp] theorem drew_mbx (s : State) (n : Nat) : (s.drew n).mbx = s.mbx := rfl
@[simp] theorem drew_fw (s : State) (n : Nat) : (s.drew n).fw = s.fw := rfl
@[simp] theorem drew_cus (s : State) (n : Nat) : (s.drew n).cus = s.cus := rfl
@[simp] theorem drew_mir (s : State) (n : Nat) : (s.drew n).mir = s.mir := rfl
@[simp] theorem drew_tmp (s : State) (n : Nat) : (s.drew n).tmp = s.tmp := rfl
@[simp] theorem drew_flt (s : State) (n : Nat) : (s.drew n).flt = s.flt := rfl
@[simp] theorem drew_log (s : State) (n : Nat) : (s.drew n).log = s.log := rfl
@[simp] theorem drew_cone (s : State) (n : Nat) : (s.drew n).cone = s.cone := rfl
@[simp] theorem drew_sys (s : State) (n : Nat) : (s.drew n).sys = s.sys := rfl
@[simp] theorem drew_lcc (s : State) (n : Nat) : (s.drew n).lcc = s.lcc := rfl
@[simp] theorem drew_dma (s : State) (n : Nat) : (s.drew n).dma = s.dma := rfl
@[simp] theorem drew_store (s : State) (n : Nat) : (s.drew n).store = s.store := rfl
@[simp] theorem drew_mem (s : State) (n : Nat) : (s.drew n).mem = s.mem := rfl
@[simp] theorem drew_out (s : State) (n : Nat) : (s.drew n).out = s.out := rfl
@[simp] theorem drew_pending (s : State) (n : Nat) : (s.drew n).pending = s.pending := rfl

@[simp] theorem setPort_setter (s : State) (b : Bool) (p : Port) : (s.setPort b p).setter = s.setter := by cases b <;> rfl
@[simp] theorem setPort_kilns (s : State) (b : Bool) (p : Port) : (s.setPort b p).kilns = s.kilns := by cases b <;> rfl
@[simp] theorem setPort_wheels (s : State) (b : Bool) (p : Port) : (s.setPort b p).wheels = s.wheels := by cases b <;> rfl
@[simp] theorem setPort_keys (s : State) (b : Bool) (p : Port) : (s.setPort b p).keys = s.keys := by cases b <;> rfl
@[simp] theorem setPort_routing (s : State) (b : Bool) (p : Port) : (s.setPort b p).routing = s.routing := by cases b <;> rfl
@[simp] theorem setPort_ent (s : State) (b : Bool) (p : Port) : (s.setPort b p).ent = s.ent := by cases b <;> rfl
@[simp] theorem setPort_mbx (s : State) (b : Bool) (p : Port) : (s.setPort b p).mbx = s.mbx := by cases b <;> rfl
@[simp] theorem setPort_fw (s : State) (b : Bool) (p : Port) : (s.setPort b p).fw = s.fw := by cases b <;> rfl
@[simp] theorem setPort_cus (s : State) (b : Bool) (p : Port) : (s.setPort b p).cus = s.cus := by cases b <;> rfl
@[simp] theorem setPort_mir (s : State) (b : Bool) (p : Port) : (s.setPort b p).mir = s.mir := by cases b <;> rfl
@[simp] theorem setPort_tmp (s : State) (b : Bool) (p : Port) : (s.setPort b p).tmp = s.tmp := by cases b <;> rfl
@[simp] theorem setPort_flt (s : State) (b : Bool) (p : Port) : (s.setPort b p).flt = s.flt := by cases b <;> rfl
@[simp] theorem setPort_log (s : State) (b : Bool) (p : Port) : (s.setPort b p).log = s.log := by cases b <;> rfl
@[simp] theorem setPort_cone (s : State) (b : Bool) (p : Port) : (s.setPort b p).cone = s.cone := by cases b <;> rfl
@[simp] theorem setPort_sys (s : State) (b : Bool) (p : Port) : (s.setPort b p).sys = s.sys := by cases b <;> rfl
@[simp] theorem setPort_lcc (s : State) (b : Bool) (p : Port) : (s.setPort b p).lcc = s.lcc := by cases b <;> rfl
@[simp] theorem setPort_dma (s : State) (b : Bool) (p : Port) : (s.setPort b p).dma = s.dma := by cases b <;> rfl
@[simp] theorem setPort_store (s : State) (b : Bool) (p : Port) : (s.setPort b p).store = s.store := by cases b <;> rfl
@[simp] theorem setPort_mem (s : State) (b : Bool) (p : Port) : (s.setPort b p).mem = s.mem := by cases b <;> rfl
@[simp] theorem setPort_freeCtr (s : State) (b : Bool) (p : Port) : (s.setPort b p).freeCtr = s.freeCtr := by cases b <;> rfl
@[simp] theorem setPort_out (s : State) (b : Bool) (p : Port) : (s.setPort b p).out = s.out := by cases b <;> rfl
@[simp] theorem setPort_pending (s : State) (b : Bool) (p : Port) : (s.setPort b p).pending = s.pending := by cases b <;> rfl

@[simp] theorem modPort_setter (s : State) (b : Bool) (g : Port → Port) : (s.modPort b g).setter = s.setter := by cases b <;> rfl
@[simp] theorem modPort_kilns (s : State) (b : Bool) (g : Port → Port) : (s.modPort b g).kilns = s.kilns := by cases b <;> rfl
@[simp] theorem modPort_wheels (s : State) (b : Bool) (g : Port → Port) : (s.modPort b g).wheels = s.wheels := by cases b <;> rfl
@[simp] theorem modPort_keys (s : State) (b : Bool) (g : Port → Port) : (s.modPort b g).keys = s.keys := by cases b <;> rfl
@[simp] theorem modPort_routing (s : State) (b : Bool) (g : Port → Port) : (s.modPort b g).routing = s.routing := by cases b <;> rfl
@[simp] theorem modPort_ent (s : State) (b : Bool) (g : Port → Port) : (s.modPort b g).ent = s.ent := by cases b <;> rfl
@[simp] theorem modPort_mbx (s : State) (b : Bool) (g : Port → Port) : (s.modPort b g).mbx = s.mbx := by cases b <;> rfl
@[simp] theorem modPort_fw (s : State) (b : Bool) (g : Port → Port) : (s.modPort b g).fw = s.fw := by cases b <;> rfl
@[simp] theorem modPort_cus (s : State) (b : Bool) (g : Port → Port) : (s.modPort b g).cus = s.cus := by cases b <;> rfl
@[simp] theorem modPort_mir (s : State) (b : Bool) (g : Port → Port) : (s.modPort b g).mir = s.mir := by cases b <;> rfl
@[simp] theorem modPort_tmp (s : State) (b : Bool) (g : Port → Port) : (s.modPort b g).tmp = s.tmp := by cases b <;> rfl
@[simp] theorem modPort_flt (s : State) (b : Bool) (g : Port → Port) : (s.modPort b g).flt = s.flt := by cases b <;> rfl
@[simp] theorem modPort_log (s : State) (b : Bool) (g : Port → Port) : (s.modPort b g).log = s.log := by cases b <;> rfl
@[simp] theorem modPort_cone (s : State) (b : Bool) (g : Port → Port) : (s.modPort b g).cone = s.cone := by cases b <;> rfl
@[simp] theorem modPort_sys (s : State) (b : Bool) (g : Port → Port) : (s.modPort b g).sys = s.sys := by cases b <;> rfl
@[simp] theorem modPort_lcc (s : State) (b : Bool) (g : Port → Port) : (s.modPort b g).lcc = s.lcc := by cases b <;> rfl
@[simp] theorem modPort_dma (s : State) (b : Bool) (g : Port → Port) : (s.modPort b g).dma = s.dma := by cases b <;> rfl
@[simp] theorem modPort_store (s : State) (b : Bool) (g : Port → Port) : (s.modPort b g).store = s.store := by cases b <;> rfl
@[simp] theorem modPort_mem (s : State) (b : Bool) (g : Port → Port) : (s.modPort b g).mem = s.mem := by cases b <;> rfl
@[simp] theorem modPort_freeCtr (s : State) (b : Bool) (g : Port → Port) : (s.modPort b g).freeCtr = s.freeCtr := by cases b <;> rfl
@[simp] theorem modPort_out (s : State) (b : Bool) (g : Port → Port) : (s.modPort b g).out = s.out := by cases b <;> rfl
@[simp] theorem modPort_pending (s : State) (b : Bool) (g : Port → Port) : (s.modPort b g).pending = s.pending := by cases b <;> rfl

@[simp] theorem modSpdm_setter (s : State) (b : Bool) (g : Spdm → Spdm) : (s.modSpdm b g).setter = s.setter := by cases b <;> rfl
@[simp] theorem modSpdm_kilns (s : State) (b : Bool) (g : Spdm → Spdm) : (s.modSpdm b g).kilns = s.kilns := by cases b <;> rfl
@[simp] theorem modSpdm_wheels (s : State) (b : Bool) (g : Spdm → Spdm) : (s.modSpdm b g).wheels = s.wheels := by cases b <;> rfl
@[simp] theorem modSpdm_keys (s : State) (b : Bool) (g : Spdm → Spdm) : (s.modSpdm b g).keys = s.keys := by cases b <;> rfl
@[simp] theorem modSpdm_routing (s : State) (b : Bool) (g : Spdm → Spdm) : (s.modSpdm b g).routing = s.routing := by cases b <;> rfl
@[simp] theorem modSpdm_ent (s : State) (b : Bool) (g : Spdm → Spdm) : (s.modSpdm b g).ent = s.ent := by cases b <;> rfl
@[simp] theorem modSpdm_mbx (s : State) (b : Bool) (g : Spdm → Spdm) : (s.modSpdm b g).mbx = s.mbx := by cases b <;> rfl
@[simp] theorem modSpdm_fw (s : State) (b : Bool) (g : Spdm → Spdm) : (s.modSpdm b g).fw = s.fw := by cases b <;> rfl
@[simp] theorem modSpdm_cus (s : State) (b : Bool) (g : Spdm → Spdm) : (s.modSpdm b g).cus = s.cus := by cases b <;> rfl
@[simp] theorem modSpdm_mir (s : State) (b : Bool) (g : Spdm → Spdm) : (s.modSpdm b g).mir = s.mir := by cases b <;> rfl
@[simp] theorem modSpdm_tmp (s : State) (b : Bool) (g : Spdm → Spdm) : (s.modSpdm b g).tmp = s.tmp := by cases b <;> rfl
@[simp] theorem modSpdm_flt (s : State) (b : Bool) (g : Spdm → Spdm) : (s.modSpdm b g).flt = s.flt := by cases b <;> rfl
@[simp] theorem modSpdm_log (s : State) (b : Bool) (g : Spdm → Spdm) : (s.modSpdm b g).log = s.log := by cases b <;> rfl
@[simp] theorem modSpdm_cone (s : State) (b : Bool) (g : Spdm → Spdm) : (s.modSpdm b g).cone = s.cone := by cases b <;> rfl
@[simp] theorem modSpdm_sys (s : State) (b : Bool) (g : Spdm → Spdm) : (s.modSpdm b g).sys = s.sys := by cases b <;> rfl
@[simp] theorem modSpdm_lcc (s : State) (b : Bool) (g : Spdm → Spdm) : (s.modSpdm b g).lcc = s.lcc := by cases b <;> rfl
@[simp] theorem modSpdm_dma (s : State) (b : Bool) (g : Spdm → Spdm) : (s.modSpdm b g).dma = s.dma := by cases b <;> rfl
@[simp] theorem modSpdm_store (s : State) (b : Bool) (g : Spdm → Spdm) : (s.modSpdm b g).store = s.store := by cases b <;> rfl
@[simp] theorem modSpdm_mem (s : State) (b : Bool) (g : Spdm → Spdm) : (s.modSpdm b g).mem = s.mem := by cases b <;> rfl
@[simp] theorem modSpdm_freeCtr (s : State) (b : Bool) (g : Spdm → Spdm) : (s.modSpdm b g).freeCtr = s.freeCtr := by cases b <;> rfl
@[simp] theorem modSpdm_out (s : State) (b : Bool) (g : Spdm → Spdm) : (s.modSpdm b g).out = s.out := by cases b <;> rfl
@[simp] theorem modSpdm_pending (s : State) (b : Bool) (g : Spdm → Spdm) : (s.modSpdm b g).pending = s.pending := by cases b <;> rfl

@[simp] theorem modCusPort_host (s : State) (p : Nat) (g : CusPort → CusPort) : (s.modCusPort p g).host = s.host := by unfold modCusPort; split <;> rfl
@[simp] theorem modCusPort_setter (s : State) (p : Nat) (g : CusPort → CusPort) : (s.modCusPort p g).setter = s.setter := by unfold modCusPort; split <;> rfl
@[simp] theorem modCusPort_kilns (s : State) (p : Nat) (g : CusPort → CusPort) : (s.modCusPort p g).kilns = s.kilns := by unfold modCusPort; split <;> rfl
@[simp] theorem modCusPort_wheels (s : State) (p : Nat) (g : CusPort → CusPort) : (s.modCusPort p g).wheels = s.wheels := by unfold modCusPort; split <;> rfl
@[simp] theorem modCusPort_keys (s : State) (p : Nat) (g : CusPort → CusPort) : (s.modCusPort p g).keys = s.keys := by unfold modCusPort; split <;> rfl
@[simp] theorem modCusPort_routing (s : State) (p : Nat) (g : CusPort → CusPort) : (s.modCusPort p g).routing = s.routing := by unfold modCusPort; split <;> rfl
@[simp] theorem modCusPort_ent (s : State) (p : Nat) (g : CusPort → CusPort) : (s.modCusPort p g).ent = s.ent := by unfold modCusPort; split <;> rfl
@[simp] theorem modCusPort_mbx (s : State) (p : Nat) (g : CusPort → CusPort) : (s.modCusPort p g).mbx = s.mbx := by unfold modCusPort; split <;> rfl
@[simp] theorem modCusPort_fw (s : State) (p : Nat) (g : CusPort → CusPort) : (s.modCusPort p g).fw = s.fw := by unfold modCusPort; split <;> rfl
@[simp] theorem modCusPort_mir (s : State) (p : Nat) (g : CusPort → CusPort) : (s.modCusPort p g).mir = s.mir := by unfold modCusPort; split <;> rfl
@[simp] theorem modCusPort_tmp (s : State) (p : Nat) (g : CusPort → CusPort) : (s.modCusPort p g).tmp = s.tmp := by unfold modCusPort; split <;> rfl
@[simp] theorem modCusPort_flt (s : State) (p : Nat) (g : CusPort → CusPort) : (s.modCusPort p g).flt = s.flt := by unfold modCusPort; split <;> rfl
@[simp] theorem modCusPort_log (s : State) (p : Nat) (g : CusPort → CusPort) : (s.modCusPort p g).log = s.log := by unfold modCusPort; split <;> rfl
@[simp] theorem modCusPort_cone (s : State) (p : Nat) (g : CusPort → CusPort) : (s.modCusPort p g).cone = s.cone := by unfold modCusPort; split <;> rfl
@[simp] theorem modCusPort_sys (s : State) (p : Nat) (g : CusPort → CusPort) : (s.modCusPort p g).sys = s.sys := by unfold modCusPort; split <;> rfl
@[simp] theorem modCusPort_lcc (s : State) (p : Nat) (g : CusPort → CusPort) : (s.modCusPort p g).lcc = s.lcc := by unfold modCusPort; split <;> rfl
@[simp] theorem modCusPort_dma (s : State) (p : Nat) (g : CusPort → CusPort) : (s.modCusPort p g).dma = s.dma := by unfold modCusPort; split <;> rfl
@[simp] theorem modCusPort_store (s : State) (p : Nat) (g : CusPort → CusPort) : (s.modCusPort p g).store = s.store := by unfold modCusPort; split <;> rfl
@[simp] theorem modCusPort_mem (s : State) (p : Nat) (g : CusPort → CusPort) : (s.modCusPort p g).mem = s.mem := by unfold modCusPort; split <;> rfl
@[simp] theorem modCusPort_freeCtr (s : State) (p : Nat) (g : CusPort → CusPort) : (s.modCusPort p g).freeCtr = s.freeCtr := by unfold modCusPort; split <;> rfl
@[simp] theorem modCusPort_out (s : State) (p : Nat) (g : CusPort → CusPort) : (s.modCusPort p g).out = s.out := by unfold modCusPort; split <;> rfl
@[simp] theorem modCusPort_pending (s : State) (p : Nat) (g : CusPort → CusPort) : (s.modCusPort p g).pending = s.pending := by unfold modCusPort; split <;> rfl

@[simp] theorem modWare_host (s : State) (t : Nat) (g : Ware → Ware) : (s.modWare t g).host = s.host := by unfold modWare; split <;> rfl
@[simp] theorem modWare_kilns (s : State) (t : Nat) (g : Ware → Ware) : (s.modWare t g).kilns = s.kilns := by unfold modWare; split <;> rfl
@[simp] theorem modWare_wheels (s : State) (t : Nat) (g : Ware → Ware) : (s.modWare t g).wheels = s.wheels := by unfold modWare; split <;> rfl
@[simp] theorem modWare_keys (s : State) (t : Nat) (g : Ware → Ware) : (s.modWare t g).keys = s.keys := by unfold modWare; split <;> rfl
@[simp] theorem modWare_routing (s : State) (t : Nat) (g : Ware → Ware) : (s.modWare t g).routing = s.routing := by unfold modWare; split <;> rfl
@[simp] theorem modWare_ent (s : State) (t : Nat) (g : Ware → Ware) : (s.modWare t g).ent = s.ent := by unfold modWare; split <;> rfl
@[simp] theorem modWare_mbx (s : State) (t : Nat) (g : Ware → Ware) : (s.modWare t g).mbx = s.mbx := by unfold modWare; split <;> rfl
@[simp] theorem modWare_fw (s : State) (t : Nat) (g : Ware → Ware) : (s.modWare t g).fw = s.fw := by unfold modWare; split <;> rfl
@[simp] theorem modWare_cus (s : State) (t : Nat) (g : Ware → Ware) : (s.modWare t g).cus = s.cus := by unfold modWare; split <;> rfl
@[simp] theorem modWare_mir (s : State) (t : Nat) (g : Ware → Ware) : (s.modWare t g).mir = s.mir := by unfold modWare; split <;> rfl
@[simp] theorem modWare_tmp (s : State) (t : Nat) (g : Ware → Ware) : (s.modWare t g).tmp = s.tmp := by unfold modWare; split <;> rfl
@[simp] theorem modWare_flt (s : State) (t : Nat) (g : Ware → Ware) : (s.modWare t g).flt = s.flt := by unfold modWare; split <;> rfl
@[simp] theorem modWare_log (s : State) (t : Nat) (g : Ware → Ware) : (s.modWare t g).log = s.log := by unfold modWare; split <;> rfl
@[simp] theorem modWare_cone (s : State) (t : Nat) (g : Ware → Ware) : (s.modWare t g).cone = s.cone := by unfold modWare; split <;> rfl
@[simp] theorem modWare_sys (s : State) (t : Nat) (g : Ware → Ware) : (s.modWare t g).sys = s.sys := by unfold modWare; split <;> rfl
@[simp] theorem modWare_lcc (s : State) (t : Nat) (g : Ware → Ware) : (s.modWare t g).lcc = s.lcc := by unfold modWare; split <;> rfl
@[simp] theorem modWare_dma (s : State) (t : Nat) (g : Ware → Ware) : (s.modWare t g).dma = s.dma := by unfold modWare; split <;> rfl
@[simp] theorem modWare_store (s : State) (t : Nat) (g : Ware → Ware) : (s.modWare t g).store = s.store := by unfold modWare; split <;> rfl
@[simp] theorem modWare_mem (s : State) (t : Nat) (g : Ware → Ware) : (s.modWare t g).mem = s.mem := by unfold modWare; split <;> rfl
@[simp] theorem modWare_freeCtr (s : State) (t : Nat) (g : Ware → Ware) : (s.modWare t g).freeCtr = s.freeCtr := by unfold modWare; split <;> rfl
@[simp] theorem modWare_out (s : State) (t : Nat) (g : Ware → Ware) : (s.modWare t g).out = s.out := by unfold modWare; split <;> rfl
@[simp] theorem modWare_pending (s : State) (t : Nat) (g : Ware → Ware) : (s.modWare t g).pending = s.pending := by unfold modWare; split <;> rfl

@[simp] theorem emit_out (s : State) (o : Out) : (s.emit o).out = o :: s.out := rfl
@[simp] theorem drew_freeCtr (s : State) (n : Nat) : (s.drew n).freeCtr = s.freeCtr + n := rfl

end Sys2Proof.Machine.State
end

