-- ==== Sys2Proof/Laws/Frames.lean ====
section
/-! SUPPORT. Frames: which fields of the state each operation may change. `Mask.blank M s` is `s` with the fields of `M` forgotten; an
operation that changes fields of `M` only leaves it as it was. -/

namespace Sys2Proof.Machine

/-- A set of fields of the state. -/
structure Mask where
  host : Bool := false
  setter : Bool := false
  kilns : Bool := false
  wheels : Bool := false
  keys : Bool := false
  routing : Bool := false
  ent : Bool := false
  mbx : Bool := false
  fw : Bool := false
  cus : Bool := false
  mir : Bool := false
  tmp : Bool := false
  flt : Bool := false
  log : Bool := false
  cone : Bool := false
  sys : Bool := false
  lcc : Bool := false
  dma : Bool := false
  store : Bool := false
  mem : Bool := false
  freeCtr : Bool := false
  out : Bool := false
  pending : Bool := false

/-- The state with the fields of a set forgotten. -/
def State.blank (M : Mask) (s : State) : State where
  host := if M.host then {} else s.host
  setter := if M.setter then {} else s.setter
  kilns := if M.kilns then [] else s.kilns
  wheels := if M.wheels then [] else s.wheels
  keys := if M.keys then {} else s.keys
  routing := if M.routing then {} else s.routing
  ent := if M.ent then {} else s.ent
  mbx := if M.mbx then {} else s.mbx
  fw := if M.fw then {} else s.fw
  cus := if M.cus then {} else s.cus
  mir := if M.mir then {} else s.mir
  tmp := if M.tmp then {} else s.tmp
  flt := if M.flt then {} else s.flt
  log := if M.log then {} else s.log
  cone := if M.cone then {} else s.cone
  sys := if M.sys then {} else s.sys
  lcc := if M.lcc then {} else s.lcc
  dma := if M.dma then [] else s.dma
  store := if M.store then {} else s.store
  mem := if M.mem then [] else s.mem
  freeCtr := if M.freeCtr then 0 else s.freeCtr
  out := if M.out then [] else s.out
  pending := if M.pending then [] else s.pending

theorem blank_ite (M : Mask) (c : Prop) [Decidable c] (a b : State) :
    (if c then a else b).blank M = if c then a.blank M else b.blank M := by split <;> rfl

theorem blank_when (M : Mask) (c : Bool) (f : State → State) (s : State) (h : (f s).blank M = s.blank M) :
    (when_ c f s).blank M = s.blank M := by unfold when_; split <;> simp_all

theorem blank_forEach {α : Type} (M : Mask) (xs : List α) (f : α → State → State) (s : State)
    (h : ∀ x s, (f x s).blank M = s.blank M) : (forEach xs f s).blank M = s.blank M := by
  unfold forEach
  induction xs generalizing s with
  | nil => rfl
  | cons x xs ih => simp only [List.foldl_cons]; rw [ih, h]

@[simp] theorem State.setFn_blank (M : Mask) (_ : M.host = true) :
    ∀ a0 a1 s, ((State.setFn s a0 a1)).blank M = s.blank M := by
  intro a0 a1 s
  (simp [State.setFn, State.blank, *])

@[simp] theorem State.modFn_blank (M : Mask) (_ : M.host = true) :
    ∀ a0 a1 s, ((State.modFn s a0 a1)).blank M = s.blank M := by
  intro a0 a1 s
  (simp [State.modFn, *])

@[simp] theorem State.setPort_blank (M : Mask) (_ : M.host = true) :
    ∀ a0 a1 s, ((State.setPort s a0 a1)).blank M = s.blank M := by
  intro a0 a1 s
  (unfold State.setPort; (repeat' split) <;> (simp [State.blank, *]))

@[simp] theorem State.modPort_blank (M : Mask) (_ : M.host = true) :
    ∀ a0 a1 s, ((State.modPort s a0 a1)).blank M = s.blank M := by
  intro a0 a1 s
  (simp [State.modPort, *])

@[simp] theorem State.modSpdm_blank (M : Mask) (_ : M.host = true) :
    ∀ a0 a1 s, ((State.modSpdm s a0 a1)).blank M = s.blank M := by
  intro a0 a1 s
  (unfold State.modSpdm; (repeat' split) <;> (simp [State.blank, *]))

@[simp] theorem State.setRing_blank (M : Mask) (_ : M.host = true) :
    ∀ a0 a1 a2 s, ((State.setRing s a0 a1 a2)).blank M = s.blank M := by
  intro a0 a1 a2 s
  (simp [State.setRing, State.blank, *])

@[simp] theorem State.modRing_blank (M : Mask) (_ : M.host = true) :
    ∀ a0 a1 a2 s, ((State.modRing s a0 a1 a2)).blank M = s.blank M := by
  intro a0 a1 a2 s
  (simp [State.modRing, *])

@[simp] theorem State.modKiln_blank (M : Mask) (_ : M.kilns = true) :
    ∀ a0 a1 s, ((State.modKiln s a0 a1)).blank M = s.blank M := by
  intro a0 a1 s
  (simp [State.modKiln, State.blank, *])

@[simp] theorem State.modWheel_blank (M : Mask) (_ : M.wheels = true) :
    ∀ a0 a1 s, ((State.modWheel s a0 a1)).blank M = s.blank M := by
  intro a0 a1 s
  (simp [State.modWheel, State.blank, *])

@[simp] theorem State.modSaggar_blank (M : Mask) (_ : M.keys = true) :
    ∀ a0 a1 s, ((State.modSaggar s a0 a1)).blank M = s.blank M := by
  intro a0 a1 s
  (simp [State.modSaggar, State.blank, *])

@[simp] theorem State.setCache_blank (M : Mask) (_ : M.keys = true) :
    ∀ a0 a1 s, ((State.setCache s a0 a1)).blank M = s.blank M := by
  intro a0 a1 s
  (simp [State.setCache, State.blank, *])

@[simp] theorem State.setWare_blank (M : Mask) (_ : M.setter = true) :
    ∀ a0 a1 s, ((State.setWare s a0 a1)).blank M = s.blank M := by
  intro a0 a1 s
  (simp [State.setWare, State.blank, *])

@[simp] theorem State.modWare_blank (M : Mask) (_ : M.setter = true) :
    ∀ a0 a1 s, ((State.modWare s a0 a1)).blank M = s.blank M := by
  intro a0 a1 s
  (unfold State.modWare; split <;> simp [*])

@[simp] theorem State.modSegment_blank (M : Mask) (_ : M.routing = true) :
    ∀ a0 a1 s, ((State.modSegment s a0 a1)).blank M = s.blank M := by
  intro a0 a1 s
  (simp [State.modSegment, State.blank, *])

@[simp] theorem State.modGrant_blank (M : Mask) (_ : M.routing = true) :
    ∀ a0 a1 s, ((State.modGrant s a0 a1)).blank M = s.blank M := by
  intro a0 a1 s
  (simp [State.modGrant, State.blank, *])

@[simp] theorem State.modSource_blank (M : Mask) (_ : M.ent = true) :
    ∀ a0 a1 s, ((State.modSource s a0 a1)).blank M = s.blank M := by
  intro a0 a1 s
  (simp [State.modSource, State.blank, *])

@[simp] theorem State.modDrbg_blank (M : Mask) (_ : M.ent = true) :
    ∀ a0 a1 s, ((State.modDrbg s a0 a1)).blank M = s.blank M := by
  intro a0 a1 s
  (simp [State.modDrbg, State.blank, *])

@[simp] theorem State.modBox_blank (M : Mask) (_ : M.mbx = true) :
    ∀ a0 a1 a2 s, ((State.modBox s a0 a1 a2)).blank M = s.blank M := by
  intro a0 a1 a2 s
  (simp [State.modBox, State.blank, *])

@[simp] theorem State.modCusPort_blank (M : Mask) (_ : M.cus = true) :
    ∀ a0 a1 s, ((State.modCusPort s a0 a1)).blank M = s.blank M := by
  intro a0 a1 s
  (unfold State.modCusPort; (repeat' split) <;> (simp [State.blank, *]))

@[simp] theorem State.modCer_blank (M : Mask) (_ : M.cus = true) :
    ∀ a0 s, ((State.modCer s a0)).blank M = s.blank M := by
  intro a0 s
  (simp [State.modCer, State.blank, *])

@[simp] theorem State.modBank_blank (M : Mask) (_ : M.flt = true) :
    ∀ a0 a1 s, ((State.modBank s a0 a1)).blank M = s.blank M := by
  intro a0 a1 s
  (simp [State.modBank, State.blank, *])

@[simp] theorem State.modStream_blank (M : Mask) (_ : M.log = true) :
    ∀ a0 a1 s, ((State.modStream s a0 a1)).blank M = s.blank M := by
  intro a0 a1 s
  (simp [State.modStream, State.blank, *])

@[simp] theorem State.modConeKiln_blank (M : Mask) (_ : M.cone = true) :
    ∀ a0 a1 s, ((State.modConeKiln s a0 a1)).blank M = s.blank M := by
  intro a0 a1 s
  (simp [State.modConeKiln, State.blank, *])

@[simp] theorem State.modConeBlock_blank (M : Mask) (_ : M.cone = true) :
    ∀ a0 a1 s, ((State.modConeBlock s a0 a1)).blank M = s.blank M := by
  intro a0 a1 s
  (simp [State.modConeBlock, State.blank, *])

@[simp] theorem State.modChan_blank (M : Mask) (_ : M.dma = true) :
    ∀ a0 a1 s, ((State.modChan s a0 a1)).blank M = s.blank M := by
  intro a0 a1 s
  (simp [State.modChan, State.blank, *])

@[simp] theorem State.modMir_blank (M : Mask) (_ : M.mir = true) :
    ∀ a0 s, ((State.modMir s a0)).blank M = s.blank M := by
  intro a0 s
  (simp [State.modMir, State.blank, *])

@[simp] theorem State.modTmp_blank (M : Mask) (_ : M.tmp = true) :
    ∀ a0 s, ((State.modTmp s a0)).blank M = s.blank M := by
  intro a0 s
  (simp [State.modTmp, State.blank, *])

@[simp] theorem State.modFlt_blank (M : Mask) (_ : M.flt = true) :
    ∀ a0 s, ((State.modFlt s a0)).blank M = s.blank M := by
  intro a0 s
  (simp [State.modFlt, State.blank, *])

@[simp] theorem State.modLog_blank (M : Mask) (_ : M.log = true) :
    ∀ a0 s, ((State.modLog s a0)).blank M = s.blank M := by
  intro a0 s
  (simp [State.modLog, State.blank, *])

@[simp] theorem State.modSys_blank (M : Mask) (_ : M.sys = true) :
    ∀ a0 s, ((State.modSys s a0)).blank M = s.blank M := by
  intro a0 s
  (simp [State.modSys, State.blank, *])

@[simp] theorem State.modSetter_blank (M : Mask) (_ : M.setter = true) :
    ∀ a0 s, ((State.modSetter s a0)).blank M = s.blank M := by
  intro a0 s
  (simp [State.modSetter, State.blank, *])

@[simp] theorem State.modEnt_blank (M : Mask) (_ : M.ent = true) :
    ∀ a0 s, ((State.modEnt s a0)).blank M = s.blank M := by
  intro a0 s
  (simp [State.modEnt, State.blank, *])

@[simp] theorem State.modKeys_blank (M : Mask) (_ : M.keys = true) :
    ∀ a0 s, ((State.modKeys s a0)).blank M = s.blank M := by
  intro a0 s
  (simp [State.modKeys, State.blank, *])

@[simp] theorem State.modRouting_blank (M : Mask) (_ : M.routing = true) :
    ∀ a0 s, ((State.modRouting s a0)).blank M = s.blank M := by
  intro a0 s
  (simp [State.modRouting, State.blank, *])

@[simp] theorem State.modFw_blank (M : Mask) (_ : M.fw = true) :
    ∀ a0 s, ((State.modFw s a0)).blank M = s.blank M := by
  intro a0 s
  (simp [State.modFw, State.blank, *])

@[simp] theorem State.modCone_blank (M : Mask) (_ : M.cone = true) :
    ∀ a0 s, ((State.modCone s a0)).blank M = s.blank M := by
  intro a0 s
  (simp [State.modCone, State.blank, *])

@[simp] theorem State.modLcc_blank (M : Mask) (_ : M.lcc = true) :
    ∀ a0 s, ((State.modLcc s a0)).blank M = s.blank M := by
  intro a0 s
  (simp [State.modLcc, State.blank, *])

@[simp] theorem State.modHost_blank (M : Mask) (_ : M.host = true) :
    ∀ a0 s, ((State.modHost s a0)).blank M = s.blank M := by
  intro a0 s
  (simp [State.modHost, State.blank, *])

@[simp] theorem State.modCus_blank (M : Mask) (_ : M.cus = true) :
    ∀ a0 s, ((State.modCus s a0)).blank M = s.blank M := by
  intro a0 s
  (simp [State.modCus, State.blank, *])

@[simp] theorem State.modMbx_blank (M : Mask) (_ : M.mbx = true) :
    ∀ a0 s, ((State.modMbx s a0)).blank M = s.blank M := by
  intro a0 s
  (simp [State.modMbx, State.blank, *])

@[simp] theorem State.emit_blank (M : Mask) (_ : M.out = true) :
    ∀ a0 s, ((State.emit s a0)).blank M = s.blank M := by
  intro a0 s
  (simp [State.emit, State.blank, *])

@[simp] theorem State.issueRead_blank (M : Mask) (_ : M.host = true) (_ : M.out = true) :
    ∀ a0 a1 a2 s, ((State.issueRead s a0 a1 a2)).blank M = s.blank M := by
  intro a0 a1 a2 s
  (unfold State.issueRead; (repeat' split) <;> (simp [State.blank, *]))

@[simp] theorem State.drew_blank (M : Mask) (_ : M.freeCtr = true) :
    ∀ a0 s, ((State.drew s a0)).blank M = s.blank M := by
  intro a0 s
  (simp [State.drew, State.blank, *])

@[simp] theorem State.service_blank (M : Mask) (_ : M.host = true) (_ : M.out = true) :
    ∀ a0 s, ((State.service s a0)).blank M = s.blank M := by
  intro a0 s
  (simp [State.service, State.blank, *])

@[simp] theorem State.issue_blank (M : Mask) (_ : M.host = true) (_ : M.out = true) :
    ∀ a0 a1 s, ((State.issue s a0 a1)).blank M = s.blank M := by
  intro a0 a1 s
  (simp [State.issue, *])

@[simp] theorem State.raiseVector_blank (M : Mask) (_ : M.host = true) (_ : M.out = true) :
    ∀ a0 a1 s, ((State.raiseVector s a0 a1)).blank M = s.blank M := by
  intro a0 a1 s
  (simp [State.raiseVector, *])

@[simp] theorem State.raiseCause_blank (M : Mask) (_ : M.host = true) (_ : M.out = true) :
    ∀ a0 a1 a2 s, ((State.raiseCause s a0 a1 a2)).blank M = s.blank M := by
  intro a0 a1 a2 s
  (simp [State.raiseCause, *])

@[simp] theorem State.raiseDevice_blank (M : Mask) (_ : M.host = true) (_ : M.log = true) (_ : M.out = true) :
    ∀ a0 s, ((State.raiseDevice s a0)).blank M = s.blank M := by
  intro a0 s
  (simp [State.raiseDevice, blank_ite, *])

@[simp] theorem State.hostWrite_blank (M : Mask) (_ : M.host = true) (_ : M.out = true) :
    ∀ a0 a1 a2 s, ((State.hostWrite s a0 a1 a2)).blank M = s.blank M := by
  intro a0 a1 a2 s
  (simp [State.hostWrite, *])

@[simp] theorem State.wareWrite_blank (M : Mask) (_ : M.host = true) (_ : M.out = true) :
    ∀ a0 a1 a2 s, ((State.wareWrite s a0 a1 a2)).blank M = s.blank M := by
  intro a0 a1 a2 s
  (simp [State.wareWrite, *])

@[simp] theorem State.barAnswer_blank (M : Mask) (_ : M.out = true) :
    ∀ a0 a1 a2 s, ((State.barAnswer s a0 a1 a2)).blank M = s.blank M := by
  intro a0 a1 a2 s
  (simp [State.barAnswer, *])

@[simp] theorem State.logIrq_blank (M : Mask) (_ : M.host = true) (_ : M.log = true) (_ : M.out = true) :
    ∀ a0 s, ((State.logIrq s a0)).blank M = s.blank M := by
  intro a0 s
  (simp [State.logIrq, blank_ite, *])

@[simp] theorem State.dropRecord_blank (M : Mask) (_ : M.log = true) :
    ∀ a0 a1 s, ((State.dropRecord s a0 a1)).blank M = s.blank M := by
  intro a0 a1 s
  (simp [State.dropRecord, *])

@[simp] theorem State.enterRecord_blank (M : Mask) (_ : M.host = true) (_ : M.log = true) (_ : M.out = true) :
    ∀ a0 a1 a2 s, ((State.enterRecord s a0 a1 a2)).blank M = s.blank M := by
  intro a0 a1 a2 s
  (simp [State.enterRecord, blank_ite, *])

@[simp] theorem State.acceptRecord_blank (M : Mask) (_ : M.host = true) (_ : M.log = true) (_ : M.out = true) :
    ∀ a0 a1 a2 s, ((State.acceptRecord s a0 a1 a2)).blank M = s.blank M := by
  intro a0 a1 a2 s
  (simp [State.acceptRecord, blank_ite, *])

@[simp] theorem State.budgetRecord_blank (M : Mask) (_ : M.host = true) (_ : M.log = true) (_ : M.out = true) :
    ∀ a0 a1 a2 s, ((State.budgetRecord s a0 a1 a2)).blank M = s.blank M := by
  intro a0 a1 a2 s
  (simp [State.budgetRecord, blank_ite, *])

@[simp] theorem State.record_blank (M : Mask) (_ : M.host = true) (_ : M.log = true) (_ : M.out = true) :
    ∀ a0 s, ((State.record s a0)).blank M = s.blank M := by
  intro a0 s
  (simp [State.record, blank_ite, *])

@[simp] theorem State.recordBoth_blank (M : Mask) (_ : M.host = true) (_ : M.log = true) (_ : M.out = true) :
    ∀ a0 a1 s, ((State.recordBoth s a0 a1)).blank M = s.blank M := by
  intro a0 a1 s
  (unfold State.recordBoth; split <;> simp [*])

@[simp] theorem State.kazkelRecord_blank (M : Mask) (_ : M.host = true) (_ : M.log = true) (_ : M.out = true) :
    ∀ a0 a1 a2 s, ((State.kazkelRecord s a0 a1 a2)).blank M = s.blank M := by
  intro a0 a1 a2 s
  (simp [State.kazkelRecord, *])

@[simp] theorem State.saggarRecord_blank (M : Mask) (_ : M.host = true) (_ : M.log = true) (_ : M.out = true) :
    ∀ a0 a1 a2 a3 s, ((State.saggarRecord s a0 a1 a2 a3)).blank M = s.blank M := by
  intro a0 a1 a2 a3 s
  (simp [State.saggarRecord, *])

@[simp] theorem State.quarantineCheck_blank (M : Mask) (_ : M.host = true) (_ : M.log = true) (_ : M.out = true) :
    ∀ a0 s, ((State.quarantineCheck s a0)).blank M = s.blank M := by
  intro a0 s
  (simp [State.quarantineCheck, blank_ite, *])

@[simp] theorem State.countViolation_blank (M : Mask) (_ : M.host = true) (_ : M.log = true) (_ : M.out = true) :
    ∀ a0 s, ((State.countViolation s a0)).blank M = s.blank M := by
  intro a0 s
  (simp [State.countViolation, *])

@[simp] theorem State.violation_blank (M : Mask) (_ : M.host = true) (_ : M.log = true) (_ : M.out = true) :
    ∀ a0 a1 s, ((State.violation s a0 a1)).blank M = s.blank M := by
  intro a0 a1 s
  (simp [State.violation, *])

@[simp] theorem State.globalWrite_blank (M : Mask) (_ : M.host = true) (_ : M.log = true) (_ : M.out = true) :
    ∀ i f s, ((f s).blank M = s.blank M) → (State.globalWrite s i f).blank M = s.blank M := by
  intro i f s h
  unfold State.globalWrite
  (repeat' split) <;> simp [*]

@[simp] theorem State.advanceGen_blank (M : Mask) (_ : M.host = true) (_ : M.setter = true) :
    ∀ a0 s, ((State.advanceGen s a0)).blank M = s.blank M := by
  intro a0 s
  (simp [State.advanceGen, *])

@[simp] theorem State.unring_blank (M : Mask) (_ : M.setter = true) :
    ∀ a0 s, ((State.unring s a0)).blank M = s.blank M := by
  intro a0 s
  (simp [State.unring, *])

@[simp] theorem State.clearRings_blank (M : Mask) (_ : M.host = true) (_ : M.setter = true) :
    ∀ a0 s, ((State.clearRings s a0)).blank M = s.blank M := by
  intro a0 s
  (simp [State.clearRings, blank_forEach, *])

@[simp] theorem State.clearFn_blank (M : Mask) (_ : M.host = true) (_ : M.setter = true) :
    ∀ a0 s, ((State.clearFn s a0)).blank M = s.blank M := by
  intro a0 s
  (simp [State.clearFn, *])

@[simp] theorem State.dropHeld_blank (M : Mask) (_ : M.host = true) :
    ∀ a0 s, ((State.dropHeld s a0)).blank M = s.blank M := by
  intro a0 s
  (simp [State.dropHeld, *])

@[simp] theorem State.flrStart_blank (M : Mask) (_ : M.host = true) (_ : M.setter = true) (_ : M.log = true) :
    ∀ a0 s, ((State.flrStart s a0)).blank M = s.blank M := by
  intro a0 s
  (simp [State.flrStart, *])

@[simp] theorem State.clearBoxes_blank (M : Mask) (_ : M.mbx = true) :
    ∀ a0 s, ((State.clearBoxes s a0)).blank M = s.blank M := by
  intro a0 s
  (simp [State.clearBoxes, blank_forEach, *])

@[simp] theorem State.modStore_blank (M : Mask) (_ : M.store = true) :
    ∀ a0 s, ((State.modStore s a0)).blank M = s.blank M := by
  intro a0 s
  (simp [State.modStore, State.blank, *])

@[simp] theorem State.memWrite_blank (M : Mask) (_ : M.store = true) (_ : M.mem = true) :
    ∀ o a v s, (State.memWrite s o a v).blank M = s.blank M := by
  intro o a v s
  unfold State.memWrite
  dsimp only
  split <;> simp [State.blank, *]

@[simp] theorem State.memWriteAll_blank (M : Mask) (_ : M.store = true) (_ : M.mem = true) :
    ∀ bs o a s, (State.memWriteAll s o a bs).blank M = s.blank M := by
  intro bs o
  induction bs with
  | nil => intro a s; rfl
  | cons b bs ih => intro a s; simp [State.memWriteAll, *]

@[simp] theorem State.wipeLines_blank (M : Mask) (_ : M.store = true) (_ : M.mem = true) :
    ∀ a0 a1 a2 s, ((State.wipeLines s a0 a1 a2)).blank M = s.blank M := by
  intro a0 a1 a2 s
  (simp [State.wipeLines, State.blank, *])

@[simp] theorem State.setTweak_blank (M : Mask) (_ : M.store = true) :
    ∀ a0 a1 s, ((State.setTweak s a0 a1)).blank M = s.blank M := by
  intro a0 a1 s
  (simp [State.setTweak, *])

@[simp] theorem State.setTweaks_blank (M : Mask) (_ : M.store = true) :
    ∀ a0 s, ((State.setTweaks s a0)).blank M = s.blank M := by
  intro a0 s
  (simp [State.setTweaks, *])

@[simp] theorem State.setPage_blank (M : Mask) (_ : M.store = true) :
    ∀ a0 a1 s, ((State.setPage s a0 a1)).blank M = s.blank M := by
  intro a0 a1 s
  (simp [State.setPage, *])

@[simp] theorem State.wipePage_blank (M : Mask) (_ : M.store = true) (_ : M.mem = true) :
    ∀ a0 a1 s, ((State.wipePage s a0 a1)).blank M = s.blank M := by
  intro a0 a1 s
  (simp [State.wipePage, *])

@[simp] theorem State.releasePage_blank (M : Mask) (_ : M.store = true) :
    ∀ a0 a1 s, ((State.releasePage s a0 a1)).blank M = s.blank M := by
  intro a0 a1 s
  (simp [State.releasePage, *])

@[simp] theorem State.trimPages_blank (M : Mask) (_ : M.store = true) :
    ∀ a0 s, ((State.trimPages s a0)).blank M = s.blank M := by
  intro a0 s
  (simp [State.trimPages, blank_forEach, *])

@[simp] theorem State.dropPages_blank (M : Mask) (_ : M.store = true) :
    ∀ a0 s, ((State.dropPages s a0)).blank M = s.blank M := by
  intro a0 s
  (simp [State.dropPages, *])

@[simp] theorem State.takeExt_blank (M : Mask) (_ : M.store = true) (_ : M.mem = true) :
    ∀ a0 s, ((State.takeExt s a0).1).blank M = s.blank M := by
  intro a0 s
  (unfold State.takeExt; (repeat' split) <;> (simp [*]))

@[simp] theorem State.trimExts_blank (M : Mask) (_ : M.store = true) :
    ∀ a0 s, ((State.trimExts s a0)).blank M = s.blank M := by
  intro a0 s
  (simp [State.trimExts, *])

@[simp] theorem State.dmaPut_blank (M : Mask) (_ : M.routing = true) (_ : M.store = true) (_ : M.mem = true) :
    ∀ a0 a1 s, ((State.dmaPut s a0 a1)).blank M = s.blank M := by
  intro a0 a1 s
  (unfold State.dmaPut; split <;> simp [*])

@[simp] theorem State.dmaPutAll_blank (M : Mask) (_ : M.routing = true) (_ : M.store = true) (_ : M.mem = true) :
    ∀ bs a s, (State.dmaPutAll s a bs).blank M = s.blank M := by
  intro bs
  induction bs with
  | nil => intro a s; rfl
  | cons b bs ih => intro a s; simp [State.dmaPutAll, *]

@[simp] theorem State.dmaSpread_blank (M : Mask) (_ : M.host = true) (_ : M.routing = true) (_ : M.store = true) (_ : M.mem = true) (_ : M.out = true) :
    ∀ i sp len as bs s, (State.dmaSpread s i sp len as bs).blank M = s.blank M := by
  intro i sp len as
  induction as with
  | nil => intro bs s; rfl
  | cons a as ih =>
    intro bs s
    rw [State.dmaSpread]
    split
    · rfl
    · split
      · rw [ih]; exact State.hostWrite_blank M (by assumption) (by assumption) _ _ _ _
      · split
        · rw [ih, State.dmaPutAll_blank M (by assumption) (by assumption) (by assumption)]
        · rfl

@[simp] theorem State.dmaReadSlot_blank (M : Mask) (_ : M.dma = true) (_ : M.out = true) :
    ∀ a0 s, ((State.dmaReadSlot s a0)).blank M = s.blank M := by
  intro a0 s
  (simp [State.dmaReadSlot, *])

@[simp] theorem State.dmaTurns_blank (M : Mask) (_ : M.dma = true) :
    ∀ s, ((State.dmaTurns s)).blank M = s.blank M := by
  intro s
  (simp [State.dmaTurns, State.blank, *])

@[simp] theorem State.dmaNext_blank (M : Mask) (_ : M.dma = true) (_ : M.out = true) :
    ∀ a0 s, ((State.dmaNext s a0)).blank M = s.blank M := by
  intro a0 s
  (simp [State.dmaNext, blank_ite, *])

@[simp] theorem State.dmaInterrupt_blank (M : Mask) (_ : M.host = true) (_ : M.out = true) :
    ∀ a0 a1 s, ((State.dmaInterrupt s a0 a1)).blank M = s.blank M := by
  intro a0 a1 s
  (simp [State.dmaInterrupt, *])

@[simp] theorem State.dmaWriteBack_blank (M : Mask) (_ : M.host = true) (_ : M.out = true) :
    ∀ a0 a1 a2 s, ((State.dmaWriteBack s a0 a1 a2)).blank M = s.blank M := by
  intro a0 a1 a2 s
  (simp [State.dmaWriteBack, *])

@[simp] theorem State.dmaBad_blank (M : Mask) (_ : M.host = true) (_ : M.dma = true) (_ : M.freeCtr = true) (_ : M.out = true) :
    ∀ a0 a1 s, ((State.dmaBad s a0 a1)).blank M = s.blank M := by
  intro a0 a1 s
  (simp [State.dmaBad, blank_ite, *])

@[simp] theorem State.dmaTorn_blank (M : Mask) (_ : M.host = true) (_ : M.routing = true) (_ : M.store = true) (_ : M.mem = true) (_ : M.freeCtr = true) (_ : M.out = true) :
    ∀ a0 s, ((State.dmaTorn s a0)).blank M = s.blank M := by
  intro a0 s
  (simp [State.dmaTorn, blank_ite, *])

@[simp] theorem State.dmaChannelReset_blank (M : Mask) (_ : M.host = true) (_ : M.routing = true) (_ : M.dma = true) (_ : M.store = true) (_ : M.mem = true) (_ : M.freeCtr = true) (_ : M.out = true) :
    ∀ a0 s, ((State.dmaChannelReset s a0)).blank M = s.blank M := by
  intro a0 s
  (simp [State.dmaChannelReset, blank_ite, *])

@[simp] theorem State.dmaReturn_blank (M : Mask) (_ : M.host = true) (_ : M.routing = true) (_ : M.dma = true) (_ : M.store = true) (_ : M.mem = true) (_ : M.freeCtr = true) (_ : M.out = true) :
    ∀ a0 s, ((State.dmaReturn s a0)).blank M = s.blank M := by
  intro a0 s
  (simp [State.dmaReturn, *])

@[simp] theorem State.dmaStop_blank (M : Mask) (_ : M.host = true) (_ : M.routing = true) (_ : M.dma = true) (_ : M.store = true) (_ : M.mem = true) (_ : M.freeCtr = true) (_ : M.out = true) :
    ∀ a0 s, ((State.dmaStop s a0)).blank M = s.blank M := by
  intro a0 s
  (simp [State.dmaStop, *])

@[simp] theorem State.dmaHalf_blank (M : Mask) (_ : M.host = true) (_ : M.dma = true) (_ : M.out = true) :
    ∀ a0 s, ((State.dmaHalf s a0)).blank M = s.blank M := by
  intro a0 s
  (simp [State.dmaHalf, blank_when, *])

@[simp] theorem State.dmaKick_blank (M : Mask) (_ : M.dma = true) (_ : M.out = true) :
    ∀ a0 s, ((State.dmaKick s a0)).blank M = s.blank M := by
  intro a0 s
  (simp [State.dmaKick, blank_when, *])

@[simp] theorem State.dmaEnable_blank (M : Mask) (_ : M.dma = true) (_ : M.out = true) :
    ∀ c v s, (State.dmaEnable s c v).blank M = s.blank M := by
  intro c v s
  unfold State.dmaEnable
  exact blank_when _ _ _ _ (by simp [blank_when, *])

@[simp] theorem State.dmaDone_blank (M : Mask) (_ : M.host = true) (_ : M.dma = true) (_ : M.out = true) :
    ∀ a0 s, ((State.dmaDone s a0)).blank M = s.blank M := by
  intro a0 s
  (simp [State.dmaDone, blank_when, *])

@[simp] theorem State.dmaAccess_blank (M : Mask) (_ : M.host = true) (_ : M.dma = true) (_ : M.freeCtr = true) (_ : M.out = true) :
    ∀ c f s, ((f s).blank M = s.blank M) → (State.dmaAccess s c f).blank M = s.blank M := by
  intro c f s h
  simp [State.dmaAccess, *]

@[simp] theorem State.dropEntry_blank (M : Mask) (_ : M.kilns = true) (_ : M.keys = true) (_ : M.store = true) :
    ∀ h s, (State.dropEntry s h).blank M = s.blank M := by
  intro h s
  unfold State.dropEntry
  split
  · rfl
  · dsimp only
    rename_i e _
    have hh : ∀ s : State, (State.trimExts ((s.setCache h none).modSaggar e.owner fun g => { g with residence := g.residence.filter (· ≠ h) }) e.owner).blank M = s.blank M := by
      intro s; simp [*]
    split
    · rw [← hh s]; simp [State.blank, *]
    · exact hh s

@[simp] theorem State.unpinEntry_blank (M : Mask) (_ : M.kilns = true) (_ : M.keys = true) (_ : M.store = true) :
    ∀ a0 s, ((State.unpinEntry s a0)).blank M = s.blank M := by
  intro a0 s
  (unfold State.unpinEntry; (repeat' split) <;> (simp [*]))

@[simp] theorem State.unpinSlot_blank (M : Mask) (_ : M.kilns = true) :
    ∀ a0 a1 s, ((State.unpinSlot s a0 a1)).blank M = s.blank M := by
  intro a0 a1 s
  (simp [State.unpinSlot, *])

@[simp] theorem State.unpinWare_blank (M : Mask) (_ : M.setter = true) (_ : M.kilns = true) (_ : M.keys = true) (_ : M.store = true) :
    ∀ a0 s, ((State.unpinWare s a0)).blank M = s.blank M := by
  intro a0 s
  (unfold State.unpinWare; (repeat' split) <;> (simp [blank_forEach, *]))

@[simp] theorem State.freeWheel_blank (M : Mask) (_ : M.setter = true) (_ : M.kilns = true) (_ : M.wheels = true) (_ : M.store = true) :
    ∀ a0 s, ((State.freeWheel s a0)).blank M = s.blank M := by
  intro a0 s
  (unfold State.freeWheel; (repeat' split) <;> (simp [*]))

@[simp] theorem State.freeEngine_blank (M : Mask) (_ : M.kilns = true) :
    ∀ a0 a1 s, ((State.freeEngine s a0 a1)).blank M = s.blank M := by
  intro a0 a1 s
  (simp [State.freeEngine, *])

@[simp] theorem State.startFetch_blank (M : Mask) (_ : M.host = true) (_ : M.kilns = true) (_ : M.out = true) :
    ∀ a0 a1 a2 a3 s, ((State.startFetch s a0 a1 a2 a3)).blank M = s.blank M := by
  intro a0 a1 a2 a3 s
  (simp [State.startFetch, blank_when, *])

@[simp] theorem State.dropFetch_blank (M : Mask) (_ : M.host = true) (_ : M.kilns = true) (_ : M.out = true) :
    ∀ k tag s, (State.dropFetch s k tag).blank M = s.blank M := by
  intro k tag s
  unfold State.dropFetch
  dsimp only
  rw [blank_forEach _ _ _ _ (by intro f s; split <;> simp [*])]
  simp [*]

@[simp] theorem State.leaveKiln_blank (M : Mask) (_ : M.host = true) (_ : M.setter = true) (_ : M.kilns = true) (_ : M.wheels = true) (_ : M.keys = true) (_ : M.store = true) (_ : M.out = true) :
    ∀ a0 s, ((State.leaveKiln s a0)).blank M = s.blank M := by
  intro a0 s
  (unfold State.leaveKiln; split <;> simp [*])

@[simp] theorem State.setReplay_blank (M : Mask) (_ : M.mir = true) :
    ∀ a0 a1 a2 s, ((State.setReplay s a0 a1 a2)).blank M = s.blank M := by
  intro a0 a1 a2 s
  (simp [State.setReplay, *])

@[simp] theorem State.handOver_blank (M : Mask) (_ : M.setter = true) (_ : M.mir = true) :
    ∀ a0 s, ((State.handOver s a0)).blank M = s.blank M := by
  intro a0 s
  (unfold State.handOver; (repeat' split) <;> (simp [blank_forEach, *]))

@[simp] theorem State.failWare_blank (M : Mask) (_ : M.host = true) (_ : M.setter = true) (_ : M.kilns = true) (_ : M.wheels = true) (_ : M.keys = true) (_ : M.mir = true) (_ : M.store = true) (_ : M.out = true) :
    ∀ a0 a1 a2 s, ((State.failWare s a0 a1 a2)).blank M = s.blank M := by
  intro a0 a1 a2 s
  (simp [State.failWare, *])

@[simp] theorem State.freeTag_blank (M : Mask) (_ : M.setter = true) :
    ∀ a0 s, ((State.freeTag s a0)).blank M = s.blank M := by
  intro a0 s
  (simp [State.freeTag, *])

@[simp] theorem State.detach_blank (M : Mask) (_ : M.mir = true) :
    ∀ a0 s, ((State.detach s a0)).blank M = s.blank M := by
  intro a0 s
  (unfold State.detach; (repeat' split) <;> (simp [*]))

@[simp] theorem State.unqueue_blank (M : Mask) (_ : M.setter = true) :
    ∀ a0 a1 s, ((State.unqueue s a0 a1)).blank M = s.blank M := by
  intro a0 a1 s
  (simp [State.unqueue, *])

@[simp] theorem State.removeWare_blank (M : Mask) (_ : M.host = true) (_ : M.setter = true) (_ : M.kilns = true) (_ : M.wheels = true) (_ : M.keys = true) (_ : M.mir = true) (_ : M.store = true) (_ : M.out = true) :
    ∀ a0 s, ((State.removeWare s a0)).blank M = s.blank M := by
  intro a0 s
  (unfold State.removeWare; (repeat' split) <;> (simp [*]))

@[simp] theorem State.returnWare_blank (M : Mask) (_ : M.host = true) (_ : M.setter = true) (_ : M.kilns = true) (_ : M.wheels = true) (_ : M.keys = true) (_ : M.store = true) (_ : M.out = true) :
    ∀ a0 s, ((State.returnWare s a0)).blank M = s.blank M := by
  intro a0 s
  (simp [State.returnWare, *])

@[simp] theorem State.backOff_blank (M : Mask) (_ : M.host = true) (_ : M.setter = true) (_ : M.kilns = true) (_ : M.wheels = true) (_ : M.keys = true) (_ : M.store = true) (_ : M.out = true) :
    ∀ a0 s, ((State.backOff s a0)).blank M = s.blank M := by
  intro a0 s
  (unfold State.backOff; (repeat' split) <;> (simp [*]))

@[simp] theorem State.entIrq_blank (M : Mask) (_ : M.host = true) (_ : M.ent = true) (_ : M.log = true) (_ : M.out = true) :
    ∀ a0 s, ((State.entIrq s a0)).blank M = s.blank M := by
  intro a0 s
  (simp [State.entIrq, blank_ite, *])

@[simp] theorem State.poolChanged_blank (M : Mask) (_ : M.host = true) (_ : M.ent = true) (_ : M.log = true) (_ : M.out = true) :
    ∀ a0 s, ((State.poolChanged s a0)).blank M = s.blank M := by
  intro a0 s
  (simp [State.poolChanged, blank_ite, *])

@[simp] theorem State.sourceRecord_blank (M : Mask) (_ : M.host = true) (_ : M.log = true) (_ : M.out = true) :
    ∀ a0 s, ((State.sourceRecord s a0)).blank M = s.blank M := by
  intro a0 s
  (simp [State.sourceRecord, *])

@[simp] theorem State.entReadyCheck_blank (M : Mask) (_ : M.host = true) (_ : M.ent = true) (_ : M.log = true) (_ : M.out = true) :
    ∀ s, ((State.entReadyCheck s)).blank M = s.blank M := by
  intro s
  (simp [State.entReadyCheck, blank_ite, *])

@[simp] theorem State.noteRequests_blank (M : Mask) (_ : M.ent = true) :
    ∀ a0 s, ((State.noteRequests s a0)).blank M = s.blank M := by
  intro a0 s
  (simp [State.noteRequests, *])

@[simp] theorem State.changeDrbg_blank (M : Mask) (_ : M.ent = true) :
    ∀ a0 a1 s, ((State.changeDrbg s a0 a1)).blank M = s.blank M := by
  intro a0 a1 s
  (simp [State.changeDrbg, *])

@[simp] theorem State.drbgLost_blank (M : Mask) (_ : M.ent = true) :
    ∀ a0 s, ((State.drbgLost s a0)).blank M = s.blank M := by
  intro a0 s
  (simp [State.drbgLost, *])

@[simp] theorem State.drbgOff_blank (M : Mask) (_ : M.ent = true) :
    ∀ a0 s, ((State.drbgOff s a0)).blank M = s.blank M := by
  intro a0 s
  (simp [State.drbgOff, *])

@[simp] theorem State.reseedPoint_blank (M : Mask) (_ : M.host = true) (_ : M.ent = true) (_ : M.log = true) (_ : M.out = true) :
    ∀ d s, (State.reseedPoint s d).blank M = s.blank M := by
  intro d s
  have h : ∀ t x, State.takeSeed s d = some (t, x) → t.blank M = s.blank M := by
    intro t x ht
    unfold State.takeSeed at ht
    (repeat' split at ht) <;> cases ht <;> simp [*]
  unfold State.reseedPoint
  split
  · rfl
  · split
    · rename_i hs; simp [h _ _ hs, *]
    · split <;> simp [*]

@[simp] theorem State.drbgCall_blank (M : Mask) (_ : M.host = true) (_ : M.ent = true) (_ : M.log = true) (_ : M.out = true) :
    ∀ a0 a1 a2 s, ((State.drbgCall s a0 a1 a2).1).blank M = s.blank M := by
  intro a0 a1 a2 s
  (unfold State.drbgCall; dsimp only; (repeat' split) <;> (simp [*]))

@[simp] theorem State.drbgCalls_blank (M : Mask) (_ : M.host = true) (_ : M.ent = true) (_ : M.log = true) (_ : M.out = true) :
    ∀ d add ns s, (State.drbgCalls d add ns s).1.blank M = s.blank M := by
  intro d add ns
  induction ns with
  | nil => intro s; rfl
  | cons n ns ih =>
    intro s
    simp only [State.drbgCalls]
    have h := State.drbgCall_blank M (by assumption) (by assumption) (by assumption) (by assumption) d n add s
    split
    · simp_all
    · rename_i s' _ hs
      rw [hs] at h
      have h2 := ih s'
      split <;> simp_all

@[simp] theorem State.drbgBytes_blank (M : Mask) (_ : M.host = true) (_ : M.ent = true) (_ : M.log = true) (_ : M.out = true) :
    ∀ a0 a1 a2 s, ((State.drbgBytes s a0 a1 a2).1).blank M = s.blank M := by
  intro a0 a1 a2 s
  (simp [State.drbgBytes, *])

@[simp] theorem State.controlBytes_blank (M : Mask) (_ : M.host = true) (_ : M.ent = true) (_ : M.log = true) (_ : M.out = true) :
    ∀ n s, (State.controlBytes s n).1.blank M = s.blank M := by
  intro n s
  exact State.drbgBytes_blank M (by assumption) (by assumption) (by assumption) (by assumption) _ _ _ s

@[simp] theorem State.withControl_blank (M : Mask) (_ : M.host = true) (_ : M.ent = true) (_ : M.log = true) (_ : M.out = true) :
    ∀ n op f s, (∀ x s, (f x s).blank M = s.blank M) → (State.withControl s n op f).blank M = s.blank M := by
  intro n op f s h
  unfold State.withControl
  have h2 := State.controlBytes_blank M (by assumption) (by assumption) (by assumption) (by assumption) n s
  split <;> simp_all

@[simp] theorem State.newTweak_blank (M : Mask) (_ : M.host = true) (_ : M.ent = true) (_ : M.log = true) (_ : M.store = true) (_ : M.out = true) :
    ∀ a0 s, ((State.newTweak s a0)).blank M = s.blank M := by
  intro a0 s
  (simp [State.newTweak, *])

@[simp] theorem State.deliverSeed_blank (M : Mask) (_ : M.ent = true) :
    ∀ a0 s, ((State.deliverSeed s a0)).blank M = s.blank M := by
  intro a0 s
  (unfold State.deliverSeed; (repeat' split) <;> (simp [blank_ite, *]))

@[simp] theorem State.demandReseed_blank (M : Mask) (_ : M.ent = true) :
    ∀ a0 s, ((State.demandReseed s a0)).blank M = s.blank M := by
  intro a0 s
  (simp [State.demandReseed, blank_ite, *])

@[simp] theorem State.sourceFails_blank (M : Mask) (_ : M.host = true) (_ : M.ent = true) (_ : M.log = true) (_ : M.out = true) :
    ∀ a0 s, ((State.sourceFails s a0)).blank M = s.blank M := by
  intro a0 s
  (simp [State.sourceFails, blank_ite, *])

@[simp] theorem State.reseedWrite_blank (M : Mask) (_ : M.ent = true) :
    ∀ a0 s, ((State.reseedWrite s a0)).blank M = s.blank M := by
  intro a0 s
  (simp [State.reseedWrite, blank_ite, blank_when, blank_forEach, *])

@[simp] theorem State.pinEntry_blank (M : Mask) (_ : M.setter = true) (_ : M.keys = true) :
    ∀ a0 a1 s, ((State.pinEntry s a0 a1)).blank M = s.blank M := by
  intro a0 a1 s
  (unfold State.pinEntry; (repeat' split) <;> (simp [*]))

@[simp] theorem State.pinSlot_blank (M : Mask) (_ : M.setter = true) (_ : M.kilns = true) (_ : M.keys = true) :
    ∀ a0 a1 s, ((State.pinSlot s a0 a1)).blank M = s.blank M := by
  intro a0 a1 s
  (unfold State.pinSlot; (repeat' split) <;> (simp [blank_ite, *]))

@[simp] theorem State.fillSlot_blank (M : Mask) (_ : M.setter = true) (_ : M.kilns = true) (_ : M.keys = true) :
    ∀ a0 a1 a2 s, ((State.fillSlot s a0 a1 a2)).blank M = s.blank M := by
  intro a0 a1 a2 s
  (unfold State.fillSlot; split <;> simp [*])

@[simp] theorem State.victim_blank (M : Mask) (_ : M.keys = true) :
    ∀ a0 a1 s, ((State.victim s a0 a1).1).blank M = s.blank M := by
  intro a0 a1 s
  (unfold State.victim; dsimp only; (repeat' split) <;> (simp [*]))

@[simp] theorem State.evict_blank (M : Mask) (_ : M.kilns = true) (_ : M.keys = true) (_ : M.store = true) :
    ∀ a0 s, ((State.evict s a0)).blank M = s.blank M := by
  intro a0 s
  (simp [State.evict, *])

@[simp] theorem State.makeRoom_blank (M : Mask) (_ : M.kilns = true) (_ : M.keys = true) (_ : M.store = true) :
    ∀ sag key s, (State.makeRoom s sag key).1.blank M = s.blank M := by
  intro sag key s
  unfold State.makeRoom
  grind [State.victim_blank, State.evict_blank]

@[simp] theorem State.putEntry_blank (M : Mask) (_ : M.keys = true) (_ : M.store = true) (_ : M.mem = true) :
    ∀ a0 a1 s, ((State.putEntry s a0 a1)).blank M = s.blank M := by
  intro a0 a1 s
  (unfold State.putEntry; split <;> simp [*])

@[simp] theorem State.cacheFull_blank (M : Mask) (_ : M.keys = true) :
    ∀ s, ((State.cacheFull s).1).blank M = s.blank M := by
  intro s
  (simp [State.cacheFull, *])

@[simp] theorem State.useEntry_blank (M : Mask) (_ : M.setter = true) (_ : M.kilns = true) (_ : M.keys = true) :
    ∀ a0 a1 s, ((State.useEntry s a0 a1)).blank M = s.blank M := by
  intro a0 a1 s
  (simp [State.useEntry, *])

@[simp] theorem State.insertKey_blank (M : Mask) (_ : M.setter = true) (_ : M.kilns = true) (_ : M.keys = true) (_ : M.store = true) (_ : M.mem = true) :
    ∀ tag w key s, (State.insertKey s tag w key).1.blank M = s.blank M := by
  intro tag w key s
  unfold State.insertKey
  have h := State.makeRoom_blank M (by assumption) (by assumption) (by assumption) w.saggar key s
  (repeat' split) <;> simp_all

@[simp] theorem State.trimTo_blank (M : Mask) (_ : M.kilns = true) (_ : M.keys = true) (_ : M.store = true) :
    ∀ n o s, (State.trimTo s n o).blank M = s.blank M := by
  intro n o s
  unfold State.trimTo
  dsimp only
  rw [blank_forEach _ _ _ _ (by intro x s; split <;> simp [*]), blank_forEach _ _ _ _ (by intro x s; simp [*])]

@[simp] theorem State.trimCache_blank (M : Mask) (_ : M.kilns = true) (_ : M.keys = true) (_ : M.store = true) :
    ∀ a0 s, ((State.trimCache s a0)).blank M = s.blank M := by
  intro a0 s
  (simp [State.trimCache, *])

@[simp] theorem State.invalidate_blank (M : Mask) (_ : M.kilns = true) (_ : M.keys = true) (_ : M.store = true) :
    ∀ g p s, (State.invalidate s g p).blank M = s.blank M := by
  intro g p s
  unfold State.invalidate
  dsimp only
  rw [blank_forEach _ _ _ _ (by intro x s; (repeat' split) <;> simp [*])]
  simp [State.blank, *]

@[simp] theorem State.retireCleanup_blank (M : Mask) (_ : M.kilns = true) (_ : M.keys = true) (_ : M.store = true) :
    ∀ a0 s, ((State.retireCleanup s a0)).blank M = s.blank M := by
  intro a0 s
  (unfold State.retireCleanup; split <;> simp [*])

@[simp] theorem State.reseedEviction_blank (M : Mask) (_ : M.host = true) (_ : M.keys = true) (_ : M.ent = true) (_ : M.log = true) (_ : M.out = true) :
    ∀ s, ((State.reseedEviction s)).blank M = s.blank M := by
  intro s
  (simp [State.reseedEviction, *])

@[simp] theorem State.signal_blank (M : Mask) (_ : M.host = true) (_ : M.out = true) :
    ∀ a0 a1 s, ((State.signal s a0 a1)).blank M = s.blank M := by
  intro a0 a1 s
  (simp [State.signal, blank_ite, *])

@[simp] theorem State.flushHeld_blank (M : Mask) (_ : M.host = true) (_ : M.out = true) :
    ∀ a0 a1 s, ((State.flushHeld s a0 a1)).blank M = s.blank M := by
  intro a0 a1 s
  (simp [State.flushHeld, blank_ite, *])

@[simp] theorem State.pushRecord_blank (M : Mask) (_ : M.host = true) (_ : M.out = true) :
    ∀ a0 a1 a2 a3 s, ((State.pushRecord s a0 a1 a2 a3)).blank M = s.blank M := by
  intro a0 a1 a2 a3 s
  (simp [State.pushRecord, blank_ite, *])

@[simp] theorem State.ringError_blank (M : Mask) (_ : M.host = true) :
    ∀ a0 a1 a2 s, ((State.ringError s a0 a1 a2)).blank M = s.blank M := by
  intro a0 a1 a2 s
  (simp [State.ringError, *])

@[simp] theorem State.ringReset_blank (M : Mask) (_ : M.host = true) (_ : M.setter = true) (_ : M.kilns = true) (_ : M.wheels = true) (_ : M.keys = true) (_ : M.mir = true) (_ : M.store = true) (_ : M.out = true) :
    ∀ a0 a1 s, ((State.ringReset s a0 a1)).blank M = s.blank M := by
  intro a0 a1 s
  (simp [State.ringReset, blank_ite, blank_forEach, *])

@[simp] theorem State.stampCeremony_blank (M : Mask) (_ : M.setter = true) :
    ∀ a0 a1 s, ((State.stampCeremony s a0 a1)).blank M = s.blank M := by
  intro a0 a1 s
  (simp [State.stampCeremony, blank_ite, *])

@[simp] theorem State.segLock_blank (M : Mask) (_ : M.routing = true) :
    ∀ a0 s, ((State.segLock s a0).1).blank M = s.blank M := by
  intro a0 s
  (unfold State.segLock; dsimp only; (repeat' split) <;> (simp [*]))

@[simp] theorem State.segCommit_blank (M : Mask) (_ : M.routing = true) :
    ∀ a0 s, ((State.segCommit s a0).1).blank M = s.blank M := by
  intro a0 s
  (unfold State.segCommit; dsimp only; (repeat' split) <;> (simp [*]))

@[simp] theorem State.segAbandon_blank (M : Mask) (_ : M.routing = true) :
    ∀ a0 s, ((State.segAbandon s a0).1).blank M = s.blank M := by
  intro a0 s
  (unfold State.segAbandon; dsimp only; (repeat' split) <;> (simp [*]))

@[simp] theorem State.refilter_blank (M : Mask) (_ : M.routing = true) :
    ∀ a0 s, ((State.refilter s a0)).blank M = s.blank M := by
  intro a0 s
  (simp [State.refilter, *])

@[simp] theorem State.commitSegment_blank (M : Mask) (_ : M.host = true) (_ : M.routing = true) (_ : M.log = true) (_ : M.out = true) :
    ∀ a0 s, ((State.commitSegment s a0)).blank M = s.blank M := by
  intro a0 s
  (unfold State.commitSegment; dsimp only; (repeat' split) <;> (simp [*]))

@[simp] theorem prtRun_blank (M : Mask) (_ : M.routing = true) :
    ∀ g op b s, (∀ s, (op s).1.blank M = s.blank M) → (prtRun g op b s).blank M = s.blank M := by
  intro g op b s h
  unfold prtRun
  exact blank_when _ _ _ _ (by dsimp only; split <;> simp [*])

@[simp] theorem prtWrite_blank (M : Mask) (_ : M.routing = true) :
    ∀ a0 s, ((prtWrite s a0)).blank M = s.blank M := by
  intro a0 s
  (unfold prtWrite; split <;> simp [*])

@[simp] theorem State.nextData_blank (M : Mask) (_ : M.host = true) (_ : M.setter = true) (_ : M.kilns = true) (_ : M.wheels = true) (_ : M.keys = true) (_ : M.mir = true) (_ : M.store = true) (_ : M.out = true) :
    ∀ a0 s, ((State.nextData s a0)).blank M = s.blank M := by
  intro a0 s
  (unfold State.nextData; (repeat' split) <;> (simp [*]))

@[simp] theorem State.formStage_blank (M : Mask) (_ : M.host = true) (_ : M.setter = true) (_ : M.kilns = true) (_ : M.wheels = true) (_ : M.keys = true) (_ : M.mir = true) (_ : M.store = true) (_ : M.out = true) :
    ∀ a0 s, ((State.formStage s a0)).blank M = s.blank M := by
  intro a0 s
  (unfold State.formStage; dsimp only; (repeat' split) <;> (simp [blank_when, *]))

@[simp] theorem State.enterKiln_blank (M : Mask) (_ : M.host = true) (_ : M.setter = true) (_ : M.kilns = true) (_ : M.wheels = true) (_ : M.keys = true) (_ : M.mir = true) (_ : M.store = true) (_ : M.out = true) :
    ∀ a0 s, ((State.enterKiln s a0)).blank M = s.blank M := by
  intro a0 s
  (unfold State.enterKiln; (repeat' split) <;> (simp [*]))

@[simp] theorem State.refuse_blank (M : Mask) (_ : M.setter = true) :
    ∀ a0 a1 s, ((State.refuse s a0 a1)).blank M = s.blank M := by
  intro a0 a1 s
  (simp [State.refuse, *])

@[simp] theorem State.pushQueue_blank (M : Mask) (_ : M.setter = true) :
    ∀ a0 a1 s, ((State.pushQueue s a0 a1)).blank M = s.blank M := by
  intro a0 a1 s
  (simp [State.pushQueue, *])

@[simp] theorem State.admitWare_blank (M : Mask) (_ : M.setter = true) (_ : M.keys = true) :
    ∀ a0 a1 a2 s, ((State.admitWare s a0 a1 a2)).blank M = s.blank M := by
  intro a0 a1 a2 s
  (simp [State.admitWare, blank_ite, blank_when, *])

@[simp] theorem State.classify_blank (M : Mask) (_ : M.setter = true) (_ : M.keys = true) (_ : M.routing = true) :
    ∀ a0 a1 s, ((State.classify s a0 a1)).blank M = s.blank M := by
  intro a0 a1 s
  (unfold State.classify; dsimp only; (repeat' split) <;> (simp [*]))

@[simp] theorem State.raiseCeiling_blank (M : Mask) (_ : M.mir = true) :
    ∀ a0 a1 a2 s, ((State.raiseCeiling s a0 a1 a2)).blank M = s.blank M := by
  intro a0 a1 a2 s
  (simp [State.raiseCeiling, *])

@[simp] theorem State.takeCounter_blank (M : Mask) (_ : M.setter = true) (_ : M.keys = true) (_ : M.mir = true) :
    ∀ a0 a1 a2 s, ((State.takeCounter s a0 a1 a2)).blank M = s.blank M := by
  intro a0 a1 a2 s
  (unfold State.takeCounter; split <;> simp [*])

@[simp] theorem State.allocateCounter_blank (M : Mask) (_ : M.setter = true) (_ : M.keys = true) (_ : M.mir = true) :
    ∀ a0 a1 s, ((State.allocateCounter s a0 a1)).blank M = s.blank M := by
  intro a0 a1 s
  (unfold State.allocateCounter; (repeat' split) <;> (simp [*]))

@[simp] theorem State.placeIn_blank (M : Mask) (_ : M.host = true) (_ : M.setter = true) (_ : M.kilns = true) (_ : M.wheels = true) (_ : M.keys = true) (_ : M.mir = true) (_ : M.store = true) (_ : M.out = true) :
    ∀ a0 a1 a2 s, ((State.placeIn s a0 a1 a2)).blank M = s.blank M := by
  intro a0 a1 a2 s
  (simp [State.placeIn, *])

@[simp] theorem State.replayed_blank (M : Mask) (_ : M.setter = true) :
    ∀ a0 a1 s, ((State.replayed s a0 a1)).blank M = s.blank M := by
  intro a0 a1 s
  (simp [State.replayed, *])

@[simp] theorem State.lookupPlace_blank (M : Mask) (_ : M.host = true) (_ : M.setter = true) (_ : M.kilns = true) (_ : M.wheels = true) (_ : M.keys = true) (_ : M.mir = true) (_ : M.store = true) (_ : M.out = true) :
    ∀ a0 a1 a2 s, ((State.lookupPlace s a0 a1 a2)).blank M = s.blank M := by
  intro a0 a1 a2 s
  (unfold State.lookupPlace; (repeat' split) <;> (simp [*]))

@[simp] theorem State.place_blank (M : Mask) (_ : M.host = true) (_ : M.setter = true) (_ : M.kilns = true) (_ : M.wheels = true) (_ : M.keys = true) (_ : M.mir = true) (_ : M.store = true) (_ : M.out = true) :
    ∀ a0 s, ((State.place s a0)).blank M = s.blank M := by
  intro a0 s
  (unfold State.place; dsimp only; (repeat' split) <;> (simp [*]))

@[simp] theorem State.takeHead_blank (M : Mask) (_ : M.setter = true) :
    ∀ a0 a1 s, ((State.takeHead s a0 a1)).blank M = s.blank M := by
  intro a0 a1 s
  (simp [State.takeHead, *])

@[simp] theorem State.dispatchFrom_blank (M : Mask) (_ : M.host = true) (_ : M.setter = true) (_ : M.kilns = true) (_ : M.wheels = true) (_ : M.keys = true) (_ : M.mir = true) (_ : M.store = true) (_ : M.out = true) :
    ∀ cs s, (State.dispatchFrom s cs).blank M = s.blank M := by
  intro cs
  induction cs with
  | nil => intro s; rfl
  | cons c cs ih =>
    intro s
    simp only [State.dispatchFrom]
    (repeat' split) <;> simp [*]

@[simp] theorem State.settleEpoch_blank (M : Mask) (_ : M.keys = true) :
    ∀ a0 s, ((State.settleEpoch s a0)).blank M = s.blank M := by
  intro a0 s
  (simp [State.settleEpoch, blank_ite, *])

@[simp] theorem State.settleEpochs_blank (M : Mask) (_ : M.keys = true) :
    ∀ s, ((State.settleEpochs s)).blank M = s.blank M := by
  intro s
  (simp [State.settleEpochs, blank_forEach, *])

@[simp] theorem State.beginEpoch_blank (M : Mask) (_ : M.host = true) (_ : M.keys = true) (_ : M.log = true) (_ : M.out = true) :
    ∀ a0 a1 a2 s, ((State.beginEpoch s a0 a1 a2)).blank M = s.blank M := by
  intro a0 a1 a2 s
  (simp [State.beginEpoch, *])

@[simp] theorem State.confirmEpoch_blank (M : Mask) (_ : M.kilns = true) (_ : M.keys = true) :
    ∀ a0 a1 s, ((State.confirmEpoch s a0 a1)).blank M = s.blank M := by
  intro a0 a1 s
  (simp [State.confirmEpoch, blank_when, *])

@[simp] theorem State.confirmAll_blank (M : Mask) (_ : M.kilns = true) (_ : M.keys = true) :
    ∀ a0 s, ((State.confirmAll s a0)).blank M = s.blank M := by
  intro a0 s
  (simp [State.confirmAll, blank_forEach, *])

@[simp] theorem State.takeNotice_blank (M : Mask) (_ : M.host = true) (_ : M.setter = true) (_ : M.kilns = true) (_ : M.wheels = true) (_ : M.keys = true) (_ : M.store = true) (_ : M.out = true) :
    ∀ a0 a1 s, ((State.takeNotice s a0 a1)).blank M = s.blank M := by
  intro a0 a1 s
  (simp [State.takeNotice, blank_forEach, *])

@[simp] theorem State.takeSnapshot_blank (M : Mask) (_ : M.setter = true) :
    ∀ s, ((State.takeSnapshot s)).blank M = s.blank M := by
  intro s
  (simp [State.takeSnapshot, blank_when, *])

@[simp] theorem State.logGroup_blank (M : Mask) (_ : M.mir = true) :
    ∀ a0 a1 s, ((State.logGroup s a0 a1)).blank M = s.blank M := by
  intro a0 a1 s
  (simp [State.logGroup, *])

@[simp] theorem State.mirIrq_blank (M : Mask) (_ : M.host = true) (_ : M.mir = true) (_ : M.log = true) (_ : M.out = true) :
    ∀ a0 s, ((State.mirIrq s a0)).blank M = s.blank M := by
  intro a0 s
  (simp [State.mirIrq, blank_ite, *])

@[simp] theorem State.mirEvent_blank (M : Mask) (_ : M.host = true) (_ : M.mir = true) (_ : M.log = true) (_ : M.out = true) :
    ∀ a0 s, ((State.mirEvent s a0)).blank M = s.blank M := by
  intro a0 s
  (simp [State.mirEvent, *])

@[simp] theorem State.partnerViol_blank (M : Mask) (_ : M.host = true) (_ : M.mir = true) (_ : M.log = true) (_ : M.out = true) :
    ∀ a0 a1 s, ((State.partnerViol s a0 a1)).blank M = s.blank M := by
  intro a0 a1 s
  (simp [State.partnerViol, blank_ite, *])

@[simp] theorem State.linkDown_blank (M : Mask) (_ : M.host = true) (_ : M.mir = true) (_ : M.log = true) (_ : M.out = true) :
    ∀ a0 s, ((State.linkDown s a0)).blank M = s.blank M := by
  intro a0 s
  (simp [State.linkDown, blank_ite, *])

@[simp] theorem State.mirrorReset_blank (M : Mask) (_ : M.host = true) (_ : M.mir = true) (_ : M.log = true) (_ : M.out = true) :
    ∀ s, ((State.mirrorReset s)).blank M = s.blank M := by
  intro s
  (simp [State.mirrorReset, *])

@[simp] theorem State.linkMirrored_blank (M : Mask) (_ : M.host = true) (_ : M.mir = true) (_ : M.log = true) (_ : M.out = true) :
    ∀ s, ((State.linkMirrored s)).blank M = s.blank M := by
  intro s
  (simp [State.linkMirrored, *])

@[simp] theorem State.raiseGen_blank (M : Mask) (_ : M.host = true) (_ : M.mir = true) (_ : M.log = true) (_ : M.out = true) :
    ∀ s, ((State.raiseGen s)).blank M = s.blank M := by
  intro s
  (simp [State.raiseGen, blank_ite, *])

@[simp] theorem State.sendControl_blank (M : Mask) (_ : M.mir = true) :
    ∀ a0 a1 a2 s, ((State.sendControl s a0 a1 a2)).blank M = s.blank M := by
  intro a0 a1 a2 s
  (simp [State.sendControl, *])

@[simp] theorem State.noteControl_blank (M : Mask) (_ : M.mir = true) :
    ∀ a0 a1 s, ((State.noteControl s a0 a1)).blank M = s.blank M := by
  intro a0 a1 s
  (simp [State.noteControl, blank_ite, *])

@[simp] theorem State.advanceBepoch_blank (M : Mask) (_ : M.host = true) (_ : M.keys = true) (_ : M.log = true) (_ : M.out = true) :
    ∀ a0 s, ((State.advanceBepoch s a0)).blank M = s.blank M := by
  intro a0 s
  (simp [State.advanceBepoch, *])

@[simp] theorem State.autoAdvance_blank (M : Mask) (_ : M.host = true) (_ : M.keys = true) (_ : M.log = true) (_ : M.out = true) :
    ∀ a0 s, ((State.autoAdvance s a0)).blank M = s.blank M := by
  intro a0 s
  (simp [State.autoAdvance, blank_ite, *])

@[simp] theorem State.countWrap_blank (M : Mask) (_ : M.host = true) (_ : M.keys = true) (_ : M.mir = true) (_ : M.log = true) (_ : M.out = true) :
    ∀ a0 a1 s, ((State.countWrap s a0 a1)).blank M = s.blank M := by
  intro a0 a1 s
  (unfold State.countWrap; dsimp only; (repeat' split) <;> (simp [*]))

@[simp] theorem State.writeOperands_blank (M : Mask) (_ : M.store = true) (_ : M.mem = true) :
    ∀ g p d ins s, (State.writeOperands s g p d ins).blank M = s.blank M := by
  intro g p d ins s
  unfold State.writeOperands
  dsimp only
  rw [State.memWriteAll_blank M (by assumption) (by assumption)]
  generalize List.range ins.length = l
  induction l generalizing s with
  | nil => rfl
  | cons j l ih => simp only [List.foldl_cons]; rw [ih]; simp [*]

@[simp] theorem State.loadOperands_blank (M : Mask) (_ : M.wheels = true) (_ : M.store = true) (_ : M.mem = true) :
    ∀ a0 a1 a2 a3 s, ((State.loadOperands s a0 a1 a2 a3).1).blank M = s.blank M := by
  intro a0 a1 a2 a3 s
  (unfold State.loadOperands; dsimp only; (repeat' split) <;> (simp [*]))

@[simp] theorem State.writeOut_blank (M : Mask) (_ : M.store = true) (_ : M.mem = true) :
    ∀ a0 a1 a2 s, ((State.writeOut s a0 a1 a2)).blank M = s.blank M := by
  intro a0 a1 a2 s
  (simp [State.writeOut, *])

@[simp] theorem State.endFiring_blank (M : Mask) (_ : M.host = true) (_ : M.setter = true) (_ : M.kilns = true) (_ : M.wheels = true) (_ : M.keys = true) (_ : M.mir = true) (_ : M.store = true) (_ : M.out = true) :
    ∀ a0 a1 a2 s, ((State.endFiring s a0 a1 a2)).blank M = s.blank M := by
  intro a0 a1 a2 s
  (unfold State.endFiring; split <;> simp [*])

@[simp] theorem State.abortFiring_blank (M : Mask) (_ : M.host = true) (_ : M.setter = true) (_ : M.kilns = true) (_ : M.wheels = true) (_ : M.keys = true) (_ : M.mir = true) (_ : M.store = true) (_ : M.out = true) :
    ∀ a0 a1 s, ((State.abortFiring s a0 a1)).blank M = s.blank M := by
  intro a0 a1 s
  (unfold State.abortFiring; (repeat' split) <;> (simp [blank_when, *]))

@[simp] theorem State.faultDue_blank (M : Mask) (_ : M.flt = true) :
    ∀ a0 a1 a2 s, ((State.faultDue s a0 a1 a2)).blank M = s.blank M := by
  intro a0 a1 a2 s
  (simp [State.faultDue, *])

@[simp] theorem State.foreignLine_blank (M : Mask) (_ : M.host = true) (_ : M.setter = true) (_ : M.kilns = true) (_ : M.wheels = true) (_ : M.keys = true) (_ : M.mir = true) (_ : M.flt = true) (_ : M.store = true) (_ : M.out = true) :
    ∀ a0 a1 s, ((State.foreignLine s a0 a1)).blank M = s.blank M := by
  intro a0 a1 s
  (simp [State.foreignLine, *])

@[simp] theorem State.setKey_blank (M : Mask) (_ : M.setter = true) :
    ∀ a0 a1 a2 a3 s, ((State.setKey s a0 a1 a2 a3)).blank M = s.blank M := by
  intro a0 a1 a2 a3 s
  (simp [State.setKey, *])

@[simp] theorem State.lookupHandle_blank (M : Mask) (_ : M.host = true) (_ : M.setter = true) (_ : M.kilns = true) (_ : M.wheels = true) (_ : M.keys = true) (_ : M.mir = true) (_ : M.store = true) (_ : M.out = true) :
    ∀ a0 a1 a2 a3 a4 a5 s, ((State.lookupHandle s a0 a1 a2 a3 a4 a5).1).blank M = s.blank M := by
  intro a0 a1 a2 a3 a4 a5 s
  (unfold State.lookupHandle; dsimp only; (repeat' split) <;> (simp [*]))

@[simp] theorem State.lookupField_blank (M : Mask) (_ : M.host = true) (_ : M.setter = true) (_ : M.kilns = true) (_ : M.wheels = true) (_ : M.keys = true) (_ : M.mir = true) (_ : M.store = true) (_ : M.out = true) :
    ∀ a0 a1 a2 a3 a4 s, ((State.lookupField s a0 a1 a2 a3 a4).1).blank M = s.blank M := by
  intro a0 a1 a2 a3 a4 s
  (unfold State.lookupField; dsimp only; (repeat' split) <;> (simp [*]))

@[simp] theorem State.lookupFields_blank (M : Mask) (_ : M.host = true) (_ : M.setter = true) (_ : M.kilns = true) (_ : M.wheels = true) (_ : M.keys = true) (_ : M.mir = true) (_ : M.store = true) (_ : M.out = true) :
    ∀ tag u fs s, (State.lookupFields tag u fs s).1.blank M = s.blank M := by
  intro tag u fs
  induction fs with
  | nil => intro s; rfl
  | cons f fs ih =>
    intro s
    obtain ⟨j, r⟩ := f
    simp only [State.lookupFields]
    split
    · rfl
    · split
      · exact ih s
      · rename_i w _ _
        have h := State.lookupField_blank M (by assumption) (by assumption) (by assumption) (by assumption) (by assumption) (by assumption) (by assumption) (by assumption) tag w u j r s
        split <;> simp_all

@[simp] theorem State.settleCounter_blank (M : Mask) (_ : M.setter = true) (_ : M.keys = true) (_ : M.mir = true) :
    ∀ a0 a1 a2 s, ((State.settleCounter s a0 a1 a2)).blank M = s.blank M := by
  intro a0 a1 a2 s
  (unfold State.settleCounter; dsimp only; (repeat' split) <;> (simp [*]))

@[simp] theorem State.claimTimestamp_blank (M : Mask) (_ : M.host = true) (_ : M.setter = true) (_ : M.kilns = true) (_ : M.wheels = true) (_ : M.keys = true) (_ : M.mir = true) (_ : M.store = true) (_ : M.out = true) :
    ∀ a0 a1 a2 s, ((State.claimTimestamp s a0 a1 a2).1).blank M = s.blank M := by
  intro a0 a1 a2 s
  (unfold State.claimTimestamp; dsimp only; (repeat' split) <;> (simp [*]))

@[simp] theorem State.prepareStep_blank (M : Mask) (_ : M.host = true) (_ : M.setter = true) (_ : M.kilns = true) (_ : M.wheels = true) (_ : M.keys = true) (_ : M.mir = true) (_ : M.store = true) (_ : M.out = true) :
    ∀ tag u s, (State.prepareStep s tag u).1.blank M = s.blank M := by
  intro tag u s
  unfold State.prepareStep
  split
  · rfl
  · rename_i w _
    split
    · simp [*]
    · have h := State.lookupFields_blank M (by assumption) (by assumption) (by assumption) (by assumption) (by assumption) (by assumption) (by assumption) (by assumption) tag u ((List.range 3).zip (w.fields u)) s
      split
      · simp_all
      · rename_i s' hs
        rw [hs] at h
        split
        · exact h
        · rename_i w' _
          split
          · simp_all
          · have h2 := State.claimTimestamp_blank M (by assumption) (by assumption) (by assumption) (by assumption) (by assumption) (by assumption) (by assumption) (by assumption) tag w' u s'
            have h3 : ((if u.code = 0x0722 then s'.claimTimestamp tag w' u else (s', Prep.go)).1).blank M = s.blank M := by
              split <;> simp_all
            split
            · simp_all
            · rename_i s'' hs''
              rw [hs''] at h3
              dsimp only
              have h4 : (s''.settleCounter tag w' u).blank M = s.blank M := by
                rw [State.settleCounter_blank M (by assumption) (by assumption) (by assumption)]; exact h3
              split <;> simp [*]

@[simp] theorem State.prepareSteps_blank (M : Mask) (_ : M.host = true) (_ : M.setter = true) (_ : M.kilns = true) (_ : M.wheels = true) (_ : M.keys = true) (_ : M.mir = true) (_ : M.store = true) (_ : M.out = true) :
    ∀ tag us s, (State.prepareSteps tag us s).1.blank M = s.blank M := by
  intro tag us
  induction us with
  | nil => intro s; rfl
  | cons u us ih =>
    intro s
    simp only [State.prepareSteps]
    have h := State.prepareStep_blank M (by assumption) (by assumption) (by assumption) (by assumption) (by assumption) (by assumption) (by assumption) (by assumption) tag u s
    split <;> simp_all

@[simp] theorem State.entropyRefused_blank (M : Mask) (_ : M.host = true) (_ : M.setter = true) (_ : M.kilns = true) (_ : M.wheels = true) (_ : M.keys = true) (_ : M.ent = true) (_ : M.mir = true) (_ : M.store = true) (_ : M.out = true) :
    ∀ a0 a1 a2 s, ((State.entropyRefused s a0 a1 a2)).blank M = s.blank M := by
  intro a0 a1 a2 s
  (simp [State.entropyRefused, blank_ite, blank_when, *])

@[simp] theorem State.operandLoad_blank (M : Mask) (_ : M.wheels = true) (_ : M.store = true) (_ : M.mem = true) :
    ∀ a0 s, ((State.operandLoad s a0).1).blank M = s.blank M := by
  intro a0 s
  (unfold State.operandLoad; dsimp only; (repeat' split) <;> (simp [*]))

@[simp] theorem State.loadFails_blank (M : Mask) (_ : M.host = true) (_ : M.setter = true) (_ : M.kilns = true) (_ : M.wheels = true) (_ : M.keys = true) (_ : M.mir = true) (_ : M.flt = true) (_ : M.store = true) (_ : M.out = true) :
    ∀ a0 s, ((State.loadFails s a0)).blank M = s.blank M := by
  intro a0 s
  (unfold State.loadFails; split <;> simp [*])

@[simp] theorem State.beginStep_blank (M : Mask) (_ : M.host = true) (_ : M.setter = true) (_ : M.kilns = true) (_ : M.wheels = true) (_ : M.keys = true) (_ : M.mir = true) (_ : M.flt = true) (_ : M.store = true) (_ : M.mem = true) (_ : M.out = true) :
    ∀ tag s, (State.beginStep s tag).blank M = s.blank M := by
  intro tag s
  unfold State.beginStep
  have h := State.operandLoad_blank M (by assumption) (by assumption) (by assumption) tag s
  split <;> simp_all

@[simp] theorem State.startShape_blank (M : Mask) (_ : M.setter = true) (_ : M.kilns = true) (_ : M.freeCtr = true) :
    ∀ a0 a1 s, ((State.startShape s a0 a1)).blank M = s.blank M := by
  intro a0 a1 s
  (simp [State.startShape, blank_ite, *])

@[simp] theorem State.claimWheel_blank (M : Mask) (_ : M.host = true) (_ : M.setter = true) (_ : M.kilns = true) (_ : M.wheels = true) (_ : M.keys = true) (_ : M.mir = true) (_ : M.flt = true) (_ : M.store = true) (_ : M.mem = true) (_ : M.freeCtr = true) (_ : M.out = true) :
    ∀ tag w r s, (State.claimWheel s tag w r).blank M = s.blank M := by
  intro tag w r s
  unfold State.claimWheel
  dsimp only
  split
  · simp [*]
  · split
    · simp [*]
    · split
      · simp [*]
      · rename_i p _
        split <;> rename_i s' hs
        · have h := congrArg (fun x => x.1.blank M) hs
          simp only [State.operandLoad_blank M (by assumption) (by assumption) (by assumption)] at h
          rw [State.startShape_blank M (by assumption) (by assumption) (by assumption), ← h]
          simp [*]
        · have h := congrArg (fun x => x.1.blank M) hs
          simp only [State.operandLoad_blank M (by assumption) (by assumption) (by assumption)] at h
          rw [State.loadFails_blank M (by assumption) (by assumption) (by assumption) (by assumption) (by assumption) (by assumption) (by assumption) (by assumption) (by assumption), ← h]
          simp [*]

@[simp] theorem State.reserve_blank (M : Mask) (_ : M.host = true) (_ : M.setter = true) (_ : M.kilns = true) (_ : M.wheels = true) (_ : M.keys = true) (_ : M.ent = true) (_ : M.mir = true) (_ : M.flt = true) (_ : M.log = true) (_ : M.store = true) (_ : M.mem = true) (_ : M.freeCtr = true) (_ : M.out = true) :
    ∀ tag s, (State.reserve s tag).blank M = s.blank M := by
  intro tag s
  unfold State.reserve
  split
  · rfl
  · rename_i w _
    dsimp only
    have h := State.drbgBytes_blank M (by assumption) (by assumption) (by assumption) (by assumption) w.kiln (s.randomOf w).sum (callInput w tag w.code) s
    split
    · simp [*]
    · split <;> simp_all

@[simp] theorem State.prepare_blank (M : Mask) (_ : M.host = true) (_ : M.setter = true) (_ : M.kilns = true) (_ : M.wheels = true) (_ : M.keys = true) (_ : M.ent = true) (_ : M.mir = true) (_ : M.flt = true) (_ : M.log = true) (_ : M.store = true) (_ : M.mem = true) (_ : M.freeCtr = true) (_ : M.out = true) :
    ∀ tag s, (State.prepare s tag).blank M = s.blank M := by
  intro tag s
  unfold State.prepare
  split
  · rfl
  · rename_i w _
    have h := State.prepareSteps_blank M (by assumption) (by assumption) (by assumption) (by assumption) (by assumption) (by assumption) (by assumption) (by assumption) tag (w.allSteps.drop w.prepared) s
    split <;> simp_all

@[simp] theorem State.takeWare_blank (M : Mask) (_ : M.host = true) (_ : M.setter = true) (_ : M.kilns = true) (_ : M.wheels = true) (_ : M.keys = true) (_ : M.ent = true) (_ : M.mir = true) (_ : M.flt = true) (_ : M.log = true) (_ : M.store = true) (_ : M.mem = true) (_ : M.freeCtr = true) (_ : M.out = true) :
    ∀ a0 a1 a2 s, ((State.takeWare s a0 a1 a2)).blank M = s.blank M := by
  intro a0 a1 a2 s
  (unfold State.takeWare; (repeat' split) <;> (simp [*]))

@[simp] theorem State.resume_blank (M : Mask) (_ : M.host = true) (_ : M.setter = true) (_ : M.kilns = true) (_ : M.wheels = true) (_ : M.keys = true) (_ : M.mir = true) (_ : M.flt = true) (_ : M.store = true) (_ : M.mem = true) (_ : M.out = true) :
    ∀ a0 a1 a2 s, ((State.resume s a0 a1 a2)).blank M = s.blank M := by
  intro a0 a1 a2 s
  (simp [State.resume, *])

@[simp] theorem State.engineTakes_blank (M : Mask) (_ : M.host = true) (_ : M.setter = true) (_ : M.kilns = true) (_ : M.wheels = true) (_ : M.keys = true) (_ : M.ent = true) (_ : M.mir = true) (_ : M.flt = true) (_ : M.log = true) (_ : M.store = true) (_ : M.mem = true) (_ : M.freeCtr = true) (_ : M.out = true) :
    ∀ a0 a1 s, ((State.engineTakes s a0 a1)).blank M = s.blank M := by
  intro a0 a1 s
  (unfold State.engineTakes; dsimp only; (repeat' split) <;> (simp [*]))

@[simp] theorem State.writeDelta_blank (M : Mask) (_ : M.setter = true) (_ : M.keys = true) (_ : M.mir = true) :
    ∀ a0 a1 a2 s, ((State.writeDelta s a0 a1 a2)).blank M = s.blank M := by
  intro a0 a1 a2 s
  (unfold State.writeDelta; dsimp only; (repeat' split) <;> (simp [*]))

@[simp] theorem State.endOk_blank (M : Mask) (_ : M.host = true) (_ : M.setter = true) (_ : M.kilns = true) (_ : M.wheels = true) (_ : M.keys = true) (_ : M.mir = true) (_ : M.store = true) (_ : M.out = true) :
    ∀ a0 a1 s, ((State.endOk s a0 a1)).blank M = s.blank M := by
  intro a0 a1 s
  (unfold State.endOk; (repeat' split) <;> (simp [blank_when, *]))

@[simp] theorem State.countShape_blank (M : Mask) (_ : M.kilns = true) (_ : M.wheels = true) (_ : M.keys = true) :
    ∀ a0 a1 a2 a3 s, ((State.countShape s a0 a1 a2 a3)).blank M = s.blank M := by
  intro a0 a1 a2 a3 s
  (unfold State.countShape; (repeat' split) <;> (simp [blank_when, *]))

@[simp] theorem State.wheelWrites_blank (M : Mask) (_ : M.store = true) (_ : M.mem = true) :
    ∀ a0 a1 a2 s, ((State.wheelWrites s a0 a1 a2)).blank M = s.blank M := by
  intro a0 a1 a2 s
  (unfold State.wheelWrites; (repeat' split) <;> (simp [blank_when, *]))

@[simp] theorem State.anotherRound_blank (M : Mask) (_ : M.host = true) (_ : M.setter = true) (_ : M.kilns = true) (_ : M.wheels = true) (_ : M.keys = true) (_ : M.ent = true) (_ : M.mir = true) (_ : M.flt = true) (_ : M.log = true) (_ : M.store = true) (_ : M.mem = true) (_ : M.out = true) :
    ∀ tag w u out s, (State.anotherRound s tag w u out).blank M = s.blank M := by
  intro tag w u out s
  unfold State.anotherRound
  split
  · simp [*]
  · dsimp only
    split
    · rename_i s' r hs
      have h := congrArg (fun x => x.1.blank M) hs
      simp only [State.drbgBytes_blank M (by assumption) (by assumption) (by assumption) (by assumption)] at h
      simp [*]
    · rename_i s' hs
      have h := congrArg (fun x => x.1.blank M) hs
      simp only [State.drbgBytes_blank M (by assumption) (by assumption) (by assumption) (by assumption)] at h
      simp [*]

@[simp] theorem State.checkFails_blank (M : Mask) (_ : M.host = true) (_ : M.setter = true) (_ : M.kilns = true) (_ : M.wheels = true) (_ : M.keys = true) (_ : M.mir = true) (_ : M.flt = true) (_ : M.store = true) (_ : M.out = true) :
    ∀ a0 a1 s, ((State.checkFails s a0 a1)).blank M = s.blank M := by
  intro a0 a1 s
  (simp [State.checkFails, *])

@[simp] theorem State.endSingle_blank (M : Mask) (_ : M.host = true) (_ : M.setter = true) (_ : M.kilns = true) (_ : M.wheels = true) (_ : M.keys = true) (_ : M.ent = true) (_ : M.mir = true) (_ : M.flt = true) (_ : M.log = true) (_ : M.store = true) (_ : M.mem = true) (_ : M.out = true) :
    ∀ a0 a1 s, ((State.endSingle s a0 a1)).blank M = s.blank M := by
  intro a0 a1 s
  (unfold State.endSingle; dsimp only; (repeat' split) <;> (simp [blank_when, *]))

@[simp] theorem State.endStep_blank (M : Mask) (_ : M.host = true) (_ : M.setter = true) (_ : M.kilns = true) (_ : M.wheels = true) (_ : M.keys = true) (_ : M.ent = true) (_ : M.mir = true) (_ : M.flt = true) (_ : M.log = true) (_ : M.store = true) (_ : M.mem = true) (_ : M.out = true) :
    ∀ a0 a1 s, ((State.endStep s a0 a1)).blank M = s.blank M := by
  intro a0 a1 s
  (unfold State.endStep; dsimp only; (repeat' split) <;> (simp [blank_when, *]))

@[simp] theorem State.releaseAttached_blank (M : Mask) (_ : M.setter = true) (_ : M.mir = true) :
    ∀ a0 a1 s, ((State.releaseAttached s a0 a1)).blank M = s.blank M := by
  intro a0 a1 s
  (unfold State.releaseAttached; (repeat' split) <;> (simp [blank_forEach, *]))

@[simp] theorem State.settleReplay_blank (M : Mask) (_ : M.setter = true) (_ : M.mir = true) :
    ∀ a0 a1 a2 s, ((State.settleReplay s a0 a1 a2)).blank M = s.blank M := by
  intro a0 a1 a2 s
  (unfold State.settleReplay; dsimp only; (repeat' split) <;> (simp [*]))

@[simp] theorem State.releaseWare_blank (M : Mask) (_ : M.host = true) (_ : M.setter = true) (_ : M.mir = true) (_ : M.out = true) :
    ∀ a0 a1 a2 s, ((State.releaseWare s a0 a1 a2)).blank M = s.blank M := by
  intro a0 a1 a2 s
  (simp [State.releaseWare, blank_ite, blank_when, *])

@[simp] theorem State.setKilnState_blank (M : Mask) (_ : M.host = true) (_ : M.kilns = true) (_ : M.log = true) (_ : M.out = true) :
    ∀ a0 a1 s, ((State.setKilnState s a0 a1)).blank M = s.blank M := by
  intro a0 a1 s
  (simp [State.setKilnState, blank_ite, *])

@[simp] theorem State.coneIrq_blank (M : Mask) (_ : M.host = true) (_ : M.log = true) (_ : M.cone = true) (_ : M.out = true) :
    ∀ a0 s, ((State.coneIrq s a0)).blank M = s.blank M := by
  intro a0 s
  (simp [State.coneIrq, blank_ite, *])

@[simp] theorem State.marginRecord_blank (M : Mask) (_ : M.host = true) (_ : M.log = true) (_ : M.out = true) :
    ∀ a0 a1 a2 a3 s, ((State.marginRecord s a0 a1 a2 a3)).blank M = s.blank M := by
  intro a0 a1 a2 a3 s
  (simp [State.marginRecord, *])

@[simp] theorem State.marginNote_blank (M : Mask) (_ : M.host = true) (_ : M.log = true) (_ : M.out = true) :
    ∀ a0 a1 s, ((State.marginNote s a0 a1)).blank M = s.blank M := by
  intro a0 a1 s
  (simp [State.marginNote, *])

@[simp] theorem State.bankOff_blank (M : Mask) (_ : M.host = true) (_ : M.flt = true) (_ : M.log = true) (_ : M.out = true) :
    ∀ a0 s, ((State.bankOff s a0)).blank M = s.blank M := by
  intro a0 s
  (simp [State.bankOff, blank_forEach, *])

@[simp] theorem State.dropStaged_blank (M : Mask) (_ : M.setter = true) :
    ∀ a0 a1 s, ((State.dropStaged s a0 a1)).blank M = s.blank M := by
  intro a0 a1 s
  (simp [State.dropStaged, blank_forEach, *])

@[simp] theorem State.clearBusy_blank (M : Mask) (_ : M.setter = true) :
    ∀ a0 s, ((State.clearBusy s a0)).blank M = s.blank M := by
  intro a0 s
  (simp [State.clearBusy, *])

@[simp] theorem State.kilnOff_blank (M : Mask) (_ : M.host = true) (_ : M.setter = true) (_ : M.kilns = true) (_ : M.wheels = true) (_ : M.ent = true) (_ : M.flt = true) (_ : M.log = true) (_ : M.out = true) :
    ∀ a0 a1 s, ((State.kilnOff s a0 a1)).blank M = s.blank M := by
  intro a0 a1 s
  (simp [State.kilnOff, blank_forEach, *])

@[simp] theorem State.kilnWake_blank (M : Mask) (_ : M.host = true) (_ : M.kilns = true) (_ : M.ent = true) (_ : M.log = true) (_ : M.out = true) :
    ∀ a0 s, ((State.kilnWake s a0)).blank M = s.blank M := by
  intro a0 s
  (simp [State.kilnWake, blank_ite, *])

@[simp] theorem State.kilnUp_blank (M : Mask) (_ : M.host = true) (_ : M.kilns = true) (_ : M.log = true) (_ : M.out = true) :
    ∀ a0 s, ((State.kilnUp s a0)).blank M = s.blank M := by
  intro a0 s
  (simp [State.kilnUp, *])

@[simp] theorem State.startDrain_blank (M : Mask) (_ : M.host = true) (_ : M.setter = true) (_ : M.kilns = true) (_ : M.wheels = true) (_ : M.keys = true) (_ : M.log = true) (_ : M.store = true) (_ : M.out = true) :
    ∀ a0 a1 s, ((State.startDrain s a0 a1)).blank M = s.blank M := by
  intro a0 a1 s
  (simp [State.startDrain, blank_ite, blank_forEach, *])

@[simp] theorem State.withdraw_blank (M : Mask) (_ : M.host = true) (_ : M.kilns = true) (_ : M.log = true) (_ : M.out = true) :
    ∀ a0 s, ((State.withdraw s a0)).blank M = s.blank M := by
  intro a0 s
  (simp [State.withdraw, blank_ite, *])

@[simp] theorem State.loseKiln_blank (M : Mask) (_ : M.host = true) (_ : M.setter = true) (_ : M.kilns = true) (_ : M.wheels = true) (_ : M.keys = true) (_ : M.mir = true) (_ : M.log = true) (_ : M.store = true) (_ : M.out = true) :
    ∀ a0 s, ((State.loseKiln s a0)).blank M = s.blank M := by
  intro a0 s
  (simp [State.loseKiln, blank_forEach, *])

@[simp] theorem State.kilnReset_blank (M : Mask) (_ : M.host = true) (_ : M.setter = true) (_ : M.kilns = true) (_ : M.wheels = true) (_ : M.keys = true) (_ : M.ent = true) (_ : M.mir = true) (_ : M.log = true) (_ : M.store = true) (_ : M.out = true) :
    ∀ a0 a1 a2 a3 s, ((State.kilnReset s a0 a1 a2 a3)).blank M = s.blank M := by
  intro a0 a1 a2 a3 s
  (simp [State.kilnReset, blank_ite, blank_forEach, *])

@[simp] theorem State.promoteSpare_blank (M : Mask) (_ : M.host = true) (_ : M.kilns = true) (_ : M.ent = true) (_ : M.log = true) (_ : M.cone = true) (_ : M.out = true) :
    ∀ s, ((State.promoteSpare s)).blank M = s.blank M := by
  intro s
  (unfold State.promoteSpare; split <;> simp [*])

@[simp] theorem State.retireKiln_blank (M : Mask) (_ : M.host = true) (_ : M.setter = true) (_ : M.kilns = true) (_ : M.wheels = true) (_ : M.ent = true) (_ : M.flt = true) (_ : M.log = true) (_ : M.cone = true) (_ : M.out = true) :
    ∀ a0 s, ((State.retireKiln s a0)).blank M = s.blank M := by
  intro a0 s
  (simp [State.retireKiln, *])

@[simp] theorem State.parkThrough_blank (M : Mask) (_ : M.host = true) (_ : M.setter = true) (_ : M.kilns = true) (_ : M.wheels = true) (_ : M.keys = true) (_ : M.ent = true) (_ : M.flt = true) (_ : M.log = true) (_ : M.store = true) (_ : M.out = true) :
    ∀ a0 s, ((State.parkThrough s a0)).blank M = s.blank M := by
  intro a0 s
  (simp [State.parkThrough, blank_when, *])

@[simp] theorem State.wakeSome_blank (M : Mask) (_ : M.host = true) (_ : M.kilns = true) (_ : M.ent = true) (_ : M.log = true) (_ : M.out = true) :
    ∀ a0 s, ((State.wakeSome s a0)).blank M = s.blank M := by
  intro a0 s
  (simp [State.wakeSome, blank_forEach, *])

@[simp] theorem State.parkOne_blank (M : Mask) (_ : M.host = true) (_ : M.setter = true) (_ : M.kilns = true) (_ : M.wheels = true) (_ : M.keys = true) (_ : M.log = true) (_ : M.sys = true) (_ : M.store = true) (_ : M.out = true) :
    ∀ s, ((State.parkOne s)).blank M = s.blank M := by
  intro s
  (unfold State.parkOne; split <;> simp [*])

@[simp] theorem State.parkingDecision_blank (M : Mask) (_ : M.host = true) (_ : M.setter = true) (_ : M.kilns = true) (_ : M.wheels = true) (_ : M.keys = true) (_ : M.ent = true) (_ : M.flt = true) (_ : M.log = true) (_ : M.sys = true) (_ : M.store = true) (_ : M.out = true) :
    ∀ a0 s, ((State.parkingDecision s a0)).blank M = s.blank M := by
  intro a0 s
  (unfold State.parkingDecision; dsimp only; (repeat' split) <;> (simp [blank_forEach, *]))

@[simp] theorem State.loadBegin_blank (M : Mask) (_ : M.kilns = true) :
    ∀ a0 s, ((State.loadBegin s a0)).blank M = s.blank M := by
  intro a0 s
  (simp [State.loadBegin, *])

@[simp] theorem State.loadEnd_blank (M : Mask) (_ : M.host = true) (_ : M.kilns = true) (_ : M.log = true) (_ : M.out = true) :
    ∀ a0 a1 a2 a3 s, ((State.loadEnd s a0 a1 a2 a3)).blank M = s.blank M := by
  intro a0 a1 a2 a3 s
  (simp [State.loadEnd, blank_ite, *])

@[simp] theorem State.cerRecord_blank (M : Mask) (_ : M.host = true) (_ : M.log = true) (_ : M.out = true) :
    ∀ a0 a1 s, ((State.cerRecord s a0 a1)).blank M = s.blank M := by
  intro a0 a1 s
  (simp [State.cerRecord, *])

@[simp] theorem State.closeCeremony_blank (M : Mask) (_ : M.host = true) (_ : M.keys = true) (_ : M.cus = true) (_ : M.log = true) (_ : M.out = true) :
    ∀ a0 s, ((State.closeCeremony s a0)).blank M = s.blank M := by
  intro a0 s
  (simp [State.closeCeremony, blank_ite, *])

@[simp] theorem State.modeAbort_blank (M : Mask) (_ : M.host = true) (_ : M.setter = true) (_ : M.kilns = true) (_ : M.wheels = true) (_ : M.keys = true) (_ : M.mir = true) (_ : M.store = true) (_ : M.out = true) :
    ∀ a0 s, ((State.modeAbort s a0)).blank M = s.blank M := by
  intro a0 s
  (unfold State.modeAbort; (repeat' split) <;> (simp [blank_when, *]))

@[simp] theorem State.haltWares_blank (M : Mask) (_ : M.host = true) (_ : M.setter = true) (_ : M.kilns = true) (_ : M.wheels = true) (_ : M.keys = true) (_ : M.mir = true) (_ : M.store = true) (_ : M.out = true) :
    ∀ s, ((State.haltWares s)).blank M = s.blank M := by
  intro s
  (simp [State.haltWares, blank_forEach, *])

@[simp] theorem State.haltKilns_blank (M : Mask) (_ : M.host = true) (_ : M.setter = true) (_ : M.kilns = true) (_ : M.wheels = true) (_ : M.keys = true) (_ : M.ent = true) (_ : M.flt = true) (_ : M.log = true) (_ : M.store = true) (_ : M.out = true) :
    ∀ s, ((State.haltKilns s)).blank M = s.blank M := by
  intro s
  (simp [State.haltKilns, blank_forEach, *])

@[simp] theorem State.modRunning_blank (M : Mask) (_ : M.fw = true) :
    ∀ a0 s, ((State.modRunning s a0)).blank M = s.blank M := by
  intro a0 s
  (simp [State.modRunning, *])

@[simp] theorem State.trialReached_blank (M : Mask) (_ : M.fw = true) :
    ∀ s, ((State.trialReached s)).blank M = s.blank M := by
  intro s
  (simp [State.trialReached, *])

@[simp] theorem State.enterMode_blank (M : Mask) (_ : M.host = true) (_ : M.setter = true) (_ : M.kilns = true) (_ : M.wheels = true) (_ : M.keys = true) (_ : M.ent = true) (_ : M.fw = true) (_ : M.mir = true) (_ : M.flt = true) (_ : M.log = true) (_ : M.sys = true) (_ : M.store = true) (_ : M.out = true) :
    ∀ a0 a1 s, ((State.enterMode s a0 a1)).blank M = s.blank M := by
  intro a0 a1 s
  (simp [State.enterMode, blank_ite, *])

@[simp] theorem State.guardActs_blank (M : Mask) (_ : M.host = true) (_ : M.setter = true) (_ : M.kilns = true) (_ : M.wheels = true) (_ : M.keys = true) (_ : M.ent = true) (_ : M.fw = true) (_ : M.cus = true) (_ : M.mir = true) (_ : M.flt = true) (_ : M.log = true) (_ : M.sys = true) (_ : M.store = true) (_ : M.out = true) :
    ∀ a0 s, ((State.guardActs s a0)).blank M = s.blank M := by
  intro a0 s
  (unfold State.guardActs; dsimp only; (repeat' split) <;> (simp [*]))

@[simp] theorem State.storeLost_blank (M : Mask) (_ : M.keys = true) (_ : M.routing = true) (_ : M.mir = true) (_ : M.store = true) (_ : M.mem = true) :
    ∀ s, ((State.storeLost s)).blank M = s.blank M := by
  intro s
  (simp [State.storeLost, State.blank, *])

@[simp] theorem State.eraseSecrets_blank (M : Mask) (_ : M.host = true) (_ : M.kilns = true) (_ : M.wheels = true) (_ : M.keys = true) (_ : M.routing = true) (_ : M.ent = true) (_ : M.cus = true) (_ : M.mir = true) (_ : M.store = true) (_ : M.mem = true) :
    ∀ s, (State.eraseSecrets s).blank M = s.blank M := by
  intro s
  unfold State.eraseSecrets
  dsimp only
  rw [State.storeLost_blank M (by assumption) (by assumption) (by assumption) (by assumption) (by assumption), State.modRouting_blank M (by assumption),
    State.modCus_blank M (by assumption), blank_forEach _ _ _ _ (by intro b s; simp [*]), State.modMir_blank M (by assumption),
    State.modEnt_blank M (by assumption), blank_forEach _ _ _ _ (by intro d s; simp [*])]
  simp [State.blank, *]

@[simp] theorem State.eraseActs_blank (M : Mask) (_ : M.host = true) (_ : M.setter = true) (_ : M.kilns = true) (_ : M.wheels = true) (_ : M.keys = true) (_ : M.routing = true) (_ : M.ent = true) (_ : M.fw = true) (_ : M.cus = true) (_ : M.mir = true) (_ : M.tmp = true) (_ : M.flt = true) (_ : M.log = true) (_ : M.sys = true) (_ : M.store = true) (_ : M.mem = true) (_ : M.out = true) :
    ∀ a0 s, ((State.eraseActs s a0)).blank M = s.blank M := by
  intro a0 s
  (simp [State.eraseActs, blank_ite, *])

@[simp] theorem State.drainIfLost_blank (M : Mask) (_ : M.host = true) (_ : M.setter = true) (_ : M.kilns = true) (_ : M.wheels = true) (_ : M.keys = true) (_ : M.ent = true) (_ : M.fw = true) (_ : M.mir = true) (_ : M.flt = true) (_ : M.log = true) (_ : M.sys = true) (_ : M.store = true) (_ : M.out = true) :
    ∀ s, ((State.drainIfLost s)).blank M = s.blank M := by
  intro s
  (simp [State.drainIfLost, blank_ite, *])

@[simp] theorem State.lastKilnLost_blank (M : Mask) (_ : M.host = true) (_ : M.setter = true) (_ : M.kilns = true) (_ : M.wheels = true) (_ : M.keys = true) (_ : M.ent = true) (_ : M.fw = true) (_ : M.mir = true) (_ : M.flt = true) (_ : M.log = true) (_ : M.cone = true) (_ : M.sys = true) (_ : M.store = true) (_ : M.out = true) :
    ∀ a0 s, ((State.lastKilnLost s a0)).blank M = s.blank M := by
  intro a0 s
  (simp [State.lastKilnLost, *])

@[simp] theorem State.lastKilnBack_blank (M : Mask) (_ : M.host = true) (_ : M.setter = true) (_ : M.kilns = true) (_ : M.wheels = true) (_ : M.keys = true) (_ : M.ent = true) (_ : M.fw = true) (_ : M.mir = true) (_ : M.flt = true) (_ : M.log = true) (_ : M.cone = true) (_ : M.sys = true) (_ : M.store = true) (_ : M.out = true) :
    ∀ s, ((State.lastKilnBack s)).blank M = s.blank M := by
  intro s
  (simp [State.lastKilnBack, blank_ite, *])

@[simp] theorem State.modTsource_blank (M : Mask) (_ : M.tmp = true) :
    ∀ a0 a1 s, ((State.modTsource s a0 a1)).blank M = s.blank M := by
  intro a0 a1 s
  (simp [State.modTsource, *])

@[simp] theorem State.addEvidence_blank (M : Mask) (_ : M.host = true) (_ : M.tmp = true) (_ : M.log = true) (_ : M.out = true) :
    ∀ a0 a1 a2 a3 a4 s, ((State.addEvidence s a0 a1 a2 a3 a4)).blank M = s.blank M := by
  intro a0 a1 a2 a3 a4 s
  (simp [State.addEvidence, blank_ite, *])

@[simp] theorem State.raiseAlarm_blank (M : Mask) (_ : M.host = true) (_ : M.tmp = true) (_ : M.log = true) (_ : M.out = true) :
    ∀ a0 s, ((State.raiseAlarm s a0)).blank M = s.blank M := by
  intro a0 s
  (simp [State.raiseAlarm, blank_ite, *])

@[simp] theorem State.respond_blank (M : Mask) (_ : M.host = true) (_ : M.setter = true) (_ : M.kilns = true) (_ : M.wheels = true) (_ : M.keys = true) (_ : M.routing = true) (_ : M.ent = true) (_ : M.fw = true) (_ : M.cus = true) (_ : M.mir = true) (_ : M.tmp = true) (_ : M.flt = true) (_ : M.log = true) (_ : M.sys = true) (_ : M.store = true) (_ : M.mem = true) (_ : M.out = true) :
    ∀ a0 s, ((State.respond s a0)).blank M = s.blank M := by
  intro a0 s
  (simp [State.respond, blank_ite, *])

@[simp] theorem State.assertNow_blank (M : Mask) (_ : M.host = true) (_ : M.setter = true) (_ : M.kilns = true) (_ : M.wheels = true) (_ : M.keys = true) (_ : M.routing = true) (_ : M.ent = true) (_ : M.fw = true) (_ : M.cus = true) (_ : M.mir = true) (_ : M.tmp = true) (_ : M.flt = true) (_ : M.log = true) (_ : M.sys = true) (_ : M.store = true) (_ : M.mem = true) (_ : M.out = true) :
    ∀ a0 s, ((State.assertNow s a0)).blank M = s.blank M := by
  intro a0 s
  (simp [State.assertNow, blank_ite, *])

@[simp] theorem State.sourceOn_blank (M : Mask) (_ : M.host = true) (_ : M.setter = true) (_ : M.kilns = true) (_ : M.wheels = true) (_ : M.keys = true) (_ : M.routing = true) (_ : M.ent = true) (_ : M.fw = true) (_ : M.cus = true) (_ : M.mir = true) (_ : M.tmp = true) (_ : M.flt = true) (_ : M.log = true) (_ : M.sys = true) (_ : M.store = true) (_ : M.mem = true) (_ : M.out = true) :
    ∀ a0 a1 a2 a3 s, ((State.sourceOn s a0 a1 a2 a3)).blank M = s.blank M := by
  intro a0 a1 a2 a3 s
  (simp [State.sourceOn, blank_ite, *])

@[simp] theorem State.ownOn_blank (M : Mask) (_ : M.host = true) (_ : M.setter = true) (_ : M.kilns = true) (_ : M.wheels = true) (_ : M.keys = true) (_ : M.routing = true) (_ : M.ent = true) (_ : M.fw = true) (_ : M.cus = true) (_ : M.mir = true) (_ : M.tmp = true) (_ : M.flt = true) (_ : M.log = true) (_ : M.sys = true) (_ : M.store = true) (_ : M.mem = true) (_ : M.out = true) :
    ∀ a0 a1 a2 s, ((State.ownOn s a0 a1 a2)).blank M = s.blank M := by
  intro a0 a1 a2 s
  (simp [State.ownOn, *])

@[simp] theorem State.sourceOff_blank (M : Mask) (_ : M.host = true) (_ : M.tmp = true) (_ : M.log = true) (_ : M.out = true) :
    ∀ a0 s, ((State.sourceOff s a0)).blank M = s.blank M := by
  intro a0 s
  (simp [State.sourceOff, blank_ite, *])

@[simp] theorem State.doubleMismatch_blank (M : Mask) (_ : M.host = true) (_ : M.setter = true) (_ : M.kilns = true) (_ : M.wheels = true) (_ : M.keys = true) (_ : M.routing = true) (_ : M.ent = true) (_ : M.fw = true) (_ : M.cus = true) (_ : M.mir = true) (_ : M.tmp = true) (_ : M.flt = true) (_ : M.log = true) (_ : M.sys = true) (_ : M.store = true) (_ : M.mem = true) (_ : M.out = true) :
    ∀ a0 s, ((State.doubleMismatch s a0)).blank M = s.blank M := by
  intro a0 s
  (simp [State.doubleMismatch, *])

@[simp] theorem State.beatFailed_blank (M : Mask) (_ : M.host = true) (_ : M.setter = true) (_ : M.kilns = true) (_ : M.wheels = true) (_ : M.keys = true) (_ : M.routing = true) (_ : M.ent = true) (_ : M.fw = true) (_ : M.cus = true) (_ : M.mir = true) (_ : M.tmp = true) (_ : M.flt = true) (_ : M.log = true) (_ : M.sys = true) (_ : M.store = true) (_ : M.mem = true) (_ : M.out = true) :
    ∀ s, ((State.beatFailed s)).blank M = s.blank M := by
  intro s
  (simp [State.beatFailed, blank_ite, *])

@[simp] theorem State.backupAssert_blank (M : Mask) (_ : M.host = true) (_ : M.keys = true) (_ : M.tmp = true) (_ : M.log = true) (_ : M.out = true) :
    ∀ a0 a1 a2 a3 s, ((State.backupAssert s a0 a1 a2 a3)).blank M = s.blank M := by
  intro a0 a1 a2 a3 s
  (simp [State.backupAssert, blank_ite, *])

@[simp] theorem State.writeResp_blank (M : Mask) (_ : M.host = true) (_ : M.tmp = true) (_ : M.log = true) (_ : M.out = true) :
    ∀ a0 a1 s, ((State.writeResp s a0 a1)).blank M = s.blank M := by
  intro a0 a1 s
  (simp [State.writeResp, blank_ite, *])

@[simp] theorem State.writeLoop_blank (M : Mask) (_ : M.tmp = true) :
    ∀ a0 a1 s, ((State.writeLoop s a0 a1)).blank M = s.blank M := by
  intro a0 a1 s
  (simp [State.writeLoop, *])

@[simp] theorem State.clearAlarm_blank (M : Mask) (_ : M.tmp = true) :
    ∀ a0 s, ((State.clearAlarm s a0)).blank M = s.blank M := by
  intro a0 s
  (simp [State.clearAlarm, *])

@[simp] theorem State.tamperConfig_blank (M : Mask) (_ : M.host = true) (_ : M.tmp = true) (_ : M.log = true) (_ : M.out = true) :
    ∀ a0 a1 s, ((State.tamperConfig s a0 a1)).blank M = s.blank M := by
  intro a0 a1 s
  (simp [State.tamperConfig, blank_ite, *])

@[simp] theorem State.settle_blank (M : Mask) (_ : M.host = true) (_ : M.log = true) (_ : M.out = true) :
    ∀ a0 s, ((State.settle s a0)).blank M = s.blank M := by
  intro a0 s
  (unfold State.settle; dsimp only; (repeat' split) <;> (simp [*]))

@[simp] theorem State.skipRecord_blank (M : Mask) (_ : M.host = true) (_ : M.log = true) (_ : M.out = true) :
    ∀ a0 s, ((State.skipRecord s a0)).blank M = s.blank M := by
  intro a0 s
  (simp [State.skipRecord, *])

@[simp] theorem State.startFaultFlush_blank (M : Mask) (_ : M.host = true) (_ : M.log = true) (_ : M.out = true) :
    ∀ s, ((State.startFaultFlush s)).blank M = s.blank M := by
  intro s
  (simp [State.startFaultFlush, blank_ite, blank_forEach, *])

@[simp] theorem State.poolCheck_blank (M : Mask) (_ : M.host = true) (_ : M.log = true) (_ : M.out = true) :
    ∀ s, ((State.poolCheck s)).blank M = s.blank M := by
  intro s
  (simp [State.poolCheck, blank_ite, *])

@[simp] theorem State.releaseBlock_blank (M : Mask) (_ : M.log = true) :
    ∀ a0 a1 s, ((State.releaseBlock s a0 a1)).blank M = s.blank M := by
  intro a0 a1 s
  (simp [State.releaseBlock, blank_ite, *])

@[simp] theorem State.fitStream_blank (M : Mask) (_ : M.log = true) :
    ∀ i n k s, (State.fitStream i n k s).blank M = s.blank M := by
  intro i n k
  induction k with
  | zero => intro s; rfl
  | succ k ih =>
    intro s
    simp only [State.fitStream]
    (repeat' split) <;> simp [*]

theorem State.openBlock_blank (M : Mask) (_ : M.host = true) (_ : M.log = true) (_ : M.out = true) :
    ∀ i n s t, State.openBlock s i n = some t → t.blank M = s.blank M := by
  intro i n s t h
  unfold State.openBlock at h
  dsimp only at h
  split at h
  · cases h
  · cases h
    simp [*]

@[simp] theorem State.modOpen_blank (M : Mask) (_ : M.log = true) :
    ∀ a0 a1 s, ((State.modOpen s a0 a1)).blank M = s.blank M := by
  intro a0 a1 s
  (simp [State.modOpen, *])

theorem State.programRecord_blank (M : Mask) (_ : M.host = true) (_ : M.log = true) (_ : M.out = true) :
    ∀ r ok s t, State.programRecord s r ok = some t → t.blank M = s.blank M := by
  intro r ok s t h
  unfold State.programRecord at h
  dsimp only at h
  rw [Option.map_eq_some_iff] at h
  obtain ⟨u, hu, rfl⟩ := h
  have h2 : u.blank M = s.blank M := by
    split at hu
    · cases hu; rfl
    · exact State.openBlock_blank M (by assumption) (by assumption) (by assumption) _ _ _ _ hu
  simp [*]

@[simp] theorem State.errPin_blank (M : Mask) (_ : M.flt = true) :
    ∀ s, ((State.errPin s)).blank M = s.blank M := by
  intro s
  (simp [State.errPin, *])

@[simp] theorem State.errOccurs_blank (M : Mask) (_ : M.flt = true) :
    ∀ s, ((State.errOccurs s)).blank M = s.blank M := by
  intro s
  (simp [State.errOccurs, *])

@[simp] theorem State.faultWare_blank (M : Mask) (_ : M.host = true) (_ : M.setter = true) (_ : M.kilns = true) (_ : M.wheels = true) (_ : M.keys = true) (_ : M.mir = true) (_ : M.store = true) (_ : M.out = true) :
    ∀ a0 a1 s, ((State.faultWare s a0 a1)).blank M = s.blank M := by
  intro a0 a1 s
  (unfold State.faultWare; (repeat' split) <;> (simp [*]))

@[simp] theorem State.drbgFails_blank (M : Mask) (_ : M.ent = true) :
    ∀ a0 s, ((State.drbgFails s a0)).blank M = s.blank M := by
  intro a0 s
  (simp [State.drbgFails, *])

@[simp] theorem State.portOff_blank (M : Mask) (_ : M.cus = true) :
    ∀ a0 s, ((State.portOff s a0)).blank M = s.blank M := by
  intro a0 s
  (simp [State.portOff, *])

@[simp] theorem State.wareEnds_blank (M : Mask) (_ : M.host = true) (_ : M.setter = true) (_ : M.kilns = true) (_ : M.wheels = true) (_ : M.keys = true) (_ : M.mir = true) (_ : M.store = true) (_ : M.out = true) :
    ∀ b x st s, (State.wareEnds s b x st).blank M = s.blank M := by
  intro b x st s
  unfold State.wareEnds
  (repeat' split) <;> simp [*]

@[simp] theorem State.wheelMiscalc_blank (M : Mask) (_ : M.wheels = true) :
    ∀ b i x s, (State.wheelMiscalc s b i x).blank M = s.blank M := by
  intro b i x s
  unfold State.wheelMiscalc
  split <;> simp [*]

@[simp] theorem State.pllLost_blank (M : Mask) (_ : M.sys = true) :
    ∀ a0 a1 s, ((State.pllLost s a0 a1)).blank M = s.blank M := by
  intro a0 a1 s
  (unfold State.pllLost; split <;> simp [*])

@[simp] theorem State.operationLost_blank (M : Mask) (_ : M.host = true) (_ : M.setter = true) (_ : M.kilns = true) (_ : M.wheels = true) (_ : M.keys = true) (_ : M.ent = true) (_ : M.cus = true) (_ : M.mir = true) (_ : M.log = true) (_ : M.sys = true) (_ : M.store = true) (_ : M.out = true) :
    ∀ b i x s, (State.operationLost s b i x).blank M = s.blank M := by
  intro b i x s
  unfold State.operationLost
  dsimp only
  (repeat' split) <;> simp [*]

@[simp] theorem State.blockReset_blank (M : Mask) (_ : M.host = true) (_ : M.kilns = true) (_ : M.routing = true) (_ : M.ent = true) (_ : M.cus = true) (_ : M.mir = true) (_ : M.log = true) (_ : M.dma = true) (_ : M.store = true) (_ : M.mem = true) (_ : M.freeCtr = true) (_ : M.out = true) :
    ∀ a0 a1 s, ((State.blockReset s a0 a1)).blank M = s.blank M := by
  intro a0 a1 s
  (unfold State.blockReset; (repeat' split) <;> (simp [*]))

@[simp] theorem State.graveDevice_blank (M : Mask) (_ : M.host = true) (_ : M.setter = true) (_ : M.kilns = true) (_ : M.wheels = true) (_ : M.keys = true) (_ : M.ent = true) (_ : M.fw = true) (_ : M.cus = true) (_ : M.mir = true) (_ : M.flt = true) (_ : M.log = true) (_ : M.sys = true) (_ : M.store = true) (_ : M.out = true) :
    ∀ s, ((State.graveDevice s)).blank M = s.blank M := by
  intro s
  (simp [State.graveDevice, *])

@[simp] theorem State.graveKiln_blank (M : Mask) (_ : M.host = true) (_ : M.setter = true) (_ : M.kilns = true) (_ : M.wheels = true) (_ : M.keys = true) (_ : M.ent = true) (_ : M.fw = true) (_ : M.mir = true) (_ : M.flt = true) (_ : M.log = true) (_ : M.cone = true) (_ : M.sys = true) (_ : M.store = true) (_ : M.out = true) :
    ∀ a0 s, ((State.graveKiln s a0)).blank M = s.blank M := by
  intro a0 s
  (simp [State.graveKiln, blank_ite, *])

@[simp] theorem State.graveActs_blank (M : Mask) (_ : M.host = true) (_ : M.setter = true) (_ : M.kilns = true) (_ : M.wheels = true) (_ : M.keys = true) (_ : M.routing = true) (_ : M.ent = true) (_ : M.fw = true) (_ : M.cus = true) (_ : M.mir = true) (_ : M.flt = true) (_ : M.log = true) (_ : M.cone = true) (_ : M.sys = true) (_ : M.dma = true) (_ : M.store = true) (_ : M.mem = true) (_ : M.freeCtr = true) (_ : M.out = true) :
    ∀ a0 s, ((State.graveActs s a0)).blank M = s.blank M := by
  intro a0 s
  (simp [State.graveActs, blank_ite, blank_forEach, *])

@[simp] theorem State.faultRecord_blank (M : Mask) (_ : M.host = true) (_ : M.log = true) (_ : M.out = true) :
    ∀ a0 a1 a2 s, ((State.faultRecord s a0 a1 a2)).blank M = s.blank M := by
  intro a0 a1 a2 s
  (simp [State.faultRecord, *])

@[simp] theorem State.occur_blank (M : Mask) (_ : M.host = true) (_ : M.setter = true) (_ : M.kilns = true) (_ : M.wheels = true) (_ : M.keys = true) (_ : M.routing = true) (_ : M.ent = true) (_ : M.fw = true) (_ : M.cus = true) (_ : M.mir = true) (_ : M.tmp = true) (_ : M.flt = true) (_ : M.log = true) (_ : M.cone = true) (_ : M.sys = true) (_ : M.dma = true) (_ : M.store = true) (_ : M.mem = true) (_ : M.freeCtr = true) (_ : M.out = true) :
    ∀ a0 a1 a2 s, ((State.occur s a0 a1 a2)).blank M = s.blank M := by
  intro a0 a1 a2 s
  (simp [State.occur, blank_ite, blank_when, *])

@[simp] theorem State.settleFaults_blank (M : Mask) (_ : M.host = true) (_ : M.setter = true) (_ : M.kilns = true) (_ : M.wheels = true) (_ : M.keys = true) (_ : M.routing = true) (_ : M.ent = true) (_ : M.fw = true) (_ : M.cus = true) (_ : M.mir = true) (_ : M.tmp = true) (_ : M.flt = true) (_ : M.log = true) (_ : M.cone = true) (_ : M.sys = true) (_ : M.dma = true) (_ : M.store = true) (_ : M.mem = true) (_ : M.freeCtr = true) (_ : M.out = true) :
    ∀ s, ((State.settleFaults s)).blank M = s.blank M := by
  intro s
  (simp [State.settleFaults, blank_forEach, *])

@[simp] theorem State.parityFault_blank (M : Mask) (_ : M.host = true) (_ : M.setter = true) (_ : M.kilns = true) (_ : M.wheels = true) (_ : M.keys = true) (_ : M.ent = true) (_ : M.fw = true) (_ : M.cus = true) (_ : M.mir = true) (_ : M.flt = true) (_ : M.log = true) (_ : M.sys = true) (_ : M.store = true) (_ : M.out = true) :
    ∀ a0 s, ((State.parityFault s a0)).blank M = s.blank M := by
  intro a0 s
  (simp [State.parityFault, blank_ite, *])

@[simp] theorem State.kilnResetRun_blank (M : Mask) (_ : M.host = true) (_ : M.setter = true) (_ : M.kilns = true) (_ : M.wheels = true) (_ : M.keys = true) (_ : M.routing = true) (_ : M.ent = true) (_ : M.fw = true) (_ : M.cus = true) (_ : M.mir = true) (_ : M.tmp = true) (_ : M.flt = true) (_ : M.log = true) (_ : M.cone = true) (_ : M.sys = true) (_ : M.dma = true) (_ : M.store = true) (_ : M.mem = true) (_ : M.freeCtr = true) (_ : M.out = true) :
    ∀ a0 a1 a2 a3 s, ((State.kilnResetRun s a0 a1 a2 a3)).blank M = s.blank M := by
  intro a0 a1 a2 a3 s
  (simp [State.kilnResetRun, blank_ite, blank_when, *])

@[simp] theorem State.clearSticky_blank (M : Mask) (_ : M.flt = true) :
    ∀ a0 a1 s, ((State.clearSticky s a0 a1)).blank M = s.blank M := by
  intro a0 a1 s
  (simp [State.clearSticky, *])

@[simp] theorem State.conditionerFails_blank (M : Mask) (_ : M.host = true) (_ : M.setter = true) (_ : M.kilns = true) (_ : M.wheels = true) (_ : M.keys = true) (_ : M.routing = true) (_ : M.ent = true) (_ : M.fw = true) (_ : M.cus = true) (_ : M.mir = true) (_ : M.tmp = true) (_ : M.flt = true) (_ : M.log = true) (_ : M.cone = true) (_ : M.sys = true) (_ : M.dma = true) (_ : M.store = true) (_ : M.mem = true) (_ : M.freeCtr = true) (_ : M.out = true) :
    ∀ s, ((State.conditionerFails s)).blank M = s.blank M := by
  intro s
  (simp [State.conditionerFails, *])

@[simp] theorem State.dmaWritten_blank (M : Mask) (_ : M.host = true) (_ : M.routing = true) (_ : M.store = true) (_ : M.mem = true) (_ : M.out = true) :
    ∀ a0 a1 s, ((State.dmaWritten s a0 a1)).blank M = s.blank M := by
  intro a0 a1 s
  (simp [State.dmaWritten, *])

@[simp] theorem State.dmaFinish_blank (M : Mask) (_ : M.host = true) (_ : M.setter = true) (_ : M.kilns = true) (_ : M.wheels = true) (_ : M.keys = true) (_ : M.routing = true) (_ : M.ent = true) (_ : M.fw = true) (_ : M.cus = true) (_ : M.mir = true) (_ : M.tmp = true) (_ : M.flt = true) (_ : M.log = true) (_ : M.cone = true) (_ : M.sys = true) (_ : M.dma = true) (_ : M.store = true) (_ : M.mem = true) (_ : M.freeCtr = true) (_ : M.out = true) :
    ∀ a0 a1 s, ((State.dmaFinish s a0 a1)).blank M = s.blank M := by
  intro a0 a1 s
  (unfold State.dmaFinish; dsimp only; (repeat' split) <;> (simp [*]))

@[simp] theorem State.afterReset_blank (M : Mask) (_ : M.host = true) (_ : M.setter = true) (_ : M.kilns = true) (_ : M.wheels = true) (_ : M.keys = true) (_ : M.routing = true) (_ : M.ent = true) (_ : M.mbx = true) (_ : M.fw = true) (_ : M.cus = true) (_ : M.mir = true) (_ : M.tmp = true) (_ : M.flt = true) (_ : M.log = true) (_ : M.cone = true) (_ : M.sys = true) (_ : M.lcc = true) (_ : M.dma = true) (_ : M.store = true) (_ : M.mem = true) :
    ∀ a0 s, ((State.afterReset s a0)).blank M = s.blank M := by
  intro a0 s
  (simp [State.afterReset, State.blank, *])

@[simp] theorem State.liveSources_blank (M : Mask) (_ : M.host = true) (_ : M.setter = true) (_ : M.kilns = true) (_ : M.wheels = true) (_ : M.keys = true) (_ : M.routing = true) (_ : M.ent = true) (_ : M.fw = true) (_ : M.cus = true) (_ : M.mir = true) (_ : M.tmp = true) (_ : M.flt = true) (_ : M.log = true) (_ : M.sys = true) (_ : M.store = true) (_ : M.mem = true) (_ : M.out = true) :
    ∀ s, ((State.liveSources s)).blank M = s.blank M := by
  intro s
  (simp [State.liveSources, blank_forEach, *])

@[simp] theorem State.bootLatch_blank (M : Mask) (_ : M.tmp = true) (_ : M.lcc = true) :
    ∀ s, ((State.bootLatch s)).blank M = s.blank M := by
  intro s
  (simp [State.bootLatch, *])

@[simp] theorem State.bootFirmware_blank (M : Mask) (_ : M.fw = true) :
    ∀ a0 a1 s, ((State.bootFirmware s a0 a1)).blank M = s.blank M := by
  intro a0 a1 s
  (simp [State.bootFirmware, *])

@[simp] theorem State.bootKazkel_blank (M : Mask) (_ : M.host = true) (_ : M.mir = true) (_ : M.tmp = true) (_ : M.log = true) (_ : M.sys = true) (_ : M.out = true) :
    ∀ a0 s, ((State.bootKazkel s a0)).blank M = s.blank M := by
  intro a0 s
  (simp [State.bootKazkel, blank_when, *])

@[simp] theorem State.applyRetired_blank (M : Mask) (_ : M.host = true) (_ : M.kilns = true) (_ : M.ent = true) (_ : M.log = true) (_ : M.cone = true) (_ : M.out = true) :
    ∀ s, ((State.applyRetired s)).blank M = s.blank M := by
  intro s
  (simp [State.applyRetired, blank_forEach, *])

@[simp] theorem State.reboot_blank (M : Mask) (_ : M.host = true) (_ : M.setter = true) (_ : M.kilns = true) (_ : M.wheels = true) (_ : M.keys = true) (_ : M.routing = true) (_ : M.ent = true) (_ : M.mbx = true) (_ : M.fw = true) (_ : M.cus = true) (_ : M.mir = true) (_ : M.tmp = true) (_ : M.flt = true) (_ : M.log = true) (_ : M.cone = true) (_ : M.sys = true) (_ : M.lcc = true) (_ : M.dma = true) (_ : M.store = true) (_ : M.mem = true) (_ : M.out = true) :
    ∀ a0 a1 a2 s, ((State.reboot s a0 a1 a2)).blank M = s.blank M := by
  intro a0 a1 a2 s
  (simp [State.reboot, blank_ite, *])

@[simp] theorem State.newHearth_blank (M : Mask) (_ : M.host = true) (_ : M.keys = true) (_ : M.routing = true) (_ : M.cus = true) (_ : M.mir = true) :
    ∀ s, ((State.newHearth s)).blank M = s.blank M := by
  intro s
  (simp [State.newHearth, *])

@[simp] theorem State.bootHearth_blank (M : Mask) (_ : M.host = true) (_ : M.keys = true) (_ : M.routing = true) (_ : M.ent = true) (_ : M.cus = true) (_ : M.mir = true) (_ : M.log = true) (_ : M.sys = true) (_ : M.out = true) :
    ∀ s, ((State.bootHearth s)).blank M = s.blank M := by
  intro s
  (unfold State.bootHearth; dsimp only; (repeat' split) <;> (simp [blank_when, *]))

@[simp] theorem State.bootStep7_blank (M : Mask) (_ : M.host = true) (_ : M.keys = true) (_ : M.routing = true) (_ : M.ent = true) (_ : M.cus = true) (_ : M.mir = true) (_ : M.log = true) (_ : M.sys = true) (_ : M.store = true) (_ : M.out = true) :
    ∀ s, (State.bootStep7 s).blank M = s.blank M := by
  intro s
  unfold State.bootStep7
  have h := State.controlBytes_blank M (by assumption) (by assumption) (by assumption) (by assumption) (257 * 32) s
  split
  · rfl
  · split <;> simp_all

@[simp] theorem State.setMaster_blank (M : Mask) (_ : M.keys = true) :
    ∀ a0 a1 a2 s, ((State.setMaster s a0 a1 a2)).blank M = s.blank M := by
  intro a0 a1 a2 s
  (simp [State.setMaster, blank_ite, *])

@[simp] theorem State.portRefuse_blank (M : Mask) (_ : M.host = true) (_ : M.setter = true) (_ : M.kilns = true) (_ : M.wheels = true) (_ : M.keys = true) (_ : M.routing = true) (_ : M.ent = true) (_ : M.fw = true) (_ : M.cus = true) (_ : M.mir = true) (_ : M.tmp = true) (_ : M.flt = true) (_ : M.log = true) (_ : M.cone = true) (_ : M.sys = true) (_ : M.dma = true) (_ : M.store = true) (_ : M.mem = true) (_ : M.freeCtr = true) (_ : M.out = true) :
    ∀ a0 a1 s, ((State.portRefuse s a0 a1)).blank M = s.blank M := by
  intro a0 a1 s
  (simp [State.portRefuse, *])

@[simp] theorem State.portDone_blank (M : Mask) (_ : M.keys = true) :
    ∀ s, ((State.portDone s)).blank M = s.blank M := by
  intro s
  (simp [State.portDone, *])

@[simp] theorem State.loadMaster_blank (M : Mask) (_ : M.host = true) (_ : M.setter = true) (_ : M.kilns = true) (_ : M.wheels = true) (_ : M.keys = true) (_ : M.routing = true) (_ : M.ent = true) (_ : M.fw = true) (_ : M.cus = true) (_ : M.mir = true) (_ : M.tmp = true) (_ : M.flt = true) (_ : M.log = true) (_ : M.cone = true) (_ : M.sys = true) (_ : M.dma = true) (_ : M.store = true) (_ : M.mem = true) (_ : M.freeCtr = true) (_ : M.out = true) :
    ∀ a0 a1 s, ((State.loadMaster s a0 a1)).blank M = s.blank M := by
  intro a0 a1 s
  (unfold State.loadMaster; dsimp only; (repeat' split) <;> (simp [*]))

@[simp] theorem State.loadMasters_blank (M : Mask) (_ : M.host = true) (_ : M.setter = true) (_ : M.kilns = true) (_ : M.wheels = true) (_ : M.keys = true) (_ : M.routing = true) (_ : M.ent = true) (_ : M.fw = true) (_ : M.cus = true) (_ : M.mir = true) (_ : M.tmp = true) (_ : M.flt = true) (_ : M.log = true) (_ : M.cone = true) (_ : M.sys = true) (_ : M.dma = true) (_ : M.store = true) (_ : M.mem = true) (_ : M.freeCtr = true) (_ : M.out = true) :
    ∀ s, (State.loadMasters s).blank M = s.blank M := by
  intro s
  unfold State.loadMasters
  split
  · rfl
  · exact blank_forEach _ _ _ _ fun g s => blank_forEach _ _ _ _ fun j s => by split <;> simp [*]

@[simp] theorem State.writeEntTest_blank (M : Mask) (_ : M.ent = true) :
    ∀ s, ((State.writeEntTest s)).blank M = s.blank M := by
  intro s
  (simp [State.writeEntTest, *])

@[simp] theorem State.bootKilns_blank (M : Mask) (_ : M.host = true) (_ : M.kilns = true) (_ : M.ent = true) (_ : M.log = true) (_ : M.out = true) :
    ∀ a0 s, ((State.bootKilns s a0)).blank M = s.blank M := by
  intro a0 s
  (simp [State.bootKilns, blank_forEach, *])

@[simp] theorem State.applyBinding_blank (M : Mask) (_ : M.host = true) :
    ∀ a0 s, ((State.applyBinding s a0)).blank M = s.blank M := by
  intro a0 s
  (simp [State.applyBinding, *])

@[simp] theorem State.makeReady_blank (M : Mask) (_ : M.host = true) (_ : M.sys = true) :
    ∀ s, ((State.makeReady s)).blank M = s.blank M := by
  intro s
  (simp [State.makeReady, blank_forEach, *])

@[simp] theorem State.reseedMesh_blank (M : Mask) (_ : M.host = true) (_ : M.ent = true) (_ : M.tmp = true) (_ : M.log = true) (_ : M.out = true) :
    ∀ s, ((State.reseedMesh s)).blank M = s.blank M := by
  intro s
  (simp [State.reseedMesh, *])

@[simp] theorem State.endBoot_blank (M : Mask) (_ : M.host = true) (_ : M.setter = true) (_ : M.kilns = true) (_ : M.wheels = true) (_ : M.keys = true) (_ : M.routing = true) (_ : M.ent = true) (_ : M.fw = true) (_ : M.cus = true) (_ : M.mir = true) (_ : M.tmp = true) (_ : M.flt = true) (_ : M.log = true) (_ : M.cone = true) (_ : M.sys = true) (_ : M.dma = true) (_ : M.store = true) (_ : M.mem = true) (_ : M.freeCtr = true) (_ : M.out = true) :
    ∀ a0 s, ((State.endBoot s a0)).blank M = s.blank M := by
  intro a0 s
  (simp [State.endBoot, blank_when, *])

@[simp] theorem State.hostPortFn_blank (M : Mask) (_ : M.host = true) (_ : M.setter = true) (_ : M.mbx = true) :
    ∀ a0 s, ((State.hostPortFn s a0)).blank M = s.blank M := by
  intro a0 s
  (simp [State.hostPortFn, *])

@[simp] theorem State.hostPortReset_blank (M : Mask) (_ : M.host = true) (_ : M.setter = true) (_ : M.mbx = true) :
    ∀ a0 s, ((State.hostPortReset s a0)).blank M = s.blank M := by
  intro a0 s
  (simp [State.hostPortReset, blank_forEach, *])

@[simp] theorem State.flrFinish_blank (M : Mask) (_ : M.host = true) (_ : M.routing = true) (_ : M.mbx = true) (_ : M.dma = true) (_ : M.store = true) (_ : M.mem = true) (_ : M.freeCtr = true) (_ : M.out = true) :
    ∀ a0 s, ((State.flrFinish s a0)).blank M = s.blank M := by
  intro a0 s
  (simp [State.flrFinish, blank_forEach, *])

@[simp] theorem State.refusedAccess_blank (M : Mask) (_ : M.host = true) (_ : M.log = true) (_ : M.out = true) :
    ∀ a0 a1 a2 a3 s, ((State.refusedAccess s a0 a1 a2 a3)).blank M = s.blank M := by
  intro a0 a1 a2 a3 s
  (simp [State.refusedAccess, blank_ite, blank_when, *])

@[simp] theorem State.doeAnswer_blank (M : Mask) (_ : M.out = true) :
    ∀ a0 a1 s, ((State.doeAnswer s a0 a1)).blank M = s.blank M := by
  intro a0 a1 s
  (simp [State.doeAnswer, *])

@[simp] theorem State.spdmAnswer_blank (M : Mask) (_ : M.out = true) :
    ∀ a0 a1 a2 s, ((State.spdmAnswer s a0 a1 a2)).blank M = s.blank M := by
  intro a0 a1 a2 s
  (simp [State.spdmAnswer, *])

@[simp] theorem State.spdmRefuse_blank (M : Mask) (_ : M.out = true) :
    ∀ a0 s, ((State.spdmRefuse s a0)).blank M = s.blank M := by
  intro a0 s
  (simp [State.spdmRefuse, *])

@[simp] theorem State.spdmReady_blank (M : Mask) (_ : M.out = true) :
    ∀ b f s, ((f s).blank M = s.blank M) → (State.spdmReady s b f).blank M = s.blank M := by
  intro b f s h
  unfold State.spdmReady
  split <;> simp [*]

@[simp] theorem State.spdmSlot_blank (M : Mask) (_ : M.out = true) :
    ∀ b n f s, ((f s).blank M = s.blank M) → (State.spdmSlot s b n f).blank M = s.blank M := by
  intro b n f s h
  unfold State.spdmSlot
  split <;> simp [*]

@[simp] theorem State.dplWrite_blank (M : Mask) (_ : M.host = true) (_ : M.log = true) (_ : M.out = true) :
    ∀ i g s, ((g s).blank M = s.blank M) → (State.dplWrite s i g).blank M = s.blank M := by
  intro i g s h
  exact State.globalWrite_blank M (by assumption) (by assumption) (by assumption) _ _ _ h

@[simp] theorem State.issueHeld_blank (M : Mask) (_ : M.host = true) (_ : M.out = true) :
    ∀ a0 s, ((State.issueHeld s a0)).blank M = s.blank M := by
  intro a0 s
  (simp [State.issueHeld, blank_forEach, *])

@[simp] theorem State.setViolLimit_blank (M : Mask) (_ : M.host = true) :
    ∀ a0 s, ((State.setViolLimit s a0)).blank M = s.blank M := by
  intro a0 s
  (simp [State.setViolLimit, *])

@[simp] theorem State.spdmChallenge_blank (M : Mask) (_ : M.host = true) (_ : M.ent = true) (_ : M.log = true) (_ : M.out = true) :
    ∀ a0 a1 s, ((State.spdmChallenge s a0 a1)).blank M = s.blank M := by
  intro a0 a1 s
  (simp [State.spdmChallenge, *])

@[simp] theorem State.spdmMeasurements_blank (M : Mask) (_ : M.host = true) (_ : M.ent = true) (_ : M.log = true) (_ : M.out = true) :
    ∀ a0 a1 a2 s, ((State.spdmMeasurements s a0 a1 a2)).blank M = s.blank M := by
  intro a0 a1 a2 s
  (simp [State.spdmMeasurements, *])

@[simp] theorem State.spdmKeyExchange_blank (M : Mask) (_ : M.host = true) (_ : M.ent = true) (_ : M.log = true) (_ : M.out = true) :
    ∀ b k s, (State.spdmKeyExchange s b k).blank M = s.blank M := by
  intro b k s
  exact State.withControl_blank M (by assumption) (by assumption) (by assumption) (by assumption) _ _ _ _ fun e s => by split <;> simp [*]

@[simp] theorem State.unmask_blank (M : Mask) (_ : M.host = true) (_ : M.out = true) :
    ∀ a0 a1 s, ((State.unmask s a0 a1)).blank M = s.blank M := by
  intro a0 a1 s
  (simp [State.unmask, blank_when, *])

@[simp] theorem State.mbxRecord_blank (M : Mask) (_ : M.host = true) (_ : M.log = true) (_ : M.out = true) :
    ∀ a0 a1 a2 a3 s, ((State.mbxRecord s a0 a1 a2 a3)).blank M = s.blank M := by
  intro a0 a1 a2 a3 s
  (simp [State.mbxRecord, *])

@[simp] theorem State.mbxVector_blank (M : Mask) (_ : M.host = true) (_ : M.out = true) :
    ∀ a0 a1 s, ((State.mbxVector s a0 a1)).blank M = s.blank M := by
  intro a0 a1 s
  (simp [State.mbxVector, *])

@[simp] theorem State.deliver_blank (M : Mask) (_ : M.host = true) (_ : M.mbx = true) (_ : M.log = true) (_ : M.freeCtr = true) (_ : M.out = true) :
    ∀ a0 a1 a2 a3 a4 s, ((State.deliver s a0 a1 a2 a3 a4)).blank M = s.blank M := by
  intro a0 a1 a2 a3 a4 s
  (simp [State.deliver, blank_when, *])

@[simp] theorem State.respondWith_blank (M : Mask) (_ : M.host = true) (_ : M.mbx = true) (_ : M.log = true) (_ : M.freeCtr = true) (_ : M.out = true) :
    ∀ a0 a1 a2 a3 a4 s, ((State.respondWith s a0 a1 a2 a3 a4)).blank M = s.blank M := by
  intro a0 a1 a2 a3 a4 s
  (simp [State.respondWith, blank_ite, blank_when, *])

@[simp] theorem State.endCommand_blank (M : Mask) (_ : M.host = true) (_ : M.mbx = true) (_ : M.log = true) (_ : M.freeCtr = true) (_ : M.out = true) :
    ∀ a0 a1 a2 a3 s, ((State.endCommand s a0 a1 a2 a3)).blank M = s.blank M := by
  intro a0 a1 a2 a3 s
  (unfold State.endCommand; split <;> simp [*])

@[simp] theorem State.mbxTake_blank (M : Mask) (_ : M.host = true) (_ : M.mbx = true) (_ : M.log = true) (_ : M.freeCtr = true) (_ : M.out = true) :
    ∀ a0 s, ((State.mbxTake s a0)).blank M = s.blank M := by
  intro a0 s
  (unfold State.mbxTake; dsimp only; (repeat' split) <;> (simp [*]))

@[simp] theorem State.stageStopped_blank (M : Mask) (_ : M.fw = true) :
    ∀ s, ((State.stageStopped s)).blank M = s.blank M := by
  intro s
  (unfold State.stageStopped; split <;> simp [*])

@[simp] theorem State.hello_blank (M : Mask) (_ : M.mbx = true) (_ : M.freeCtr = true) :
    ∀ a0 a1 a2 s, ((State.hello s a0 a1 a2).1).blank M = s.blank M := by
  intro a0 a1 a2 s
  (unfold State.hello; dsimp only; (repeat' split) <;> (simp [blank_when, *]))

@[simp] theorem State.rebind_blank (M : Mask) (_ : M.host = true) (_ : M.setter = true) (_ : M.log = true) :
    ∀ a0 a1 s, ((State.rebind s a0 a1)).blank M = s.blank M := by
  intro a0 a1 s
  (simp [State.rebind, blank_when, *])

@[simp] theorem State.fnBind_blank (M : Mask) (_ : M.host = true) (_ : M.setter = true) (_ : M.log = true) :
    ∀ a0 a1 s, ((State.fnBind s a0 a1).1).blank M = s.blank M := by
  intro a0 a1 s
  (unfold State.fnBind; (repeat' split) <;> (simp [*]))

@[simp] theorem State.fnUnbind_blank (M : Mask) (_ : M.host = true) (_ : M.setter = true) (_ : M.log = true) :
    ∀ a0 s, ((State.fnUnbind s a0).1).blank M = s.blank M := by
  intro a0 s
  (unfold State.fnUnbind; split <;> simp [*])

@[simp] theorem State.takeOwnership_blank (M : Mask) (_ : M.host = true) :
    ∀ a0 s, ((State.takeOwnership s a0).1).blank M = s.blank M := by
  intro a0 s
  (unfold State.takeOwnership; dsimp only; (repeat' split) <;> (simp [*]))

@[simp] theorem State.dmaAcquire_blank (M : Mask) (_ : M.dma = true) (_ : M.freeCtr = true) :
    ∀ a0 a1 s, ((State.dmaAcquire s a0 a1).1).blank M = s.blank M := by
  intro a0 a1 s
  (unfold State.dmaAcquire; (repeat' split) <;> (simp [*]))

@[simp] theorem State.dmaGiveBack_blank (M : Mask) (_ : M.host = true) (_ : M.routing = true) (_ : M.dma = true) (_ : M.store = true) (_ : M.mem = true) (_ : M.freeCtr = true) (_ : M.out = true) :
    ∀ a0 a1 s, ((State.dmaGiveBack s a0 a1).1).blank M = s.blank M := by
  intro a0 a1 s
  (unfold State.dmaGiveBack; split <;> simp [*])

@[simp] theorem State.givePage_blank (M : Mask) (_ : M.mbx = true) (_ : M.store = true) (_ : M.mem = true) :
    ∀ a0 a1 s, ((State.givePage s a0 a1)).blank M = s.blank M := by
  intro a0 a1 s
  (simp [State.givePage, *])

@[simp] theorem State.stagePages_blank (M : Mask) (_ : M.mbx = true) (_ : M.store = true) (_ : M.mem = true) (_ : M.freeCtr = true) :
    ∀ a0 a1 s, ((State.stagePages s a0 a1).1).blank M = s.blank M := by
  intro a0 a1 s
  (unfold State.stagePages; dsimp only; (repeat' split) <;> (simp [blank_forEach, *]))

@[simp] theorem State.setSlot_blank (M : Mask) (_ : M.fw = true) :
    ∀ a0 a1 a2 s, ((State.setSlot s a0 a1 a2)).blank M = s.blank M := by
  intro a0 a1 a2 s
  (simp [State.setSlot, *])

@[simp] theorem State.stageBegin_blank (M : Mask) (_ : M.fw = true) :
    ∀ a0 s, ((State.stageBegin s a0).1).blank M = s.blank M := by
  intro a0 s
  (unfold State.stageBegin; (repeat' split) <;> (simp [*]))

@[simp] theorem State.stageEnd_blank (M : Mask) (_ : M.fw = true) (_ : M.freeCtr = true) :
    ∀ a0 a1 s, ((State.stageEnd s a0 a1).1).blank M = s.blank M := by
  intro a0 a1 s
  (unfold State.stageEnd; dsimp only; (repeat' split) <;> (simp [blank_when, *]))

@[simp] theorem State.imageActivate_blank (M : Mask) (_ : M.fw = true) :
    ∀ a0 s, ((State.imageActivate s a0).1).blank M = s.blank M := by
  intro a0 s
  (unfold State.imageActivate; dsimp only; (repeat' split) <;> (simp [blank_when, *]))

@[simp] theorem State.imageCommit_blank (M : Mask) (_ : M.fw = true) :
    ∀ a0 a1 s, ((State.imageCommit s a0 a1).1).blank M = s.blank M := by
  intro a0 a1 s
  (unfold State.imageCommit; dsimp only; (repeat' split) <;> (simp [*]))

@[simp] theorem State.reinstate_blank (M : Mask) (_ : M.host = true) (_ : M.ent = true) (_ : M.log = true) (_ : M.out = true) :
    ∀ a0 s, ((State.reinstate s a0).1).blank M = s.blank M := by
  intro a0 s
  (unfold State.reinstate; split <;> simp [*])

@[simp] theorem State.marginConfig_blank (M : Mask) (_ : M.cone = true) :
    ∀ a0 s, ((State.marginConfig s a0).1).blank M = s.blank M := by
  intro a0 s
  (simp [State.marginConfig, *])

@[simp] theorem State.applyPolicy_blank (M : Mask) (_ : M.host = true) (_ : M.keys = true) (_ : M.log = true) (_ : M.store = true) (_ : M.out = true) :
    ∀ a0 a1 a2 s, ((State.applyPolicy s a0 a1 a2)).blank M = s.blank M := by
  intro a0 a1 a2 s
  (simp [State.applyPolicy, *])

@[simp] theorem State.applyQuota_blank (M : Mask) (_ : M.kilns = true) (_ : M.keys = true) (_ : M.store = true) :
    ∀ a0 a1 a2 s, ((State.applyQuota s a0 a1 a2)).blank M = s.blank M := by
  intro a0 a1 a2 s
  (simp [State.applyQuota, *])

@[simp] theorem State.applyDestroy_blank (M : Mask) (_ : M.kilns = true) (_ : M.keys = true) (_ : M.store = true) :
    ∀ a0 a1 a2 s, ((State.applyDestroy s a0 a1 a2)).blank M = s.blank M := by
  intro a0 a1 a2 s
  (simp [State.applyDestroy, *])

@[simp] theorem State.applyEnrol_blank (M : Mask) (_ : M.keys = true) :
    ∀ a0 a1 a2 a3 s, ((State.applyEnrol s a0 a1 a2 a3)).blank M = s.blank M := by
  intro a0 a1 a2 a3 s
  (simp [State.applyEnrol, *])

@[simp] theorem State.applyWithdraw_blank (M : Mask) (_ : M.keys = true) (_ : M.mir = true) :
    ∀ a0 a1 a2 s, ((State.applyWithdraw s a0 a1 a2)).blank M = s.blank M := by
  intro a0 a1 a2 s
  (simp [State.applyWithdraw, *])

@[simp] theorem State.applyRetire_blank (M : Mask) (_ : M.host = true) (_ : M.kilns = true) (_ : M.keys = true) (_ : M.log = true) (_ : M.store = true) (_ : M.out = true) :
    ∀ a0 s, ((State.applyRetire s a0)).blank M = s.blank M := by
  intro a0 s
  (simp [State.applyRetire, *])

@[simp] theorem State.applyControl_blank (M : Mask) (_ : M.host = true) (_ : M.kilns = true) (_ : M.keys = true) (_ : M.mir = true) (_ : M.log = true) (_ : M.store = true) (_ : M.out = true) :
    ∀ a0 a1 s, ((State.applyControl s a0 a1).1).blank M = s.blank M := by
  intro a0 a1 s
  (unfold State.applyControl; split <;> simp [*])

@[simp] theorem State.replicate_blank (M : Mask) (_ : M.host = true) (_ : M.kilns = true) (_ : M.keys = true) (_ : M.mir = true) (_ : M.log = true) (_ : M.store = true) (_ : M.out = true) :
    ∀ a0 a1 a2 a3 a4 s, ((State.replicate s a0 a1 a2 a3 a4).1).blank M = s.blank M := by
  intro a0 a1 a2 a3 a4 s
  (unfold State.replicate; dsimp only; (repeat' split) <;> (simp [*]))

@[simp] theorem State.drain_blank (M : Mask) (_ : M.host = true) (_ : M.setter = true) (_ : M.kilns = true) (_ : M.wheels = true) (_ : M.keys = true) (_ : M.ent = true) (_ : M.fw = true) (_ : M.mir = true) (_ : M.flt = true) (_ : M.log = true) (_ : M.sys = true) (_ : M.store = true) (_ : M.out = true) :
    ∀ a0 s, ((State.drain s a0).1).blank M = s.blank M := by
  intro a0 s
  (unfold State.drain; (repeat' split) <;> (simp [blank_ite, blank_when, *]))

@[simp] theorem State.undrain_blank (M : Mask) (_ : M.host = true) (_ : M.setter = true) (_ : M.kilns = true) (_ : M.wheels = true) (_ : M.keys = true) (_ : M.ent = true) (_ : M.fw = true) (_ : M.mir = true) (_ : M.flt = true) (_ : M.log = true) (_ : M.sys = true) (_ : M.store = true) (_ : M.out = true) :
    ∀ a0 s, ((State.undrain s a0).1).blank M = s.blank M := by
  intro a0 s
  (unfold State.undrain; (repeat' split) <;> (simp [blank_ite, *]))

@[simp] theorem State.flushCache_blank (M : Mask) (_ : M.kilns = true) (_ : M.keys = true) (_ : M.store = true) :
    ∀ g s, (State.flushCache s g).blank M = s.blank M := by
  intro g s
  unfold State.flushCache
  exact blank_forEach _ _ _ _ fun h s => by (repeat' split) <;> simp [*]

@[simp] theorem State.saggarReset_blank (M : Mask) (_ : M.host = true) (_ : M.setter = true) (_ : M.kilns = true) (_ : M.wheels = true) (_ : M.keys = true) (_ : M.mir = true) (_ : M.store = true) (_ : M.out = true) :
    ∀ g s, (State.saggarReset s g).blank M = s.blank M := by
  intro g s
  unfold State.saggarReset
  rw [State.flushCache_blank M (by assumption) (by assumption) (by assumption)]
  exact blank_forEach _ _ _ _ fun i s => blank_forEach _ _ _ _ fun q s => by simp [*]

@[simp] theorem State.eraseRouting_blank (M : Mask) (_ : M.routing = true) :
    ∀ a0 s, ((State.eraseRouting s a0)).blank M = s.blank M := by
  intro a0 s
  (simp [State.eraseRouting, *])

@[simp] theorem State.unbindAll_blank (M : Mask) (_ : M.host = true) (_ : M.setter = true) (_ : M.log = true) :
    ∀ a0 s, ((State.unbindAll s a0)).blank M = s.blank M := by
  intro a0 s
  (simp [State.unbindAll, blank_forEach, *])

@[simp] theorem State.eraseSaggar_blank (M : Mask) (_ : M.host = true) (_ : M.setter = true) (_ : M.kilns = true) (_ : M.wheels = true) (_ : M.keys = true) (_ : M.routing = true) (_ : M.ent = true) (_ : M.cus = true) (_ : M.mir = true) (_ : M.log = true) (_ : M.store = true) (_ : M.out = true) :
    ∀ a0 s, ((State.eraseSaggar s a0)).blank M = s.blank M := by
  intro a0 s
  (simp [State.eraseSaggar, blank_ite, *])

@[simp] theorem State.createSaggar_blank (M : Mask) (_ : M.host = true) (_ : M.keys = true) (_ : M.ent = true) (_ : M.log = true) (_ : M.store = true) (_ : M.freeCtr = true) (_ : M.out = true) :
    ∀ a0 a1 s, ((State.createSaggar s a0 a1)).blank M = s.blank M := by
  intro a0 a1 s
  (simp [State.createSaggar, *])

@[simp] theorem State.installKey_blank (M : Mask) (_ : M.keys = true) :
    ∀ a0 a1 a2 a3 s, ((State.installKey s a0 a1 a2 a3)).blank M = s.blank M := by
  intro a0 a1 a2 a3 s
  (simp [State.installKey, *])

@[simp] theorem State.setRoster_blank (M : Mask) (_ : M.cus = true) :
    ∀ a0 a1 s, ((State.setRoster s a0 a1)).blank M = s.blank M := by
  intro a0 a1 s
  (simp [State.setRoster, *])

@[simp] theorem State.crEffect_blank (M : Mask) (_ : M.host = true) (_ : M.setter = true) (_ : M.kilns = true) (_ : M.wheels = true) (_ : M.keys = true) (_ : M.routing = true) (_ : M.ent = true) (_ : M.fw = true) (_ : M.cus = true) (_ : M.mir = true) (_ : M.log = true) (_ : M.store = true) (_ : M.out = true) :
    ∀ a0 s, ((State.crEffect s a0)).blank M = s.blank M := by
  intro a0 s
  (unfold State.crEffect; dsimp only; (repeat' split) <;> (simp [blank_forEach, *]))

@[simp] theorem State.commitEffect_blank (M : Mask) (_ : M.host = true) (_ : M.setter = true) (_ : M.kilns = true) (_ : M.wheels = true) (_ : M.keys = true) (_ : M.routing = true) (_ : M.ent = true) (_ : M.fw = true) (_ : M.cus = true) (_ : M.mir = true) (_ : M.log = true) (_ : M.store = true) (_ : M.freeCtr = true) (_ : M.out = true) :
    ∀ s, ((State.commitEffect s)).blank M = s.blank M := by
  intro s
  (unfold State.commitEffect; dsimp only; (repeat' split) <;> (simp [*]))

@[simp] theorem State.finishCeremony_blank (M : Mask) (_ : M.host = true) (_ : M.setter = true) (_ : M.kilns = true) (_ : M.wheels = true) (_ : M.keys = true) (_ : M.ent = true) (_ : M.fw = true) (_ : M.cus = true) (_ : M.mir = true) (_ : M.flt = true) (_ : M.log = true) (_ : M.sys = true) (_ : M.store = true) (_ : M.out = true) :
    ∀ a0 s, ((State.finishCeremony s a0)).blank M = s.blank M := by
  intro a0 s
  (simp [State.finishCeremony, blank_ite, *])

@[simp] theorem State.commitNow_blank (M : Mask) (_ : M.host = true) (_ : M.setter = true) (_ : M.kilns = true) (_ : M.wheels = true) (_ : M.keys = true) (_ : M.routing = true) (_ : M.ent = true) (_ : M.fw = true) (_ : M.cus = true) (_ : M.mir = true) (_ : M.flt = true) (_ : M.log = true) (_ : M.sys = true) (_ : M.store = true) (_ : M.freeCtr = true) (_ : M.out = true) :
    ∀ s, ((State.commitNow s)).blank M = s.blank M := by
  intro s
  (simp [State.commitNow, *])

@[simp] theorem State.commitStep_blank (M : Mask) (_ : M.host = true) (_ : M.setter = true) (_ : M.kilns = true) (_ : M.wheels = true) (_ : M.keys = true) (_ : M.routing = true) (_ : M.ent = true) (_ : M.fw = true) (_ : M.cus = true) (_ : M.mir = true) (_ : M.flt = true) (_ : M.log = true) (_ : M.sys = true) (_ : M.store = true) (_ : M.freeCtr = true) (_ : M.out = true) :
    ∀ s, ((State.commitStep s)).blank M = s.blank M := by
  intro s
  (unfold State.commitStep; (repeat' split) <;> (simp [blank_ite, *]))

@[simp] theorem State.writingDone_blank (M : Mask) (_ : M.host = true) (_ : M.setter = true) (_ : M.kilns = true) (_ : M.wheels = true) (_ : M.keys = true) (_ : M.routing = true) (_ : M.ent = true) (_ : M.fw = true) (_ : M.cus = true) (_ : M.mir = true) (_ : M.flt = true) (_ : M.log = true) (_ : M.sys = true) (_ : M.store = true) (_ : M.freeCtr = true) (_ : M.out = true) :
    ∀ s, ((State.writingDone s)).blank M = s.blank M := by
  intro s
  (simp [State.writingDone, blank_ite, *])

@[simp] theorem State.splitA_blank (M : Mask) (_ : M.cus = true) :
    ∀ a0 a1 s, ((State.splitA s a0 a1)).blank M = s.blank M := by
  intro a0 a1 s
  (simp [State.splitA, *])

@[simp] theorem State.splitSsk_blank (M : Mask) (_ : M.cus = true) :
    ∀ a0 a1 a2 a3 a4 s, ((State.splitSsk s a0 a1 a2 a3 a4)).blank M = s.blank M := by
  intro a0 a1 a2 a3 a4 s
  (simp [State.splitSsk, *])

@[simp] theorem State.applyKind_blank (M : Mask) (_ : M.host = true) (_ : M.setter = true) (_ : M.kilns = true) (_ : M.wheels = true) (_ : M.keys = true) (_ : M.routing = true) (_ : M.ent = true) (_ : M.fw = true) (_ : M.cus = true) (_ : M.mir = true) (_ : M.flt = true) (_ : M.log = true) (_ : M.sys = true) (_ : M.store = true) (_ : M.freeCtr = true) (_ : M.out = true) :
    ∀ a0 s, ((State.applyKind s a0)).blank M = s.blank M := by
  intro a0 s
  (unfold State.applyKind; dsimp only; (repeat' split) <;> (simp [*]))

@[simp] theorem State.applyStep_blank (M : Mask) (_ : M.host = true) (_ : M.setter = true) (_ : M.kilns = true) (_ : M.wheels = true) (_ : M.keys = true) (_ : M.routing = true) (_ : M.ent = true) (_ : M.fw = true) (_ : M.cus = true) (_ : M.mir = true) (_ : M.flt = true) (_ : M.log = true) (_ : M.sys = true) (_ : M.store = true) (_ : M.freeCtr = true) (_ : M.out = true) :
    ∀ s, (State.applyStep s).blank M = s.blank M := by
  intro s
  unfold State.applyStep
  have h := State.controlBytes_blank M (by assumption) (by assumption) (by assumption) (by assumption)
    (s.crDraws s.cus.cer.record) s
  split
  · rfl
  · dsimp only
    split
    · simp [*]
    · split
      · simp [*]
      · split <;> simp_all

@[simp] theorem State.setsDone_blank (M : Mask) (_ : M.host = true) (_ : M.setter = true) (_ : M.kilns = true) (_ : M.wheels = true) (_ : M.keys = true) (_ : M.routing = true) (_ : M.ent = true) (_ : M.fw = true) (_ : M.cus = true) (_ : M.mir = true) (_ : M.flt = true) (_ : M.log = true) (_ : M.sys = true) (_ : M.store = true) (_ : M.freeCtr = true) (_ : M.out = true) :
    ∀ s, ((State.setsDone s)).blank M = s.blank M := by
  intro s
  (simp [State.setsDone, blank_ite, *])

@[simp] theorem State.setLatches_blank (M : Mask) (_ : M.keys = true) :
    ∀ s, ((State.setLatches s)).blank M = s.blank M := by
  intro s
  (simp [State.setLatches, *])

@[simp] theorem State.combineSet_blank (M : Mask) (_ : M.host = true) (_ : M.setter = true) (_ : M.kilns = true) (_ : M.wheels = true) (_ : M.keys = true) (_ : M.routing = true) (_ : M.ent = true) (_ : M.fw = true) (_ : M.cus = true) (_ : M.mir = true) (_ : M.flt = true) (_ : M.log = true) (_ : M.sys = true) (_ : M.store = true) (_ : M.freeCtr = true) (_ : M.out = true) :
    ∀ a0 s, ((State.combineSet s a0)).blank M = s.blank M := by
  intro a0 s
  (simp [State.combineSet, blank_ite, *])

@[simp] theorem State.sendApdu_blank (M : Mask) (_ : M.cus = true) (_ : M.out = true) :
    ∀ a0 a1 a2 s, ((State.sendApdu s a0 a1 a2)).blank M = s.blank M := by
  intro a0 a1 a2 s
  (simp [State.sendApdu, *])

@[simp] theorem State.sendSecure_blank (M : Mask) (_ : M.cus = true) (_ : M.out = true) :
    ∀ a0 a1 a2 a3 s, ((State.sendSecure s a0 a1 a2 a3)).blank M = s.blank M := by
  intro a0 a1 a2 a3 s
  (simp [State.sendSecure, *])

@[simp] theorem State.journalCard_blank (M : Mask) (_ : M.cus = true) :
    ∀ a0 a1 a2 s, ((State.journalCard s a0 a1 a2)).blank M = s.blank M := by
  intro a0 a1 a2 s
  (simp [State.journalCard, *])

@[simp] theorem State.cardFails_blank (M : Mask) (_ : M.host = true) (_ : M.cus = true) (_ : M.log = true) (_ : M.out = true) :
    ∀ a0 a1 a2 s, ((State.cardFails s a0 a1 a2)).blank M = s.blank M := by
  intro a0 a1 a2 s
  (simp [State.cardFails, blank_when, *])

@[simp] theorem State.onResponse_blank (M : Mask) (_ : M.host = true) (_ : M.cus = true) (_ : M.log = true) (_ : M.out = true) :
    ∀ p x sw f s, (∀ s, (f s).blank M = s.blank M) → (State.onResponse s p x sw f).blank M = s.blank M := by
  intro p x sw f s h
  unfold State.onResponse
  apply blank_when
  split <;> simp [*]

@[simp] theorem State.serveCard_blank (M : Mask) (_ : M.cus = true) (_ : M.out = true) :
    ∀ a0 a1 s, ((State.serveCard s a0 a1)).blank M = s.blank M := by
  intro a0 a1 s
  (unfold State.serveCard; dsimp only; (repeat' split) <;> (simp [*]))

@[simp] theorem State.identified_blank (M : Mask) (_ : M.host = true) (_ : M.cus = true) (_ : M.log = true) (_ : M.out = true) :
    ∀ a0 a1 s, ((State.identified s a0 a1)).blank M = s.blank M := by
  intro a0 a1 s
  (simp [State.identified, blank_ite, *])

@[simp] theorem State.challengeCard_blank (M : Mask) (_ : M.host = true) (_ : M.ent = true) (_ : M.cus = true) (_ : M.log = true) (_ : M.out = true) :
    ∀ p s, (State.challengeCard s p).blank M = s.blank M := by
  intro p s
  unfold State.challengeCard
  have h := State.controlBytes_blank M (by assumption) (by assumption) (by assumption) (by assumption) 80 s
  split <;> simp_all

@[simp] theorem State.authenticated_blank (M : Mask) (_ : M.host = true) (_ : M.setter = true) (_ : M.kilns = true) (_ : M.wheels = true) (_ : M.keys = true) (_ : M.routing = true) (_ : M.ent = true) (_ : M.fw = true) (_ : M.cus = true) (_ : M.mir = true) (_ : M.flt = true) (_ : M.log = true) (_ : M.sys = true) (_ : M.store = true) (_ : M.freeCtr = true) (_ : M.out = true) :
    ∀ a0 a1 s, ((State.authenticated s a0 a1)).blank M = s.blank M := by
  intro a0 a1 s
  (unfold State.authenticated; dsimp only; (repeat' split) <;> (simp [blank_when, *]))

@[simp] theorem State.released_blank (M : Mask) (_ : M.host = true) (_ : M.setter = true) (_ : M.kilns = true) (_ : M.wheels = true) (_ : M.keys = true) (_ : M.routing = true) (_ : M.ent = true) (_ : M.fw = true) (_ : M.cus = true) (_ : M.mir = true) (_ : M.flt = true) (_ : M.log = true) (_ : M.sys = true) (_ : M.store = true) (_ : M.freeCtr = true) (_ : M.out = true) :
    ∀ a0 a1 a2 s, ((State.released s a0 a1 a2)).blank M = s.blank M := by
  intro a0 a1 a2 s
  (simp [State.released, blank_ite, *])

@[simp] theorem State.stored_blank (M : Mask) (_ : M.host = true) (_ : M.setter = true) (_ : M.kilns = true) (_ : M.wheels = true) (_ : M.keys = true) (_ : M.routing = true) (_ : M.ent = true) (_ : M.fw = true) (_ : M.cus = true) (_ : M.mir = true) (_ : M.flt = true) (_ : M.log = true) (_ : M.sys = true) (_ : M.store = true) (_ : M.freeCtr = true) (_ : M.out = true) :
    ∀ a0 a1 a2 s, ((State.stored s a0 a1 a2)).blank M = s.blank M := by
  intro a0 a1 a2 s
  (unfold State.stored; (repeat' split) <;> (simp [blank_ite, *]))

@[simp] theorem State.onSecured_blank (M : Mask) (_ : M.host = true) (_ : M.cus = true) (_ : M.log = true) (_ : M.out = true) :
    ∀ p ins sw x d f s, (∀ s b, (f s b).blank M = s.blank M) → (State.onSecured s p ins sw x d f).blank M = s.blank M := by
  intro p ins sw x d f s h
  exact State.onResponse_blank M (by assumption) (by assumption) (by assumption) (by assumption) _ _ _ _ _ fun s => by
    split <;> simp [*]

@[simp] theorem State.beginCeremony_blank (M : Mask) (_ : M.host = true) (_ : M.cus = true) (_ : M.log = true) (_ : M.lcc = true) (_ : M.out = true) :
    ∀ a0 s, ((State.beginCeremony s a0)).blank M = s.blank M := by
  intro a0 s
  (simp [State.beginCeremony, *])

@[simp] theorem State.cerBegin_blank (M : Mask) (_ : M.host = true) (_ : M.cus = true) (_ : M.log = true) (_ : M.lcc = true) (_ : M.out = true) :
    ∀ a0 a1 s, ((State.cerBegin s a0 a1).1).blank M = s.blank M := by
  intro a0 a1 s
  (unfold State.cerBegin; dsimp only; (repeat' split) <;> (simp [*]))

@[simp] theorem State.cerJournal_blank (M : Mask) (_ : M.host = true) (_ : M.out = true) :
    ∀ a0 a1 a2 s, ((State.cerJournal s a0 a1 a2).1).blank M = s.blank M := by
  intro a0 a1 a2 s
  (unfold State.cerJournal; dsimp only; (repeat' split) <;> (simp [*]))

@[simp] theorem State.cerDrained_blank (M : Mask) (_ : M.host = true) (_ : M.setter = true) (_ : M.kilns = true) (_ : M.wheels = true) (_ : M.keys = true) (_ : M.routing = true) (_ : M.ent = true) (_ : M.fw = true) (_ : M.cus = true) (_ : M.mir = true) (_ : M.flt = true) (_ : M.log = true) (_ : M.sys = true) (_ : M.store = true) (_ : M.freeCtr = true) (_ : M.out = true) :
    ∀ s, ((State.cerDrained s)).blank M = s.blank M := by
  intro s
  (simp [State.cerDrained, blank_forEach, *])

@[simp] theorem State.blockFailure_blank (M : Mask) (_ : M.host = true) (_ : M.cus = true) (_ : M.log = true) (_ : M.out = true) :
    ∀ a0 s, ((State.blockFailure s a0)).blank M = s.blank M := by
  intro a0 s
  (simp [State.blockFailure, blank_ite, *])

@[simp] theorem State.addHistory_blank (M : Mask) (_ : M.cone = true) (_ : M.freeCtr = true) :
    ∀ a0 s, ((State.addHistory s a0)).blank M = s.blank M := by
  intro a0 s
  (simp [State.addHistory, blank_ite, *])

@[simp] theorem State.project_blank (M : Mask) (_ : M.cone = true) (_ : M.freeCtr = true) :
    ∀ a0 s, ((State.project s a0)).blank M = s.blank M := by
  intro a0 s
  (simp [State.project, blank_ite, *])

@[simp] theorem State.projectDevice_blank (M : Mask) (_ : M.cone = true) (_ : M.freeCtr = true) :
    ∀ s, ((State.projectDevice s)).blank M = s.blank M := by
  intro s
  (simp [State.projectDevice, *])

@[simp] theorem State.noteMeasured_blank (M : Mask) (_ : M.cone = true) (_ : M.freeCtr = true) :
    ∀ a0 a1 s, ((State.noteMeasured s a0 a1)).blank M = s.blank M := by
  intro a0 a1 s
  (simp [State.noteMeasured, *])

@[simp] theorem State.takePlan_blank (M : Mask) (_ : M.host = true) (_ : M.setter = true) (_ : M.kilns = true) (_ : M.wheels = true) (_ : M.keys = true) (_ : M.ent = true) (_ : M.fw = true) (_ : M.mir = true) (_ : M.flt = true) (_ : M.log = true) (_ : M.cone = true) (_ : M.sys = true) (_ : M.store = true) (_ : M.out = true) :
    ∀ a0 a1 a2 a3 s, ((State.takePlan s a0 a1 a2 a3)).blank M = s.blank M := by
  intro a0 a1 a2 a3 s
  (simp [State.takePlan, blank_ite, blank_when, *])

@[simp] theorem State.failMeasure_blank (M : Mask) (_ : M.host = true) (_ : M.setter = true) (_ : M.kilns = true) (_ : M.wheels = true) (_ : M.keys = true) (_ : M.ent = true) (_ : M.fw = true) (_ : M.mir = true) (_ : M.flt = true) (_ : M.log = true) (_ : M.cone = true) (_ : M.sys = true) (_ : M.store = true) (_ : M.out = true) :
    ∀ a0 s, ((State.failMeasure s a0)).blank M = s.blank M := by
  intro a0 s
  (simp [State.failMeasure, blank_ite, *])

@[simp] theorem State.kilnOverdue_blank (M : Mask) (_ : M.host = true) (_ : M.setter = true) (_ : M.kilns = true) (_ : M.wheels = true) (_ : M.keys = true) (_ : M.log = true) (_ : M.cone = true) (_ : M.store = true) (_ : M.out = true) :
    ∀ a0 s, ((State.kilnOverdue s a0)).blank M = s.blank M := by
  intro a0 s
  (simp [State.kilnOverdue, blank_when, *])

@[simp] theorem State.blockReport_blank (M : Mask) (_ : M.host = true) (_ : M.log = true) (_ : M.out = true) :
    ∀ a0 s, ((State.blockReport s a0)).blank M = s.blank M := by
  intro a0 s
  (simp [State.blockReport, *])

@[simp] theorem State.measured_blank (M : Mask) (_ : M.host = true) (_ : M.setter = true) (_ : M.kilns = true) (_ : M.wheels = true) (_ : M.keys = true) (_ : M.ent = true) (_ : M.fw = true) (_ : M.mir = true) (_ : M.flt = true) (_ : M.log = true) (_ : M.cone = true) (_ : M.sys = true) (_ : M.store = true) (_ : M.freeCtr = true) (_ : M.out = true) :
    ∀ a0 a1 s, ((State.measured s a0 a1)).blank M = s.blank M := by
  intro a0 a1 s
  (unfold State.measured; dsimp only; (repeat' split) <;> (simp [*]))

@[simp] theorem State.sendFrame_blank (M : Mask) (_ : M.mir = true) (_ : M.out = true) :
    ∀ a0 a1 s, ((State.sendFrame s a0 a1)).blank M = s.blank M := by
  intro a0 a1 s
  (simp [State.sendFrame, *])

@[simp] theorem State.sendLong_blank (M : Mask) (_ : M.mir = true) (_ : M.out = true) :
    ∀ a0 a1 s, ((State.sendLong s a0 a1)).blank M = s.blank M := by
  intro a0 a1 s
  exact blank_forEach M _ _ _ (fun p s => by simp [*])

@[simp] theorem State.sendGroups_blank (M : Mask) (_ : M.mir = true) (_ : M.out = true) :
    ∀ a0 s, ((State.sendGroups s a0)).blank M = s.blank M := by
  intro a0 s
  refine (blank_forEach M _ _ _ fun d s => ?_).trans (by simp [*])
  cases d <;> simp [*]

@[simp] theorem State.frameIn_blank (M : Mask) (_ : M.host = true) (_ : M.mir = true) (_ : M.log = true) (_ : M.out = true) :
    ∀ hdr f s, (∀ s, (f s).blank M = s.blank M) → (State.frameIn hdr f s).blank M = s.blank M := by
  intro hdr f s h
  unfold State.frameIn
  (repeat' split) <;> simp [blank_when, *]

@[simp] theorem State.standbyCeremony_blank (M : Mask) (_ : M.host = true) (_ : M.setter = true) (_ : M.kilns = true) (_ : M.wheels = true) (_ : M.keys = true) (_ : M.routing = true) (_ : M.ent = true) (_ : M.fw = true) (_ : M.cus = true) (_ : M.mir = true) (_ : M.log = true) (_ : M.store = true) (_ : M.freeCtr = true) (_ : M.out = true) :
    ∀ a0 s, ((State.standbyCeremony s a0)).blank M = s.blank M := by
  intro a0 s
  (unfold State.standbyCeremony; split <;> simp [*])

@[simp] theorem State.applyDelta_blank (M : Mask) (_ : M.host = true) (_ : M.setter = true) (_ : M.kilns = true) (_ : M.wheels = true) (_ : M.keys = true) (_ : M.routing = true) (_ : M.ent = true) (_ : M.fw = true) (_ : M.cus = true) (_ : M.mir = true) (_ : M.log = true) (_ : M.store = true) (_ : M.freeCtr = true) (_ : M.out = true) :
    ∀ a0 s, ((State.applyDelta s a0)).blank M = s.blank M := by
  intro a0 s
  (unfold State.applyDelta; (repeat' split) <;> (simp [*]))

@[simp] theorem State.applyGroups_blank (M : Mask) (_ : M.host = true) (_ : M.setter = true) (_ : M.kilns = true) (_ : M.wheels = true) (_ : M.keys = true) (_ : M.routing = true) (_ : M.ent = true) (_ : M.fw = true) (_ : M.cus = true) (_ : M.mir = true) (_ : M.log = true) (_ : M.store = true) (_ : M.freeCtr = true) (_ : M.out = true) :
    ∀ gs s, (State.applyGroups gs s).1.blank M = s.blank M := by
  intro gs
  induction gs with
  | nil => intro s; rfl
  | cons g gs ih =>
    intro s
    simp only [State.applyGroups]
    (repeat' split) <;> simp [blank_forEach, *]

@[simp] theorem State.leaseLost_blank (M : Mask) (_ : M.host = true) (_ : M.mir = true) (_ : M.log = true) (_ : M.out = true) :
    ∀ s, ((State.leaseLost s)).blank M = s.blank M := by
  intro s
  (simp [State.leaseLost, blank_ite, *])

@[simp] theorem State.linkResync_blank (M : Mask) (_ : M.host = true) (_ : M.mir = true) (_ : M.log = true) (_ : M.out = true) :
    ∀ s, ((State.linkResync s)).blank M = s.blank M := by
  intro s
  (simp [State.linkResync, blank_ite, *])

@[simp] theorem State.askResync_blank (M : Mask) (_ : M.mir = true) (_ : M.out = true) :
    ∀ s, ((State.askResync s)).blank M = s.blank M := by
  intro s
  (simp [State.askResync, *])

@[simp] theorem State.dropControls_blank (M : Mask) (_ : M.host = true) (_ : M.setter = true) (_ : M.kilns = true) (_ : M.wheels = true) (_ : M.keys = true) (_ : M.ent = true) (_ : M.mbx = true) (_ : M.fw = true) (_ : M.cus = true) (_ : M.mir = true) (_ : M.flt = true) (_ : M.log = true) (_ : M.sys = true) (_ : M.store = true) (_ : M.freeCtr = true) (_ : M.out = true) :
    ∀ s, (State.dropControls s).blank M = s.blank M := by
  intro s
  unfold State.dropControls
  dsimp only
  rw [blank_forEach _ _ _ _ (by intro c s; split <;> simp [*])]
  simp [*]

@[simp] theorem State.endSwitchback_blank (M : Mask) (_ : M.host = true) (_ : M.mbx = true) (_ : M.log = true) (_ : M.freeCtr = true) (_ : M.out = true) :
    ∀ a0 a1 s, ((State.endSwitchback s a0 a1)).blank M = s.blank M := by
  intro a0 a1 s
  (unfold State.endSwitchback; (repeat' split) <;> (simp [*]))

@[simp] theorem State.demote_blank (M : Mask) (_ : M.host = true) (_ : M.setter = true) (_ : M.kilns = true) (_ : M.wheels = true) (_ : M.keys = true) (_ : M.ent = true) (_ : M.mbx = true) (_ : M.fw = true) (_ : M.cus = true) (_ : M.mir = true) (_ : M.flt = true) (_ : M.log = true) (_ : M.sys = true) (_ : M.store = true) (_ : M.freeCtr = true) (_ : M.out = true) :
    ∀ a0 s, ((State.demote s a0)).blank M = s.blank M := by
  intro a0 s
  (simp [State.demote, blank_ite, blank_forEach, *])

@[simp] theorem State.promote_blank (M : Mask) (_ : M.host = true) (_ : M.setter = true) (_ : M.kilns = true) (_ : M.wheels = true) (_ : M.keys = true) (_ : M.ent = true) (_ : M.fw = true) (_ : M.mir = true) (_ : M.flt = true) (_ : M.log = true) (_ : M.sys = true) (_ : M.store = true) (_ : M.out = true) :
    ∀ a0 s, ((State.promote s a0)).blank M = s.blank M := by
  intro a0 s
  (simp [State.promote, *])

@[simp] theorem State.sendRest_blank (M : Mask) (_ : M.mir = true) (_ : M.out = true) :
    ∀ a0 s, ((State.sendRest s a0)).blank M = s.blank M := by
  intro a0 s
  (simp [State.sendRest, blank_ite, *])

@[simp] theorem State.sendSnapshot_blank (M : Mask) (_ : M.mir = true) (_ : M.out = true) :
    ∀ s, ((State.sendSnapshot s)).blank M = s.blank M := by
  intro s
  simp only [State.sendSnapshot]
  refine (State.sendRest_blank M (by assumption) (by assumption) _ _).trans ?_
  exact (blank_forEach M _ _ _ (fun g s => by simp [*])).trans (by simp [*])

@[simp] theorem State.newNonce_blank (M : Mask) (_ : M.host = true) (_ : M.keys = true) (_ : M.ent = true) (_ : M.log = true) (_ : M.out = true) :
    ∀ a0 s, ((State.newNonce s a0)).blank M = s.blank M := by
  intro a0 s
  (simp [State.newNonce, *])

@[simp] theorem State.applySnap_blank (M : Mask) (_ : M.host = true) (_ : M.keys = true) (_ : M.ent = true) (_ : M.cus = true) (_ : M.mir = true) (_ : M.log = true) (_ : M.out = true) :
    ∀ a0 s, ((State.applySnap s a0)).blank M = s.blank M := by
  intro a0 s
  (unfold State.applySnap; (repeat' split) <;> (simp [blank_ite, blank_when, blank_forEach, *]))

@[simp] theorem State.beginSnapshot_blank (M : Mask) (_ : M.mir = true) :
    ∀ s, ((State.beginSnapshot s)).blank M = s.blank M := by
  intro s
  (simp [State.beginSnapshot, blank_ite, *])

@[simp] theorem State.eraseUnseen_blank (M : Mask) (_ : M.host = true) (_ : M.setter = true) (_ : M.kilns = true) (_ : M.wheels = true) (_ : M.keys = true) (_ : M.routing = true) (_ : M.ent = true) (_ : M.cus = true) (_ : M.mir = true) (_ : M.log = true) (_ : M.store = true) (_ : M.out = true) :
    ∀ s, ((State.eraseUnseen s)).blank M = s.blank M := by
  intro s
  (simp [State.eraseUnseen, blank_ite, blank_forEach, *])

@[simp] theorem State.takeMasters_blank (M : Mask) (_ : M.host = true) (_ : M.keys = true) (_ : M.ent = true) (_ : M.log = true) (_ : M.out = true) :
    ∀ a0 a1 s, ((State.takeMasters s a0 a1)).blank M = s.blank M := by
  intro a0 a1 s
  unfold State.takeMasters
  split
  · rfl
  · refine State.withControl_blank M (by assumption) (by assumption) (by assumption) (by assumption) _ _ _ _ fun e s => ?_
    exact blank_forEach M _ _ _ fun e s => by split <;> simp [*]

@[simp] theorem State.takeKeys_blank (M : Mask) (_ : M.host = true) (_ : M.keys = true) (_ : M.ent = true) (_ : M.cus = true) (_ : M.log = true) (_ : M.out = true) :
    ∀ a0 a1 a2 s, ((State.takeKeys s a0 a1 a2)).blank M = s.blank M := by
  intro a0 a1 a2 s
  (simp [State.takeKeys, *])

@[simp] theorem State.mirroredNow_blank (M : Mask) (_ : M.host = true) (_ : M.setter = true) (_ : M.kilns = true) (_ : M.wheels = true) (_ : M.keys = true) (_ : M.ent = true) (_ : M.fw = true) (_ : M.mir = true) (_ : M.flt = true) (_ : M.log = true) (_ : M.sys = true) (_ : M.store = true) (_ : M.out = true) :
    ∀ s, ((State.mirroredNow s)).blank M = s.blank M := by
  intro s
  (simp [State.mirroredNow, blank_ite, *])

@[simp] theorem State.controlDone_blank (M : Mask) (_ : M.host = true) (_ : M.setter = true) (_ : M.kilns = true) (_ : M.wheels = true) (_ : M.keys = true) (_ : M.routing = true) (_ : M.ent = true) (_ : M.mbx = true) (_ : M.fw = true) (_ : M.cus = true) (_ : M.mir = true) (_ : M.flt = true) (_ : M.log = true) (_ : M.sys = true) (_ : M.store = true) (_ : M.freeCtr = true) (_ : M.out = true) :
    ∀ a0 s, ((State.controlDone s a0)).blank M = s.blank M := by
  intro a0 s
  (unfold State.controlDone; (repeat' split) <;> (simp [blank_ite, *]))

@[simp] theorem State.acknowledge_blank (M : Mask) (_ : M.host = true) (_ : M.setter = true) (_ : M.kilns = true) (_ : M.wheels = true) (_ : M.keys = true) (_ : M.routing = true) (_ : M.ent = true) (_ : M.mbx = true) (_ : M.fw = true) (_ : M.cus = true) (_ : M.mir = true) (_ : M.flt = true) (_ : M.log = true) (_ : M.sys = true) (_ : M.store = true) (_ : M.freeCtr = true) (_ : M.out = true) :
    ∀ a0 s, ((State.acknowledge s a0)).blank M = s.blank M := by
  intro a0 s
  (simp [State.acknowledge, blank_forEach, *])

@[simp] theorem State.voidGroup_blank (M : Mask) (_ : M.mir = true) :
    ∀ a0 s, ((State.voidGroup s a0)).blank M = s.blank M := by
  intro a0 s
  (simp [State.voidGroup, *])

@[simp] theorem State.controlUnacked_blank (M : Mask) (_ : M.host = true) (_ : M.setter = true) (_ : M.kilns = true) (_ : M.wheels = true) (_ : M.keys = true) (_ : M.routing = true) (_ : M.ent = true) (_ : M.mbx = true) (_ : M.fw = true) (_ : M.cus = true) (_ : M.mir = true) (_ : M.flt = true) (_ : M.log = true) (_ : M.sys = true) (_ : M.store = true) (_ : M.freeCtr = true) (_ : M.out = true) :
    ∀ a0 a1 s, ((State.controlUnacked s a0 a1)).blank M = s.blank M := by
  intro a0 a1 s
  (unfold State.controlUnacked; (repeat' split) <;> (simp [blank_ite, *]))

@[simp] theorem State.pairFails_blank (M : Mask) (_ : M.host = true) (_ : M.mir = true) (_ : M.log = true) (_ : M.out = true) :
    ∀ s, ((State.pairFails s)).blank M = s.blank M := by
  intro s
  (simp [State.pairFails, *])

@[simp] theorem State.unauthorise_blank (M : Mask) (_ : M.host = true) (_ : M.cus = true) (_ : M.mir = true) (_ : M.log = true) (_ : M.out = true) :
    ∀ s, ((State.unauthorise s)).blank M = s.blank M := by
  intro s
  (simp [State.unauthorise, *])

@[simp] theorem State.sendHello_blank (M : Mask) (_ : M.host = true) (_ : M.ent = true) (_ : M.mir = true) (_ : M.log = true) (_ : M.out = true) :
    ∀ s, ((State.sendHello s)).blank M = s.blank M := by
  intro s
  (simp [State.sendHello, *])

@[simp] theorem State.sendChain_blank (M : Mask) (_ : M.mir = true) (_ : M.out = true) :
    ∀ s, ((State.sendChain s)).blank M = s.blank M := by
  intro s
  (simp [State.sendChain, *])

@[simp] theorem State.sendKems_blank (M : Mask) (_ : M.host = true) (_ : M.ent = true) (_ : M.mir = true) (_ : M.log = true) (_ : M.out = true) :
    ∀ s, ((State.sendKems s)).blank M = s.blank M := by
  intro s
  (simp [State.sendKems, *])

@[simp] theorem State.formPair_blank (M : Mask) (_ : M.host = true) (_ : M.setter = true) (_ : M.kilns = true) (_ : M.wheels = true) (_ : M.keys = true) (_ : M.routing = true) (_ : M.ent = true) (_ : M.cus = true) (_ : M.mir = true) (_ : M.log = true) (_ : M.store = true) (_ : M.out = true) :
    ∀ a0 a1 s, ((State.formPair s a0 a1)).blank M = s.blank M := by
  intro a0 a1 s
  (unfold State.formPair; (repeat' split) <;> (simp [blank_forEach, *]))

@[simp] theorem State.answerKems_blank (M : Mask) (_ : M.host = true) (_ : M.setter = true) (_ : M.kilns = true) (_ : M.wheels = true) (_ : M.keys = true) (_ : M.routing = true) (_ : M.ent = true) (_ : M.cus = true) (_ : M.mir = true) (_ : M.log = true) (_ : M.store = true) (_ : M.out = true) :
    ∀ d s, (State.answerKems s d).blank M = s.blank M := by
  intro d s
  unfold State.answerKems
  dsimp only
  split
  · simp [*]
  · exact State.withControl_blank M (by assumption) (by assumption) (by assumption) (by assumption) _ _ _ _ fun e s => by split <;> simp [*]

@[simp] theorem State.takeKems_blank (M : Mask) (_ : M.host = true) (_ : M.setter = true) (_ : M.kilns = true) (_ : M.wheels = true) (_ : M.keys = true) (_ : M.routing = true) (_ : M.ent = true) (_ : M.cus = true) (_ : M.mir = true) (_ : M.log = true) (_ : M.store = true) (_ : M.out = true) :
    ∀ a0 s, ((State.takeKems s a0)).blank M = s.blank M := by
  intro a0 s
  (unfold State.takeKems; dsimp only; (repeat' split) <;> (simp [*]))

@[simp] theorem State.takeChain_blank (M : Mask) (_ : M.host = true) (_ : M.ent = true) (_ : M.mir = true) (_ : M.log = true) (_ : M.out = true) :
    ∀ a0 s, ((State.takeChain s a0)).blank M = s.blank M := by
  intro a0 s
  (unfold State.takeChain; (repeat' split) <;> (simp [*]))

@[simp] theorem State.twoActive_blank (M : Mask) (_ : M.host = true) (_ : M.setter = true) (_ : M.kilns = true) (_ : M.wheels = true) (_ : M.keys = true) (_ : M.ent = true) (_ : M.mbx = true) (_ : M.fw = true) (_ : M.cus = true) (_ : M.mir = true) (_ : M.flt = true) (_ : M.log = true) (_ : M.sys = true) (_ : M.store = true) (_ : M.freeCtr = true) (_ : M.out = true) :
    ∀ s, ((State.twoActive s)).blank M = s.blank M := by
  intro s
  (simp [State.twoActive, blank_ite, *])

@[simp] theorem State.writeRecord_blank (M : Mask) (_ : M.host = true) (_ : M.log = true) (_ : M.out = true) :
    ∀ g s, (State.writeRecord s g).blank M = s.blank M := by
  intro g s
  unfold State.writeRecord
  split
  · simp [*]
  · split
    · rfl
    · rename_i h
      have h2 := State.programRecord_blank M (by assumption) (by assumption) (by assumption) _ _ _ _ h
      simp [*]

@[simp] theorem State.writeNext_blank (M : Mask) (_ : M.host = true) (_ : M.log = true) (_ : M.out = true) :
    ∀ s, ((State.writeNext s)).blank M = s.blank M := by
  intro s
  (unfold State.writeNext; (repeat' split) <;> (simp [*]))

@[simp] theorem State.closePages_blank (M : Mask) (_ : M.log = true) :
    ∀ s, (State.closePages s).blank M = s.blank M := by
  intro s
  unfold State.closePages
  exact blank_forEach _ _ _ _ fun i s => by split <;> simp [*]

@[simp] theorem State.flushDone_blank (M : Mask) (_ : M.host = true) (_ : M.log = true) (_ : M.out = true) :
    ∀ s, ((State.flushDone s)).blank M = s.blank M := by
  intro s
  (simp [State.flushDone, *])

@[simp] theorem State.endFaultFlush_blank (M : Mask) (_ : M.host = true) (_ : M.log = true) (_ : M.out = true) :
    ∀ a0 s, ((State.endFaultFlush s a0)).blank M = s.blank M := by
  intro a0 s
  (simp [State.endFaultFlush, blank_forEach, *])

@[simp] theorem State.endPowerFlush_blank (M : Mask) (_ : M.host = true) (_ : M.log = true) (_ : M.out = true) :
    ∀ s, ((State.endPowerFlush s)).blank M = s.blank M := by
  intro s
  (simp [State.endPowerFlush, blank_ite, blank_forEach, *])

@[simp] theorem State.logFetch_blank (M : Mask) (_ : M.host = true) (_ : M.out = true) :
    ∀ a0 a1 a2 s, ((State.logFetch s a0 a1 a2).1).blank M = s.blank M := by
  intro a0 a1 a2 s
  (unfold State.logFetch; (repeat' split) <;> (simp [blank_when, *]))

@[simp] theorem State.logConfig_blank (M : Mask) (_ : M.host = true) (_ : M.log = true) (_ : M.out = true) :
    ∀ a0 s, ((State.logConfig s a0).1).blank M = s.blank M := by
  intro a0 s
  (unfold State.logConfig; dsimp only; (repeat' split) <;> (simp [*]))

@[simp] theorem State.lcEnd_blank (M : Mask) (_ : M.host = true) (_ : M.log = true) (_ : M.lcc = true) (_ : M.out = true) :
    ∀ a0 a1 s, ((State.lcEnd s a0 a1)).blank M = s.blank M := by
  intro a0 a1 s
  (simp [State.lcEnd, *])

@[simp] theorem State.lcErase_blank (M : Mask) (_ : M.host = true) (_ : M.kilns = true) (_ : M.wheels = true) (_ : M.keys = true) (_ : M.routing = true) (_ : M.ent = true) (_ : M.cus = true) (_ : M.mir = true) (_ : M.log = true) (_ : M.lcc = true) (_ : M.store = true) (_ : M.mem = true) (_ : M.out = true) :
    ∀ s, ((State.lcErase s)).blank M = s.blank M := by
  intro s
  (simp [State.lcErase, *])

@[simp] theorem State.lcBurn_blank (M : Mask) (_ : M.lcc = true) :
    ∀ a0 a1 s, ((State.lcBurn s a0 a1).1).blank M = s.blank M := by
  intro a0 a1 s
  (simp [State.lcBurn, blank_ite, *])

@[simp] theorem State.lcTransition_blank (M : Mask) (_ : M.host = true) (_ : M.setter = true) (_ : M.kilns = true) (_ : M.wheels = true) (_ : M.keys = true) (_ : M.routing = true) (_ : M.ent = true) (_ : M.fw = true) (_ : M.cus = true) (_ : M.mir = true) (_ : M.tmp = true) (_ : M.flt = true) (_ : M.log = true) (_ : M.sys = true) (_ : M.lcc = true) (_ : M.store = true) (_ : M.mem = true) (_ : M.out = true) :
    ∀ a0 a1 s, ((State.lcTransition s a0 a1).1).blank M = s.blank M := by
  intro a0 a1 s
  (unfold State.lcTransition; (repeat' split) <;> (simp [blank_when, *]))

@[simp] theorem State.writeXstate_blank (M : Mask) (_ : M.host = true) (_ : M.setter = true) (_ : M.kilns = true) (_ : M.wheels = true) (_ : M.keys = true) (_ : M.routing = true) (_ : M.ent = true) (_ : M.fw = true) (_ : M.cus = true) (_ : M.mir = true) (_ : M.tmp = true) (_ : M.flt = true) (_ : M.log = true) (_ : M.sys = true) (_ : M.lcc = true) (_ : M.store = true) (_ : M.mem = true) (_ : M.out = true) :
    ∀ a0 a1 s, ((State.writeXstate s a0 a1)).blank M = s.blank M := by
  intro a0 a1 s
  (unfold State.writeXstate; split <;> simp [*])

@[simp] theorem State.lcChallenge_blank (M : Mask) (_ : M.host = true) (_ : M.ent = true) (_ : M.log = true) (_ : M.lcc = true) (_ : M.out = true) :
    ∀ p s, (State.lcChallenge s p).1.blank M = s.blank M := by
  intro p s
  unfold State.lcChallenge
  have h := State.controlBytes_blank M (by assumption) (by assumption) (by assumption) (by assumption) 32 s
  (repeat' split) <;> simp_all

@[simp] theorem State.lcAnswer_blank (M : Mask) (_ : M.lcc = true) :
    ∀ a0 a1 s, ((State.lcAnswer s a0 a1).1).blank M = s.blank M := by
  intro a0 a1 s
  (unfold State.lcAnswer; dsimp only; (repeat' split) <;> (simp [*]))

theorem State.rcOwn_blank (M : Mask) (_ : M.host = true) (_ : M.mbx = true) :
    ∀ i r b n o s t, State.rcOwn s i r b n o = some t → t.blank M = s.blank M := by
  intro i r b n o s t h
  unfold State.rcOwn at h
  (repeat' split at h) <;> cases h <;> simp [*]

@[simp] theorem State.rcStale_blank (M : Mask) (_ : M.host = true) :
    ∀ a0 s, ((State.rcStale s a0)).blank M = s.blank M := by
  intro a0 s
  (simp [State.rcStale, *])

@[simp] theorem State.rcGlobal_blank (M : Mask) (_ : M.keys = true) (_ : M.routing = true) (_ : M.ent = true) (_ : M.cus = true) (_ : M.mir = true) (_ : M.tmp = true) (_ : M.log = true) (_ : M.sys = true) (_ : M.dma = true) :
    ∀ a0 s, ((State.rcGlobal s a0)).blank M = s.blank M := by
  intro a0 s
  (unfold State.rcGlobal; (repeat' split) <;> (simp [blank_when, *]))

@[simp] theorem State.rcRead_blank (M : Mask) (_ : M.host = true) (_ : M.keys = true) (_ : M.routing = true) (_ : M.ent = true) (_ : M.mbx = true) (_ : M.cus = true) (_ : M.mir = true) (_ : M.tmp = true) (_ : M.log = true) (_ : M.sys = true) (_ : M.dma = true) :
    ∀ i o s, (State.rcRead s i o).blank M = s.blank M := by
  intro i o s
  have h1 : ∀ r b n, ((s.rcOwn i r b n o).getD s).blank M = s.blank M := by
    intro r b n
    cases h : s.rcOwn i r b n o with
    | none => rfl
    | some t => exact State.rcOwn_blank M (by assumption) (by assumption) _ _ _ _ _ _ _ h
  have h2 : ∀ r b n, ((s.rcOwn i r b n o).getD (s.rcGlobal o)).blank M = s.blank M := by
    intro r b n
    cases h : s.rcOwn i r b n o with
    | none => exact State.rcGlobal_blank M (by assumption) (by assumption) (by assumption) (by assumption) (by assumption) (by assumption) (by assumption) (by assumption) (by assumption) _ _
    | some t => exact State.rcOwn_blank M (by assumption) (by assumption) _ _ _ _ _ _ _ h
  unfold State.rcRead
  (repeat' split) <;> simp [*]

@[simp] theorem State.barRead_blank (M : Mask) (_ : M.host = true) (_ : M.keys = true) (_ : M.routing = true) (_ : M.ent = true) (_ : M.mbx = true) (_ : M.cus = true) (_ : M.mir = true) (_ : M.tmp = true) (_ : M.log = true) (_ : M.sys = true) (_ : M.dma = true) (_ : M.out = true) :
    ∀ a0 a1 s, ((State.barRead s a0 a1)).blank M = s.blank M := by
  intro a0 a1 s
  (unfold State.barRead; split <;> simp [*])

@[simp] theorem State.ringWrite_blank (M : Mask) (_ : M.host = true) :
    ∀ a0 a1 a2 a3 s, ((State.ringWrite s a0 a1 a2 a3)).blank M = s.blank M := by
  intro a0 a1 a2 a3 s
  (simp [State.ringWrite, *])

@[simp] theorem State.boxWrite_blank (M : Mask) (_ : M.mbx = true) :
    ∀ a0 a1 a2 a3 s, ((State.boxWrite s a0 a1 a2 a3)).blank M = s.blank M := by
  intro a0 a1 a2 a3 s
  (simp [State.boxWrite, blank_ite, *])

@[simp] theorem State.msixWrite_blank (M : Mask) (_ : M.host = true) (_ : M.out = true) :
    ∀ a0 a1 a2 a3 s, ((State.msixWrite s a0 a1 a2 a3)).blank M = s.blank M := by
  intro a0 a1 a2 a3 s
  (unfold State.msixWrite; (repeat' split) <;> (simp [*]))

theorem State.causeWrite_blank (M : Mask) (_ : M.host = true) :
    ∀ w o v s t, State.causeWrite s w o v = some t → t.blank M = s.blank M := by
  intro w o v s t h
  unfold State.causeWrite at h
  (repeat' split at h) <;> cases h <;> simp [*]

@[simp] theorem State.windowWrite_blank (M : Mask) (_ : M.host = true) (_ : M.log = true) (_ : M.out = true) :
    ∀ i o v s, (State.windowWrite s i o v).blank M = s.blank M := by
  intro i o v s
  have h_violation := State.violation_blank M (by assumption) (by assumption) (by assumption)
  have h_causeWrite := State.causeWrite_blank M (by assumption)
  have h_modFn := State.modFn_blank M (by assumption)
  have h_globalWrite := State.globalWrite_blank M (by assumption) (by assumption) (by assumption)
  have h_service := State.service_blank M (by assumption) (by assumption)
  unfold State.windowWrite
  split
  · exact h_violation _ _ _
  · split
    · rename_i h
      exact h_causeWrite _ _ _ _ _ h
    · exact blank_when _ _ _ _ (h_modFn _ _ _)
    · refine h_globalWrite _ _ _ ?_
      rw [h_service]
      exact h_modFn _ _ _

theorem State.pfWrite_blank (M : Mask) (_ : M.host = true) (_ : M.mbx = true) (_ : M.log = true) (_ : M.out = true) :
    ∀ i o v s t, State.pfWrite s i o v = some t → t.blank M = s.blank M := by
  intro i o v s t h
  unfold State.pfWrite at h
  (repeat' split at h) <;> cases h <;> simp [*]

@[simp] theorem State.vfWrite_blank (M : Mask) (_ : M.host = true) (_ : M.mbx = true) (_ : M.out = true) :
    ∀ i o v s, (State.vfWrite s i o v).blank M = s.blank M := by
  intro i o v s
  have h_boxWrite := State.boxWrite_blank M (by assumption)
  have h_ringWrite := State.ringWrite_blank M (by assumption)
  have h_msixWrite := State.msixWrite_blank M (by assumption) (by assumption)
  have h_causeWrite := State.causeWrite_blank M (by assumption)
  unfold State.vfWrite
  split
  · exact h_boxWrite _ _ _ _ _
  · exact h_ringWrite _ _ _ _ _
  · exact h_msixWrite _ _ _ _ _
  · generalize hc : s.causeWrite i (o - 0x3000) v = c
    cases c with
    | none => rfl
    | some t => exact h_causeWrite _ _ _ _ _ hc

@[simp] theorem State.dmaWrite_blank (M : Mask) (_ : M.host = true) (_ : M.routing = true) (_ : M.dma = true) (_ : M.store = true) (_ : M.mem = true) (_ : M.freeCtr = true) (_ : M.out = true) :
    ∀ a0 a1 a2 s, ((State.dmaWrite s a0 a1 a2)).blank M = s.blank M := by
  intro a0 a1 a2 s
  (unfold State.dmaWrite; (repeat' split) <;> (simp [blank_ite, blank_when, *]))

@[simp] theorem State.reactWrite_blank (M : Mask) (_ : M.flt = true) :
    ∀ a0 a1 a2 s, ((State.reactWrite s a0 a1 a2)).blank M = s.blank M := by
  intro a0 a1 a2 s
  (simp [State.reactWrite, blank_ite, *])

theorem State.globalReg_blank (M : Mask) (_ : M.host = true) (_ : M.setter = true) (_ : M.routing = true) (_ : M.ent = true) (_ : M.mir = true) (_ : M.tmp = true) (_ : M.flt = true) (_ : M.log = true) (_ : M.cone = true) (_ : M.sys = true) (_ : M.lcc = true) (_ : M.dma = true) (_ : M.store = true) (_ : M.mem = true) (_ : M.freeCtr = true) (_ : M.out = true) :
    ∀ o v s t, State.globalReg s o v = some t → t.blank M = s.blank M := by
  intro o v s t h
  unfold State.globalReg at h
  (repeat' split at h) <;> cases h <;> simp [blank_when, *]

@[simp] theorem State.regWrite_blank (M : Mask) (_ : M.host = true) (_ : M.setter = true) (_ : M.routing = true) (_ : M.ent = true) (_ : M.mbx = true) (_ : M.mir = true) (_ : M.tmp = true) (_ : M.flt = true) (_ : M.log = true) (_ : M.cone = true) (_ : M.sys = true) (_ : M.lcc = true) (_ : M.dma = true) (_ : M.store = true) (_ : M.mem = true) (_ : M.freeCtr = true) (_ : M.out = true) :
    ∀ i o v s, (State.regWrite s i o v).blank M = s.blank M := by
  intro i o v s
  unfold State.regWrite
  split
  · simp [*]
  · split
    · simp [*]
    · split
      · rename_i h
        exact State.pfWrite_blank M (by assumption) (by assumption) (by assumption) (by assumption) _ _ _ _ _ h
      · split
        · refine State.globalWrite_blank M (by assumption) (by assumption) (by assumption) _ _ _ ?_
          cases h : s.globalReg o v with
          | none => rfl
          | some t => exact State.globalReg_blank M (by assumption) (by assumption) (by assumption) (by assumption) (by assumption) (by assumption) (by assumption) (by assumption) (by assumption) (by assumption) (by assumption) (by assumption) (by assumption) (by assumption) (by assumption) (by assumption) _ _ _ _ h
        · rfl

@[simp] theorem State.smbusRead_blank (M : Mask) (_ : M.out = true) :
    ∀ a0 s, ((State.smbusRead s a0)).blank M = s.blank M := by
  intro a0 s
  (simp [State.smbusRead, *])

@[simp] theorem State.atJtag_blank (M : Mask) (_ : M.out = true) :
    ∀ n f s, (∀ s, (f s).blank M = s.blank M) → (State.atJtag s n f).blank M = s.blank M := by
  intro n f s h
  unfold State.atJtag
  split <;> simp [*]

@[simp] theorem State.scanEnds_blank (M : Mask) (_ : M.lcc = true) :
    ∀ s, ((State.scanEnds s)).blank M = s.blank M := by
  intro s
  (simp [State.scanEnds, *])

@[simp] theorem State.fabricRead_blank (M : Mask) (_ : M.host = true) (_ : M.setter = true) (_ : M.kilns = true) (_ : M.wheels = true) (_ : M.keys = true) (_ : M.routing = true) (_ : M.ent = true) (_ : M.mbx = true) (_ : M.fw = true) (_ : M.cus = true) (_ : M.mir = true) (_ : M.tmp = true) (_ : M.flt = true) (_ : M.log = true) (_ : M.cone = true) (_ : M.sys = true) (_ : M.dma = true) (_ : M.store = true) (_ : M.mem = true) (_ : M.freeCtr = true) (_ : M.out = true) :
    ∀ a0 s, ((State.fabricRead s a0)).blank M = s.blank M := by
  intro a0 s
  (unfold State.fabricRead; (repeat' split) <;> (simp [*]))

@[simp] theorem State.atFactory_blank (M : Mask) (_ : M.keys = true) (_ : M.routing = true) (_ : M.mir = true) (_ : M.lcc = true) (_ : M.store = true) (_ : M.mem = true) (_ : M.out = true) :
    ∀ f s, (∀ s, (f s).blank M = s.blank M) → (State.atFactory s f).blank M = s.blank M := by
  intro f s h
  exact State.atJtag_blank M (by assumption) _ _ _ fun s => by
    split
    · rw [h]; split <;> simp [*]
    · simp [*]

@[simp] theorem State.directAccess_blank (M : Mask) (_ : M.lcc = true) (_ : M.freeCtr = true) (_ : M.out = true) :
    ∀ a0 a1 a2 s, ((State.directAccess s a0 a1 a2)).blank M = s.blank M := by
  intro a0 a1 a2 s
  (unfold State.directAccess; (repeat' split) <;> (simp [*]))

@[simp] theorem State.backupLost_blank (M : Mask) (_ : M.keys = true) (_ : M.tmp = true) (_ : M.sys = true) :
    ∀ s, ((State.backupLost s)).blank M = s.blank M := by
  intro s
  (simp [State.backupLost, *])

@[simp] theorem State.haltPair_blank (M : Mask) (_ : M.lcc = true) :
    ∀ a0 s, ((State.haltPair s a0)).blank M = s.blank M := by
  intro a0 s
  (simp [State.haltPair, *])

@[simp] theorem State.resume1_blank (M : Mask) (_ : M.host = true) (_ : M.setter = true) (_ : M.kilns = true) (_ : M.wheels = true) (_ : M.keys = true) (_ : M.routing = true) (_ : M.ent = true) (_ : M.fw = true) (_ : M.cus = true) (_ : M.mir = true) (_ : M.tmp = true) (_ : M.log = true) (_ : M.store = true) (_ : M.freeCtr = true) (_ : M.out = true) :
    ∀ a0 s, ((State.resume1 s a0)).blank M = s.blank M := by
  intro a0 s
  (unfold State.resume1; (repeat' split) <;> (simp [blank_when, *]))

@[simp] theorem State.resumeWaits_blank (M : Mask) (_ : M.host = true) (_ : M.setter = true) (_ : M.kilns = true) (_ : M.wheels = true) (_ : M.keys = true) (_ : M.routing = true) (_ : M.ent = true) (_ : M.fw = true) (_ : M.cus = true) (_ : M.mir = true) (_ : M.tmp = true) (_ : M.log = true) (_ : M.store = true) (_ : M.freeCtr = true) (_ : M.out = true) :
    ∀ s, ((State.resumeWaits s)).blank M = s.blank M := by
  intro s
  (simp [State.resumeWaits, blank_ite, blank_forEach, *])

@[simp] theorem State.ksetWrite_blank (M : Mask) (_ : M.routing = true) :
    ∀ a0 s, ((State.ksetWrite s a0).1).blank M = s.blank M := by
  intro a0 s
  (unfold State.ksetWrite; dsimp only; (repeat' split) <;> (simp [*]))

@[simp] theorem State.segCommand_blank (M : Mask) (_ : M.routing = true) :
    ∀ g op s, (∀ s, (op s).1.blank M = s.blank M) → (State.segCommand s g op).1.blank M = s.blank M := by
  intro g op s h
  unfold State.segCommand
  (repeat' split) <;> simp [*]

@[simp] theorem State.segAssign_blank (M : Mask) (_ : M.routing = true) (_ : M.freeCtr = true) :
    ∀ a0 a1 s, ((State.segAssign s a0 a1).1).blank M = s.blank M := by
  intro a0 a1 s
  (unfold State.segAssign; dsimp only; (repeat' split) <;> (simp [blank_forEach, *]))

@[simp] theorem State.segRelease_blank (M : Mask) (_ : M.routing = true) :
    ∀ a0 s, ((State.segRelease s a0).1).blank M = s.blank M := by
  intro a0 s
  (unfold State.segRelease; split <;> simp [*])

@[simp] theorem State.freeTable_blank (M : Mask) (_ : M.routing = true) :
    ∀ a0 a1 s, ((State.freeTable s a0 a1)).blank M = s.blank M := by
  intro a0 a1 s
  (simp [State.freeTable, blank_ite, blank_forEach, *])

@[simp] theorem State.tableCreate_blank (M : Mask) (_ : M.routing = true) (_ : M.freeCtr = true) :
    ∀ a0 a1 a2 s, ((State.tableCreate s a0 a1 a2).1).blank M = s.blank M := by
  intro a0 a1 a2 s
  (unfold State.tableCreate; (repeat' split) <;> (simp [blank_forEach, *]))

@[simp] theorem State.tableSwitch_blank (M : Mask) (_ : M.routing = true) :
    ∀ a0 a1 s, ((State.tableSwitch s a0 a1).1).blank M = s.blank M := by
  intro a0 a1 s
  (unfold State.tableSwitch; (repeat' split) <;> (simp [*]))

@[simp] theorem State.tableDelete_blank (M : Mask) (_ : M.routing = true) :
    ∀ a0 a1 a2 s, ((State.tableDelete s a0 a1 a2).1).blank M = s.blank M := by
  intro a0 a1 a2 s
  (unfold State.tableDelete; (repeat' split) <;> (simp [*]))

@[simp] theorem State.sendWitness_blank (M : Mask) (_ : M.mir = true) (_ : M.out = true) :
    ∀ a0 s, ((State.sendWitness s a0)).blank M = s.blank M := by
  intro a0 s
  (simp [State.sendWitness, *])

@[simp] theorem State.sendRequest_blank (M : Mask) (_ : M.mir = true) (_ : M.out = true) :
    ∀ s, ((State.sendRequest s)).blank M = s.blank M := by
  intro s
  (simp [State.sendRequest, *])

@[simp] theorem State.takeLease_blank (M : Mask) (_ : M.host = true) (_ : M.setter = true) (_ : M.kilns = true) (_ : M.wheels = true) (_ : M.keys = true) (_ : M.routing = true) (_ : M.ent = true) (_ : M.fw = true) (_ : M.cus = true) (_ : M.mir = true) (_ : M.flt = true) (_ : M.log = true) (_ : M.sys = true) (_ : M.store = true) (_ : M.freeCtr = true) (_ : M.out = true) :
    ∀ a0 a1 s, ((State.takeLease s a0 a1)).blank M = s.blank M := by
  intro a0 a1 s
  (simp [State.takeLease, blank_when, *])

@[simp] theorem State.witnessActs_blank (M : Mask) (_ : M.host = true) (_ : M.setter = true) (_ : M.kilns = true) (_ : M.wheels = true) (_ : M.keys = true) (_ : M.routing = true) (_ : M.ent = true) (_ : M.mbx = true) (_ : M.fw = true) (_ : M.cus = true) (_ : M.mir = true) (_ : M.flt = true) (_ : M.log = true) (_ : M.sys = true) (_ : M.store = true) (_ : M.freeCtr = true) (_ : M.out = true) :
    ∀ a0 s, ((State.witnessActs s a0)).blank M = s.blank M := by
  intro a0 s
  (unfold State.witnessActs; (repeat' split) <;> (simp [blank_ite, *]))

@[simp] theorem State.witnessIn_blank (M : Mask) (_ : M.host = true) (_ : M.setter = true) (_ : M.kilns = true) (_ : M.wheels = true) (_ : M.keys = true) (_ : M.routing = true) (_ : M.ent = true) (_ : M.mbx = true) (_ : M.fw = true) (_ : M.cus = true) (_ : M.mir = true) (_ : M.flt = true) (_ : M.log = true) (_ : M.sys = true) (_ : M.store = true) (_ : M.freeCtr = true) (_ : M.out = true) :
    ∀ a0 s, ((State.witnessIn s a0)).blank M = s.blank M := by
  intro a0 s
  (simp [State.witnessIn, blank_ite, *])

@[simp] theorem State.idle_blank (M : Mask) (_ : M.sys = true) :
    ∀ s, ((State.idle s)).blank M = s.blank M := by
  intro s
  (unfold State.idle; (repeat' split) <;> (simp [State.blank, *]))

@[simp] theorem State.withFetchWord_blank (M : Mask) (_ : M.pending = true) :
    ∀ a0 a1 s, ((State.withFetchWord s a0 a1)).blank M = s.blank M := by
  intro a0 a1 s
  (unfold State.withFetchWord; (repeat' split) <;> (simp [State.blank, *]))

theorem State.host_of_blank (M : Mask) (s t : State) (h : t.blank M = s.blank M) (hf : M.host = false) : t.host = s.host := by
  simpa [State.blank, hf] using congrArg State.host h

theorem State.setter_of_blank (M : Mask) (s t : State) (h : t.blank M = s.blank M) (hf : M.setter = false) : t.setter = s.setter := by
  simpa [State.blank, hf] using congrArg State.setter h

theorem State.kilns_of_blank (M : Mask) (s t : State) (h : t.blank M = s.blank M) (hf : M.kilns = false) : t.kilns = s.kilns := by
  simpa [State.blank, hf] using congrArg State.kilns h

theorem State.wheels_of_blank (M : Mask) (s t : State) (h : t.blank M = s.blank M) (hf : M.wheels = false) : t.wheels = s.wheels := by
  simpa [State.blank, hf] using congrArg State.wheels h

theorem State.keys_of_blank (M : Mask) (s t : State) (h : t.blank M = s.blank M) (hf : M.keys = false) : t.keys = s.keys := by
  simpa [State.blank, hf] using congrArg State.keys h

theorem State.routing_of_blank (M : Mask) (s t : State) (h : t.blank M = s.blank M) (hf : M.routing = false) : t.routing = s.routing := by
  simpa [State.blank, hf] using congrArg State.routing h

theorem State.ent_of_blank (M : Mask) (s t : State) (h : t.blank M = s.blank M) (hf : M.ent = false) : t.ent = s.ent := by
  simpa [State.blank, hf] using congrArg State.ent h

theorem State.mbx_of_blank (M : Mask) (s t : State) (h : t.blank M = s.blank M) (hf : M.mbx = false) : t.mbx = s.mbx := by
  simpa [State.blank, hf] using congrArg State.mbx h

theorem State.fw_of_blank (M : Mask) (s t : State) (h : t.blank M = s.blank M) (hf : M.fw = false) : t.fw = s.fw := by
  simpa [State.blank, hf] using congrArg State.fw h

theorem State.cus_of_blank (M : Mask) (s t : State) (h : t.blank M = s.blank M) (hf : M.cus = false) : t.cus = s.cus := by
  simpa [State.blank, hf] using congrArg State.cus h

theorem State.mir_of_blank (M : Mask) (s t : State) (h : t.blank M = s.blank M) (hf : M.mir = false) : t.mir = s.mir := by
  simpa [State.blank, hf] using congrArg State.mir h

theorem State.tmp_of_blank (M : Mask) (s t : State) (h : t.blank M = s.blank M) (hf : M.tmp = false) : t.tmp = s.tmp := by
  simpa [State.blank, hf] using congrArg State.tmp h

theorem State.flt_of_blank (M : Mask) (s t : State) (h : t.blank M = s.blank M) (hf : M.flt = false) : t.flt = s.flt := by
  simpa [State.blank, hf] using congrArg State.flt h

theorem State.log_of_blank (M : Mask) (s t : State) (h : t.blank M = s.blank M) (hf : M.log = false) : t.log = s.log := by
  simpa [State.blank, hf] using congrArg State.log h

theorem State.cone_of_blank (M : Mask) (s t : State) (h : t.blank M = s.blank M) (hf : M.cone = false) : t.cone = s.cone := by
  simpa [State.blank, hf] using congrArg State.cone h

theorem State.sys_of_blank (M : Mask) (s t : State) (h : t.blank M = s.blank M) (hf : M.sys = false) : t.sys = s.sys := by
  simpa [State.blank, hf] using congrArg State.sys h

theorem State.lcc_of_blank (M : Mask) (s t : State) (h : t.blank M = s.blank M) (hf : M.lcc = false) : t.lcc = s.lcc := by
  simpa [State.blank, hf] using congrArg State.lcc h

theorem State.dma_of_blank (M : Mask) (s t : State) (h : t.blank M = s.blank M) (hf : M.dma = false) : t.dma = s.dma := by
  simpa [State.blank, hf] using congrArg State.dma h

theorem State.store_of_blank (M : Mask) (s t : State) (h : t.blank M = s.blank M) (hf : M.store = false) : t.store = s.store := by
  simpa [State.blank, hf] using congrArg State.store h

theorem State.mem_of_blank (M : Mask) (s t : State) (h : t.blank M = s.blank M) (hf : M.mem = false) : t.mem = s.mem := by
  simpa [State.blank, hf] using congrArg State.mem h

theorem State.freeCtr_of_blank (M : Mask) (s t : State) (h : t.blank M = s.blank M) (hf : M.freeCtr = false) : t.freeCtr = s.freeCtr := by
  simpa [State.blank, hf] using congrArg State.freeCtr h

theorem State.out_of_blank (M : Mask) (s t : State) (h : t.blank M = s.blank M) (hf : M.out = false) : t.out = s.out := by
  simpa [State.blank, hf] using congrArg State.out h

theorem State.pending_of_blank (M : Mask) (s t : State) (h : t.blank M = s.blank M) (hf : M.pending = false) : t.pending = s.pending := by
  simpa [State.blank, hf] using congrArg State.pending h

/-- `s` with the fields of a set taken from `t`. -/
def State.merge (M : Mask) (s t : State) : State where
  host := if M.host then t.host else s.host
  setter := if M.setter then t.setter else s.setter
  kilns := if M.kilns then t.kilns else s.kilns
  wheels := if M.wheels then t.wheels else s.wheels
  keys := if M.keys then t.keys else s.keys
  routing := if M.routing then t.routing else s.routing
  ent := if M.ent then t.ent else s.ent
  mbx := if M.mbx then t.mbx else s.mbx
  fw := if M.fw then t.fw else s.fw
  cus := if M.cus then t.cus else s.cus
  mir := if M.mir then t.mir else s.mir
  tmp := if M.tmp then t.tmp else s.tmp
  flt := if M.flt then t.flt else s.flt
  log := if M.log then t.log else s.log
  cone := if M.cone then t.cone else s.cone
  sys := if M.sys then t.sys else s.sys
  lcc := if M.lcc then t.lcc else s.lcc
  dma := if M.dma then t.dma else s.dma
  store := if M.store then t.store else s.store
  mem := if M.mem then t.mem else s.mem
  freeCtr := if M.freeCtr then t.freeCtr else s.freeCtr
  out := if M.out then t.out else s.out
  pending := if M.pending then t.pending else s.pending

/-- A state that agrees outside a set of fields is the old one with those fields changed: a frame in the form the claims use. -/
theorem State.merge_of_blank (M : Mask) (s t : State) (h : t.blank M = s.blank M) : t = s.merge M t := by
  cases s; cases t
  simp only [State.blank, State.mk.injEq] at h
  simp only [State.merge, State.mk.injEq]
  refine ⟨?_, ?_, ?_, ?_, ?_, ?_, ?_, ?_, ?_, ?_, ?_, ?_, ?_, ?_, ?_, ?_, ?_, ?_, ?_, ?_, ?_, ?_, ?_⟩ <;> split <;> simp_all

end Sys2Proof.Machine
end

