-- ==== Sys2Proof/Laws/Mailbox.lean ====
section
/-! SUPPORT. Mailbox commands: what a command's row does with the request its mailbox runs. -/

namespace Sys2Proof.Machine

/-- A command that Kazkel runs and that has not begun acts, and its action's answer reaches the mailbox. -/
theorem mbxCommand_serving {s : State} {i k code : Nat} {r : Bytes} (h : Serving s i k code r)
    (act more : Bytes → State → State × Answer) :
    mbxCommand code i k act s more = .next (State.answer i k (act (reqBody r) s)) := by
  obtain ⟨hu, hb, hr, ha, hc, hz, hn, hm⟩ := h
  cases hrow : cmdRow code with
  | none => simp [hrow] at hm
  | some row => simp_all [mbxCommand, onUnit, when_]

/-- A command that has begun goes on with what is left of it. -/
theorem mbxCommand_underway {s : State} {i k code : Nat} {r : Bytes} (h : Underway s i k code r)
    (act more : Bytes → State → State × Answer) :
    mbxCommand code i k act s more = .next (State.answer i k (more (reqBody r) s)) := by
  obtain ⟨hu, hr, ha, hc, hrow, hz⟩ := h
  cases hrow' : cmdRow code with
  | none => simp [hrow'] at hrow
  | some row => simp_all [mbxCommand, onUnit, when_]

@[simp] theorem State.answer_done (i k : Nat) (s : State) (result : Nat) (p : Bytes) :
    State.answer i k (s, .done result p) = s.endCommand i k result p := rfl

@[simp] theorem State.answer_wait (i k : Nat) (s : State) :
    State.answer i k (s, .wait) = s.modBox i k fun b => { b with acting := true } := rfl

@[simp] theorem State.answer_later (i k : Nat) (s : State) : State.answer i k (s, .later) = s := rfl

/-- A request's end is its response (R314). -/
theorem State.endCommand_running {s : State} {i k : Nat} {r : Bytes} (h : (s.box i k).running = some r) (result : Nat) (p : Bytes) :
    s.endCommand i k result p = s.respondWith i k r result p := by simp [State.endCommand, h]

end Sys2Proof.Machine
end

