-- ==== Sys2Proof/Laws/Tables.lean ====
section
/-! SUPPORT. Sparse tables: a read after a write, and the canonical form that every write keeps; then the same for each unit of the
state. -/

namespace Sys2Proof.Machine

variable {α : Type}

/-! ## Reads after writes -/

@[simp] theorem mget_nil (d : α) (k : Nat) : mget d ([] : SMap α) k = d := rfl

theorem mget_minsert (d : α) (m : SMap α) (k : Nat) (v : α) (j : Nat) :
    mget d (minsert m k v) j = if j = k then v else mget d m j := by
  induction m with
  | nil => grind [minsert, mget]
  | cons e m ih => grind [minsert, mget]

theorem mget_merase (d : α) (m : SMap α) (k j : Nat) :
    mget d (merase m k) j = if j = k then d else mget d m j := by
  induction m with
  | nil => simp [merase]
  | cons e m ih => grind [merase, mget]

theorem mem_minsert {m : SMap α} {k : Nat} {v : α} {e : Nat × α} (h : e ∈ minsert m k v) : e = (k, v) ∨ e ∈ m := by
  induction m with
  | nil => simp_all [minsert]
  | cons x m ih => grind [minsert]

theorem mem_merase {m : SMap α} {k : Nat} {e : Nat × α} (h : e ∈ merase m k) : e ∈ m := by
  induction m with
  | nil => simp [merase] at h
  | cons x m ih => grind [merase]

theorem pairwise_minsert {m : SMap α} {k : Nat} {v : α} (h : (m.map (·.1)).Pairwise (· < ·)) :
    ((minsert m k v).map (·.1)).Pairwise (· < ·) := by
  induction m with
  | nil => simp [minsert]
  | cons x m ih =>
    obtain ⟨a, w⟩ := x
    simp only [List.map_cons, List.pairwise_cons] at h
    simp only [minsert]
    split
    · rename_i hk
      simp only [List.map_cons, List.pairwise_cons, List.mem_cons, forall_eq_or_imp]
      exact ⟨⟨hk, fun b hb => Nat.lt_trans hk (h.1 b hb)⟩, h⟩
    · split
      · rename_i hk
        simp only [List.map_cons, List.pairwise_cons, hk]
        exact h
      · simp only [List.map_cons, List.pairwise_cons]
        refine ⟨fun b hb => ?_, ih h.2⟩
        obtain ⟨e, he, rfl⟩ := List.mem_map.1 hb
        rcases mem_minsert he with rfl | he
        · grind
        · exact h.1 _ (List.mem_map_of_mem he)

theorem pairwise_merase {m : SMap α} {k : Nat} (h : (m.map (·.1)).Pairwise (· < ·)) :
    ((merase m k).map (·.1)).Pairwise (· < ·) := by
  induction m with
  | nil => simp [merase]
  | cons x m ih =>
    obtain ⟨a, w⟩ := x
    simp only [List.map_cons, List.pairwise_cons] at h
    simp only [merase]
    split
    · exact ih h.2
    · simp only [List.map_cons, List.pairwise_cons]
      refine ⟨fun b hb => ?_, ih h.2⟩
      obtain ⟨e, he, rfl⟩ := List.mem_map.1 hb
      exact h.1 _ (List.mem_map_of_mem (mem_merase he))

variable [DecidableEq α]

/-- A table holds what was written last at a key, and keeps every other key. -/
@[simp] theorem mget_mset (d : α) (m : SMap α) (k : Nat) (v : α) (j : Nat) :
    mget d (mset d m k v) j = if j = k then v else mget d m j := by
  unfold mset
  split
  · rw [mget_merase]; split <;> simp_all
  · exact mget_minsert d m k v j

@[simp] theorem mget_mmod (d : α) (m : SMap α) (k : Nat) (f : α → α) (j : Nat) :
    mget d (mmod d m k f) j = if j = k then f (mget d m k) else mget d m j := by
  simp [mmod]

/-- A change of every entry that leaves the default alone changes what is read at each key. -/
theorem mget_mmap (d : α) (f : Nat → α → α) (m : SMap α) (j : Nat) (h : f j d = d) :
    mget d (mmap d f m) j = f j (mget d m j) := by
  induction m with
  | nil => simp [mmap, mget, h]
  | cons x m ih =>
    obtain ⟨a, v⟩ := x
    simp only [mmap, mget_mset, mget_merase, mget]
    split
    · subst_vars; simp
    · rename_i hja
      rw [if_neg (Ne.symm hja), ih]

/-! ## The canonical form -/

/-- The canonical form as a proposition. -/
theorem mwf_iff (d : α) (m : SMap α) :
    mwf d m = true ↔ (m.map (·.1)).Pairwise (· < ·) ∧ ∀ e ∈ m, e.2 ≠ d := by
  simp [mwf]

/-- A write keeps the canonical form. -/
theorem mwf_mset (d : α) (m : SMap α) (k : Nat) (v : α) (h : mwf d m = true) : mwf d (mset d m k v) = true := by
  rw [mwf_iff] at h ⊢
  unfold mset
  split
  · exact ⟨pairwise_merase h.1, fun e he => h.2 e (mem_merase he)⟩
  · rename_i hv
    refine ⟨pairwise_minsert h.1, fun e he => ?_⟩
    rcases mem_minsert he with rfl | he
    · exact hv
    · exact h.2 e he

theorem mwf_mmod (d : α) (m : SMap α) (k : Nat) (f : α → α) (h : mwf d m = true) : mwf d (mmod d m k f) = true :=
  mwf_mset d m k _ h

/-! ## Each unit of the state -/

namespace State

@[simp] theorem fn_modFn (s : State) (i j : Nat) (g : Fn → Fn) :
    (s.modFn i g).fn j = if j = i then g (s.fn i) else s.fn j := by
  simp [fn, modFn, setFn]

@[simp] theorem kiln_modKiln (s : State) (i j : Nat) (g : Kiln → Kiln) :
    (s.modKiln i g).kiln j = if j = i then g (s.kiln i) else s.kiln j := by
  simp [kiln, modKiln]

@[simp] theorem wheel_modWheel (s : State) (i j : Nat) (g : WheelReg → WheelReg) :
    (s.modWheel i g).wheel j = if j = i then g (s.wheel i) else s.wheel j := by
  simp [wheel, modWheel]

@[simp] theorem saggar_modSaggar (s : State) (i j : Nat) (g : Saggar → Saggar) :
    (s.modSaggar i g).saggar j = if j = i then g (s.saggar i) else s.saggar j := by
  simp [saggar, modSaggar]

@[simp] theorem segment_modSegment (s : State) (i j : Nat) (g : Segment → Segment) :
    (s.modSegment i g).segment j = if j = i then g (s.segment i) else s.segment j := by
  simp [segment, modSegment]

@[simp] theorem grant_modGrant (s : State) (i j : Nat) (g : Grant → Grant) :
    (s.modGrant i g).grant j = if j = i then g (s.grant i) else s.grant j := by
  simp [grant, modGrant]

@[simp] theorem source_modSource (s : State) (i j : Nat) (g : Source → Source) :
    (s.modSource i g).source j = if j = i then g (s.source i) else s.source j := by
  simp [source, modSource]

@[simp] theorem drbg_modDrbg (s : State) (i j : Nat) (g : Drbg → Drbg) :
    (s.modDrbg i g).drbg j = if j = i then g (s.drbg i) else s.drbg j := by
  simp [drbg, modDrbg]

@[simp] theorem bank_modBank (s : State) (i j : Nat) (g : FaultBank → FaultBank) :
    (s.modBank i g).bank j = if j = i then g (s.bank i) else s.bank j := by
  simp [bank, modBank]

@[simp] theorem stream_modStream (s : State) (i j : Nat) (g : LogStream → LogStream) :
    (s.modStream i g).stream j = if j = i then g (s.stream i) else s.stream j := by
  simp [stream, modStream]

@[simp] theorem coneKiln_modConeKiln (s : State) (i j : Nat) (g : ConeKiln → ConeKiln) :
    (s.modConeKiln i g).coneKiln j = if j = i then g (s.coneKiln i) else s.coneKiln j := by
  simp [coneKiln, modConeKiln]

@[simp] theorem coneBlock_modConeBlock (s : State) (i j : Nat) (g : ConeBlock → ConeBlock) :
    (s.modConeBlock i g).coneBlock j = if j = i then g (s.coneBlock i) else s.coneBlock j := by
  simp [coneBlock, modConeBlock]

@[simp] theorem chan_modChan (s : State) (i j : Nat) (g : Channel → Channel) :
    (s.modChan i g).chan j = if j = i then g (s.chan i) else s.chan j := by
  simp [chan, modChan]

@[simp] theorem ring_modRing (s : State) (i q j p : Nat) (g : Ring → Ring) :
    (s.modRing i q g).ring j p = if 8 * j + p = 8 * i + q then g (s.ring i q) else s.ring j p := by
  simp [ring, modRing, setRing]

@[simp] theorem box_modBox (s : State) (i q j p : Nat) (g : Mbx → Mbx) :
    (s.modBox i q g).box j p = if 8 * j + p = 8 * i + q then g (s.box i q) else s.box j p := by
  simp [box, modBox]

@[simp] theorem ware_setWare (s : State) (i j : Nat) (w : Option Ware) :
    (s.setWare i w).ware j = if j = i then w else s.ware j := by
  simp [ware, setWare]

theorem ware_modWare (s : State) (i j : Nat) (g : Ware → Ware) :
    (s.modWare i g).ware j = if j = i then (s.ware i).map g else s.ware j := by
  unfold modWare
  split
  · rename_i h; split <;> simp_all
  · rename_i w h; rw [ware_setWare, h]; rfl

@[simp] theorem cache_setCache (s : State) (i j : Nat) (e : Option CacheEntry) :
    (s.setCache i e).cache j = if j = i then e else s.cache j := by
  simp [cache, setCache]

@[simp] theorem port_modPort (s : State) (b c : Bool) (g : Port → Port) :
    (s.modPort b g).port c = if c = b then g (s.port b) else s.port c := by
  cases b <;> cases c <;> rfl

@[simp] theorem spdm_modSpdm (s : State) (b c : Bool) (g : Spdm → Spdm) :
    (s.modSpdm b g).spdm c = if c = b then g (s.spdm b) else s.spdm c := by
  cases b <;> cases c <;> rfl

theorem cusPort_modCusPort (s : State) (p q : Nat) (g : CusPort → CusPort) (hp : p < 2) (hq : q < 2) :
    (s.modCusPort p g).cusPort q = if q = p then g (s.cusPort p) else s.cusPort q := by
  unfold modCusPort cusPort
  split <;> split <;> split <;> simp_all <;> omega
end State

end Sys2Proof.Machine
end

