-- ==== Sys2Proof/Laws/Memory.lean ====
section
/-! SUPPORT. Memory: every operation on it keeps its canonical form, a byte written is the byte read, and what a tag lets through. -/

namespace Sys2Proof.Machine

theorem mwf_filter {α : Type} [DecidableEq α] (d : α) (m : SMap α) (p : Nat × α → Bool) (h : mwf d m = true) :
    mwf d (m.filter p) = true := by
  rw [mwf_iff] at h ⊢
  exact ⟨h.1.sublist (List.Sublist.map _ List.filter_sublist), fun e he => h.2 e ((List.mem_filter.mp he).1)⟩

theorem reset_mem_wf : Memory.wf State.reset.mem := by decide

theorem storeLost_mem (s : State) : s.storeLost.mem = [] := rfl

theorem clearRange_wf {m : List Host.Cell} (lo n : Nat) (h : Memory.wf m) : Memory.wf (clearRange m lo n) := mwf_filter _ _ _ h

/-- A range that was cleared reads 0, and every other address as before. -/
theorem mget_clearRange (m : List Host.Cell) (lo n a : Nat) :
    mget 0 (clearRange m lo n) a = if lo ≤ a ∧ a < lo + n then 0 else mget 0 m a := by
  induction m with
  | nil => simp [clearRange, mget]
  | cons e m ih =>
    obtain ⟨b, v⟩ := e
    simp only [clearRange, List.filter_cons] at ih ⊢
    split
    · simp only [mget, ih]; grind
    · simp only [mget, ih]; grind

theorem wipeLines_mem_wf {s : State} (o l n : Nat) (h : Memory.wf s.mem) : Memory.wf (s.wipeLines o l n).mem := clearRange_wf _ _ h

theorem memWrite_mem_wf {s : State} (o a : Nat) (v : Byte) (h : Memory.wf s.mem) : Memory.wf (s.memWrite o a v).mem := by
  unfold State.memWrite
  dsimp only
  split
  · exact mwf_mset _ _ _ _ h
  · exact mwf_mset _ _ _ _ (clearRange_wf _ _ h)

theorem memWriteAll_mem_wf (o : Nat) (bs : Bytes) : ∀ {s : State} (a : Nat), Memory.wf s.mem → Memory.wf (s.memWriteAll o a bs).mem := by
  induction bs with
  | nil => intro s a h; exact h
  | cons b bs ih => intro s a h; exact ih _ (memWrite_mem_wf o a b h)

theorem dmaPut_mem_wf {s : State} (a : Nat) (v : Byte) (h : Memory.wf s.mem) : Memory.wf (s.dmaPut a v).mem := by
  unfold State.dmaPut
  split
  · exact h
  · exact memWrite_mem_wf _ _ _ h

theorem dmaPutAll_mem_wf (bs : Bytes) : ∀ {s : State} (a : Nat), Memory.wf s.mem → Memory.wf (s.dmaPutAll a bs).mem := by
  induction bs with
  | nil => intro s a h; exact h
  | cons b bs ih => intro s a h; exact ih _ (dmaPut_mem_wf a b h)

theorem dmaSpread_mem_wf (i space len : Nat) (as : List Nat) :
    ∀ (bs : Bytes) {s : State}, Memory.wf s.mem → Memory.wf (s.dmaSpread i space len as bs).mem := by
  induction as with
  | nil => intro bs s h; exact h
  | cons a as ih =>
    intro bs s h
    rw [State.dmaSpread]
    split
    · exact h
    · split
      · exact ih _ (by simpa [State.hostWrite, State.issue, State.service, State.modFn, State.setFn] using h)
      · split
        · exact ih _ (dmaPutAll_mem_wf _ _ h)
        · exact h

/-! ## What a line lets through (R34, R35) -/

/-- A byte written under an owner tag that has a tweak key is read back under it. -/
theorem memRead_memWrite {s : State} {o a : Nat} (v : Byte) (h : (s.tweakKey o).isSome = true) :
    (s.memWrite o a v).memRead o a = some v := by
  unfold State.memRead State.memWrite State.verifies State.tweakKey State.sealFor State.sealOf at *
  dsimp only
  split <;> simp_all

/-- Under any other owner tag the line's check fails, and no data comes. -/
theorem memRead_other {s : State} {o p a : Nat} (v : Byte) (hs : inStore a = true) (h : o ≠ p) : (s.memWrite o a v).memRead p a = none := by
  unfold State.memRead State.memWrite State.verifies State.tweakKey State.sealFor State.sealOf at *
  dsimp only
  split <;> simp_all

/-- A byte of an unsealed or equally sealed line reads back as it was written, and every other address outside that line is as before. -/
theorem dmaPut_mem {s : State} {a : Nat} (v : Byte) (h : segmentOf a = none) (b : Nat) (hb : b / 64 ≠ a / 64 ∨ b = a) :
    mget 0 (s.dmaPut a v).mem b = if b = a then v else mget 0 s.mem b := by
  have hc : ∀ m : List Host.Cell, b ≠ a → mget 0 (clearRange m (64 * (a / 64)) 64) b = mget 0 m b := by
    intro m hne
    rw [mget_clearRange, if_neg (by omega)]
  unfold State.dmaPut
  rw [h]
  unfold State.memWrite
  dsimp only
  split <;> rw [mget_mset] <;> split <;> simp_all

end Sys2Proof.Machine
end

