-- ==== Sys2Proof/Laws/Port.lean ====
section
/-! SUPPORT. What issuing host writes and handing the recorder a record can do: of the host port they reach only the queue, the
dirty-page logging, the pending bits and the read in flight of functions. -/

namespace Sys2Proof.Machine

/-- What of a function the issue of its queue leaves alone. -/
def Fn.core (f : Fn) : Fn := { f with queue := [], dpl := {}, pba := 0, reading := false }

theorem issueOne_core (i : Nat) (f : Fn) (g : Fn) (o : List Out) (h : issueOne i f = some (g, o)) : g.core = f.core := by
  unfold issueOne at h
  dsimp only at h
  (repeat' split at h) <;> (try cases h) <;> simp_all [Fn.core]

theorem pump_core (i : Nat) : ∀ n f o, (pump i n f o).1.core = f.core := by
  intro n
  induction n with
  | zero => intro f o; rfl
  | succ n ih =>
    intro f o
    simp only [pump]
    split
    · rfl
    · rename_i g o' h
      rw [ih, issueOne_core i f g o' h]

/-- Two states whose host ports differ at most in what `Fn.core` forgets. -/
def SamePort (s t : State) : Prop :=
  ({ t.host with fns := [] } : HostPort) = { s.host with fns := [] } ∧ ∀ j, (t.fn j).core = (s.fn j).core

theorem SamePort.refl (s : State) : SamePort s s := ⟨rfl, fun _ => rfl⟩

theorem SamePort.trans {s t u : State} (h : SamePort s t) (k : SamePort t u) : SamePort s u :=
  ⟨k.1.trans h.1, fun j => (k.2 j).trans (h.2 j)⟩

theorem SamePort.of_host {s t : State} (h : t.host = s.host) : SamePort s t :=
  ⟨by rw [h], fun j => by simp [State.fn, h]⟩

theorem SamePort.modFn {s : State} {i : Nat} {g : Fn → Fn} (h : ∀ f, (g f).core = f.core) : SamePort s (s.modFn i g) := by
  refine ⟨rfl, fun j => ?_⟩
  rw [State.fn_modFn]
  split <;> simp [*]

theorem service_samePort (s : State) (i : Nat) : SamePort s (s.service i) := by
  refine ⟨rfl, fun j => ?_⟩
  have : (s.service i).fn j = if j = i then (pump i (((s.fn i).queue.map itemCost).sum + 1) (s.fn i) []).1 else s.fn j := by
    simp only [State.service, State.setFn, State.fn, mget_mset]
  rw [this]
  split
  · subst j; exact pump_core _ _ _ _
  · rfl

theorem issue_samePort (s : State) (i : Nat) (items : List HpItem) : SamePort s (s.issue i items) := by
  unfold State.issue
  exact (SamePort.modFn fun f => by simp [Fn.core]).trans (service_samePort _ _)

theorem raiseVector_samePort (s : State) (i v : Nat) : SamePort s (s.raiseVector i v) := issue_samePort _ _ _

theorem hostWrite_samePort (s : State) (i a : Nat) (d : Bytes) : SamePort s (s.hostWrite i a d) := issue_samePort _ _ _

theorem raiseDevice_samePort (s : State) (v : Nat) : SamePort s (s.raiseDevice v) := by
  unfold State.raiseDevice
  split
  · exact SamePort.of_host rfl
  · exact (SamePort.of_host rfl).trans (raiseVector_samePort _ _ _)

theorem logIrq_samePort (s : State) (b : Nat) : SamePort s (s.logIrq b) := by
  unfold State.logIrq
  split
  · exact .refl s
  · exact (SamePort.of_host rfl).trans (raiseDevice_samePort _ _)

theorem enterRecord_samePort (s : State) (e : Event) (n : Nat) (c : Bool) : SamePort s (s.enterRecord e n c) := by
  unfold State.enterRecord
  dsimp only
  generalize hu : State.modStream _ _ _ = u
  have h1 : SamePort s u := SamePort.of_host (by subst hu; simp)
  generalize hv : (if e.stream = devStream then _ else _ : State) = v
  have h2 : SamePort u v := by subst hv; split <;> first | exact logIrq_samePort _ _ | exact .refl _
  split
  · exact (h1.trans h2).trans (logIrq_samePort _ _)
  · exact h1.trans h2

theorem acceptRecord_samePort (s : State) (e : Event) (n : Nat) (c : Bool) : SamePort s (s.acceptRecord e n c) := by
  unfold State.acceptRecord
  (repeat' split) <;> first | exact enterRecord_samePort _ _ _ _ | exact SamePort.of_host rfl

theorem budgetRecord_samePort (s : State) (e : Event) (n : Nat) (c : Bool) : SamePort s (s.budgetRecord e n c) := by
  unfold State.budgetRecord
  split
  · exact SamePort.of_host (by simp [State.dropRecord])
  · exact (SamePort.of_host (by simp)).trans (acceptRecord_samePort _ _ _ _)

/-- A record handed to the recorder leaves the host port but for what `Fn.core` forgets. -/
theorem record_samePort (s : State) (e : Event) : SamePort s (s.record e) := by
  unfold State.record
  (repeat' split) <;> first | exact .refl _ | exact acceptRecord_samePort _ _ _ _ | exact SamePort.of_host rfl |
    exact budgetRecord_samePort _ _ _ _

theorem recordBoth_samePort (s : State) (e : Event) (g : Option Nat) : SamePort s (s.recordBoth e g) := by
  unfold State.recordBoth
  dsimp only
  split
  · exact record_samePort _ _
  · exact (record_samePort _ _).trans (record_samePort _ _)

end Sys2Proof.Machine
end

