-- ==== Sys2Proof/Machine/Package.lean ====
section
/-! DEFINITION. What is fixed about the module outside its logic: the balls (R512 to R516), the pins in reset and in DORMANT (R515), and
the layout of the NOR flash (R333, R334, R409, R443, R531). No command changes any of it. -/

namespace Sys2Proof.Machine

/-! ## Balls and pins -/

/-- The supply a pin runs from (R515). -/
inductive Supply where
  | io33
  | io18
  | backup
  deriving DecidableEq, Repr

/-- A signal pin (R513). `n`: the negative side of a pair. -/
inductive Pin where
  | peTx (lane : Nat) (n : Bool)
  | peRx (lane : Nat) (n : Bool)
  | peRefclk (n : Bool)
  | pePerst (port : Nat)
  | peSplit
  | mrTx (lane : Nat) (n : Bool)
  | mrRx (lane : Nat) (n : Bool)
  | mrRefclk (n : Bool)
  | mrPres
  | witTx
  | witRx
  | cpVccen (port : Nat)
  | cpVsel (port : Nat)
  | cpRst (port : Nat)
  | cpClk (port : Nat)
  | cpIo (port : Nat)
  | cpPres (port : Nat)
  | cpOc (port : Nat)
  | tmLoopOut (loop : Nat)
  | tmLoopIn (loop : Nat)
  | tmSw (switch : Nat)
  | vbat
  | xtalIn
  | xtalOut
  | smbClk
  | smbDat
  | smbAlert
  | jtagTck
  | jtagTms
  | jtagTdi
  | jtagTdo
  | jtagTrst
  | norClk
  | norDqs
  | norDq (bit : Nat)
  | norCs (device : Nat)
  | norReset
  | errOut
  | alert
  | pwrfail
  | sysRst
  | rsvd
  deriving DecidableEq, Repr

/-- What a ball carries (R513, R514). -/
inductive Ball where
  | pin (p : Pin)
  | kinSense
  | gndSense
  | coreSense
  | vddKin
  | vddStore
  | vddCore
  | vddPhy
  | vddIo33
  | vddIo18
  | gnd
  deriving DecidableEq, Repr

/-- The seven pins of a custodian port, in list order. -/
def cpPins (p : Nat) : List Pin := [.cpVccen p, .cpVsel p, .cpRst p, .cpClk p, .cpIo p, .cpPres p, .cpOc p]

/-- List L of R513. -/
def pinList : List Pin :=
  [.witTx, .witRx] ++ cpPins 0 ++ cpPins 1 ++ ((List.range 8).flatMap fun k => [.tmLoopOut k, .tmLoopIn k]) ++ [.tmSw 0, .tmSw 1] ++
  [.vbat, .xtalIn, .xtalOut, .smbClk, .smbDat, .smbAlert, .jtagTck, .jtagTms, .jtagTdi, .jtagTdo, .jtagTrst, .norClk, .norDqs] ++
  ((List.range 8).map fun k => .norDq k) ++ ((List.range 4).map fun k => .norCs k) ++
  [.norReset, .errOut, .alert, .pwrfail, .sysRst] ++ List.replicate 11 .rsvd

/-- The lane and the side of a pair that starts in column 2. -/
def pairAt (lanes c : Nat) : Option (Nat × Bool) :=
  if 2 ≤ c ∧ (c - 2) / 3 < lanes ∧ (c - 2) % 3 < 2 then some ((c - 2) / 3, (c - 2) % 3 = 1) else none

/-- The signal at (row, column), where R513 names one. -/
def pinAt (r c : Nat) : Option Pin :=
  if r = 1 then (match pairAt 16 c, c with
    | some x, _ => some (.peTx x.1 x.2)
    | none, 50 => some (.peRefclk false)
    | none, 51 => some (.peRefclk true)
    | none, _ => none)
  else if r = 3 then (match pairAt 16 c, c with
    | some x, _ => some (.peRx x.1 x.2)
    | none, 50 => some (.pePerst 0)
    | none, 51 => some (.pePerst 1)
    | none, 52 => some .peSplit
    | none, _ => none)
  else if r = 54 ∧ c ≤ 15 then (match pairAt 4 c, c with
    | some x, _ => some (.mrTx x.1 x.2)
    | none, 14 => some (.mrRefclk false)
    | none, 15 => some (.mrRefclk true)
    | none, _ => none)
  else if r = 52 ∧ c ≤ 14 then (match pairAt 4 c, c with
    | some x, _ => some (.mrRx x.1 x.2)
    | none, 14 => some .mrPres
    | none, _ => none)
  else if 6 ≤ r ∧ c = 54 then pinList[2 * (r - 6)]?
  else if 6 ≤ r ∧ c = 52 then pinList[2 * (r - 6) + 1]?
  else none

/-- The ball at (row, column): the first row of R514 that covers a ball R513 does not name. -/
def ballAt (r c : Nat) : Ball :=
  let even := (r + c) % 2 = 0
  let mid := 10 ≤ c ∧ c ≤ 44
  match pinAt r c with
  | some p => .pin p
  | none =>
    if r = 27 ∧ c = 27 then .kinSense
    else if r = 28 ∧ c = 27 then .gndSense
    else if r = 9 ∧ c = 27 then .coreSense
    else if 12 ≤ r ∧ r ≤ 43 ∧ mid then (if even then .vddKin else .gnd)
    else if 44 ≤ r ∧ r ≤ 49 ∧ mid then (if even then .vddStore else .gnd)
    else if 6 ≤ r ∧ r ≤ 11 ∧ mid then (if even then .vddCore else .gnd)
    else if (r = 5 ∧ 2 ≤ c ∧ c ≤ 49) ∨ (r = 50 ∧ 2 ≤ c ∧ c ≤ 17) then .vddPhy
    else if c = 50 ∧ 6 ≤ r ∧ r ≤ 13 then .vddIo33
    else if c = 50 ∧ 14 ≤ r ∧ r ≤ 29 then .vddIo18
    else .gnd

/-- The balls of one row that carry what `p` says. -/
def ballsInRow (p : Ball → Bool) (r : Nat) : Nat := ((List.range 54).filter fun c => p (ballAt r (c + 1))).length

/-- What a pin does while it is held (R515). -/
inductive PinHeld where
  | sensed
  | ignored
  | high
  | low
  | released
  | highZ
  | active
  | unpowered
  /-- As the chapter that owns the pin says: R429, R396. -/
  | asOwner
  /-- The table states nothing. -/
  | unstated
  deriving DecidableEq, Repr

/-- Supply, state in reset and state in DORMANT of a pin (R515); none for the pins R515 does not list. -/
def pinHeld : Pin → Option (Supply × PinHeld × PinHeld)
  | .pePerst _ | .peSplit | .sysRst | .pwrfail => some (.io33, .sensed, .unpowered)
  | .errOut | .alert => some (.io33, .asOwner, .released)
  | .witTx => some (.io33, .high, .unpowered)
  | .witRx | .mrPres | .cpPres _ | .cpOc _ => some (.io33, .ignored, .unpowered)
  | .cpVccen _ | .cpVsel _ | .cpRst _ | .cpClk _ => some (.io33, .low, .unpowered)
  | .cpIo _ => some (.io33, .released, .unpowered)
  | .smbClk | .smbDat | .smbAlert => some (.io33, .released, .released)
  | .jtagTck | .jtagTms | .jtagTdi => some (.io18, .ignored, .unpowered)
  | .jtagTrst => some (.io18, .unstated, .unpowered)
  | .jtagTdo => some (.io18, .highZ, .unpowered)
  | .norCs _ => some (.io18, .high, .unpowered)
  | .norReset => some (.io18, .low, .unpowered)
  | .norClk | .norDqs | .norDq _ => some (.io18, .unstated, .unpowered)
  | .tmLoopOut _ | .tmLoopIn _ | .tmSw _ | .xtalIn | .xtalOut => some (.backup, .active, .active)
  | _ => none

/-! ## NOR flash -/

/-- What authenticates a region's contents (R334). -/
inductive NorAuth where
  /-- The region has its own format, or the manual names no key. -/
  | own
  /-- Slot images as blobs and the rest under KW(s). -/
  | saggarKey
  /-- AES-CMAC under the key derived with label "KN". -/
  | deviceKey
  /-- PK wrapped as R361 sets out. -/
  | pairKey
  deriving DecidableEq, Repr

/-- A region of the first 256 MiB: whether its contents lie in two alternately written copies, and what authenticates them. -/
structure NorRegion where
  base : Nat
  size : Nat
  twoCopies : Bool
  auth : NorAuth
  deriving DecidableEq, Repr

/-- R334, the reserved ranges left out. The tamper configuration within the device record has the PUF-derived key of R395. (DESIGN CHOICE, log 146) -/
def norLayout : List NorRegion :=
  [⟨0x0000000, 0x1082000, false, .own⟩, ⟨0x1082000, 0x2000, true, .deviceKey⟩, ⟨0x1084000, 0x8000, true, .deviceKey⟩,
   ⟨0x108C000, 0x2000, true, .pairKey⟩, ⟨0x108E000, 0x2000, true, .deviceKey⟩, ⟨0x1100000, 0x200000, false, .own⟩,
   ⟨0x1300000, 0x200000, false, .own⟩, ⟨0x1500000, 0x100000, false, .own⟩, ⟨0x1600000, 0x80000, true, .deviceKey⟩,
   ⟨0x1700000, 0x100000, true, .deviceKey⟩, ⟨0x2000000, 0x1000000, true, .saggarKey⟩, ⟨0x8000000, 0x8000000, false, .own⟩]

/-- The region that holds an offset; none in a reserved range. -/
def norRegionAt (a : Nat) : Option NorRegion := norLayout.find? fun g => decide (g.base ≤ a ∧ a < g.base + g.size)

/-- The image slots and the image control record (R333): kind 0 Kazkel, 1 glaze; slot 0 A, 1 B. -/
def norImageSlot (kind slot : Nat) : Nat := if kind = 0 then slot * 0x800000 else 0x1000000 + slot * 0x40000
def norImageControl : Nat := 0x1080000

/-- Ceremony n of the journal, a saggar's record, a log block and an evidence record (R334, R409, R443). -/
def norJournal (n : Nat) : Nat := 0x1500000 + n % 64 * 0x4000
def norSaggar (g : Nat) : Nat := 0x2000000 + g * 0x10000
def norLogBlock (j : Nat) : Nat := 0x8000000 + j * 0x20000
def norEvidence (k : Nat) : Nat := 0x1100000 + k * 64

/-- The device and the address in it of byte `a`, with `d` devices fitted: 512-byte pages interleaved (R531). -/
def norPlace (d a : Nat) : Nat × Nat := (a / 512 % d, a / 512 / d * 512 + a % 512)

end Sys2Proof.Machine
end

