-- ==== Sys2Proof/Tests/Slice0.lean ====
section
/-! SUPPORT. Tests: ill-formed operands, single steps with the results the spec gives, and a state and operands that meet the hypotheses of
each statement. Where a hypothesis is the verdict of a cryptographic function, which is opaque, no state can be shown to meet it. -/

namespace Sys2Proof.Tests
open Sys2Proof Sys2Proof.Machine
set_option maxRecDepth 20000

/-! ## Small states -/

/-- A device in SERVICE, one port, link up, three VFs, lifecycle FIELD. -/
def svc : State :=
  { State.reset with
    sys := { State.reset.sys with mode := .service, prev := .boot, bootStep := 9, fnsReady := true, rtc := 1000000 },
    host := { State.reset.host with
      portA := { perst := false, ready := true, up := true, training := true, speed := 5, width := 16, numVfs := 3 } },
    lcc := { State.reset.lcc with state := .field } }

/-- The same with its port split, the window of port A on a function of port B. -/
def split : State :=
  svc.modHost fun h =>
    { h with split := true, splitLatch := true, portA := { h.portA with fnSel := 600 },
             portB := { perst := false, ready := true, up := true, training := true, fnSel := 512, numVfs := 3 } }

/-- A device in another mode. -/
def inMode (m : Mode) : State := svc.modSys fun x => { x with mode := m }

/-- The state a command answers; the state before, where it does not. -/
def after (c : Instr) (s : State) : State :=
  match exec c s with
  | .next t => t
  | _ => s

/-- Bytes with the given ones set. -/
def bytesWith (n : Nat) (l : List (Nat × Nat)) : Bytes := l.foldl (fun bs e => bs.set e.1 (byte e.2)) (zeros n)

/-- A ring of 16 slots a side, running. -/
def ring16 : Ring := { enable := true, sqLog2 := 4, cqLog2 := 4, state := .running, sqBase := 0x10000, cqBase := 0x20000 }

/-- `svc` with ring 0 of the PF running. -/
def ringing : State := svc.modRing 0 0 fun _ => ring16

/-- Saggar 7 ACTIVE, the PF bound to it. -/
def bound : State := (ringing.modSaggar 7 fun g => { g with state := .active }).modFn 0 fun f => { f with bound := some 7 }

/-- A ware of the PF, with its phase. -/
def wareIn (s : State) (w : Ware) : State := s.setWare 5 (some w)

/-- A request of a mailbox: code, length, tag, zero, payload. -/
def request (code : Nat) (body : Bytes) : Bytes :=
  padTo 448 (leBytes code 2 ++ leBytes body.length 2 ++ leBytes 0x55 2 ++ [0, 0] ++ body)

/-- Mailbox 0 of the PF is BUSY with a request, in a mode. -/
def serving (m : Mode) (code : Nat) (body : Bytes) : State :=
  (inMode m).modBox 0 0 fun b => { b with state := .busy, running := some (request code body) }

/-- A kiln in a state. -/
def kilnIn (s : State) (k : Nat) (st : KilnState) : State := s.modKiln k fun x => { x with state := st }

/-- A paired module with its link in a state. -/
def pairedAt (l : Link) : State :=
  svc.modMir fun m => { m with pair := some { peer := 9, slot1 := false, pk := [] }, link := l }

/-! ## Ill-formed commands: for each check, a command that only that check refuses -/

theorem test_wf_refuses_1 : (([
   .warmReset 0 {}, .warmReset 6 {}, .flr 1024, .flrComplete 1024, .vfRemove false 1024, .barAlignViolation 1024 false 0, .barUnmappedAccess
    1024 false 0, .poisonedBarWrite 1024, .violLimitWrite 1024 0, .ideUnsecuredRequest 1024, .ideKm false ⟨5, []⟩, .msixVectorUnmask 1024 16,
    .msixVectorUnmask 0 256, .dplSelectChange 1024 false, .dplSwitched 1024, .dplReadFail 1024, .sqDoorbell 1024 0 0, .sqDoorbell 0 8 0,
    .cqDoorbell 1024 0 0, .cqDoorbell 0 8 0, .descriptorFetchIssue 1024 0, .descriptorFetchIssue 0 8, .descriptorArrive 1025 0 0 [],
    .descriptorArrive 0 8 0 [], .descriptorArrive 0 0 65536 [], .descFetchFail 1024 0, .descFetchFail 0 8, .ringErrorSettle 1024 0,
    .ringErrorSettle 0 8, .ringEnable 1024 0 0, .ringEnable 0 8 0, .ringDisable 1024 0, .ringDisable 0 8, .ringDisabled 1024 0,
    .ringDisabled 0 8, .ringReset 1024 0, .ringReset 0 8, .ringResetComplete 1024 0, .ringResetComplete 0 8, .ringIdleMove 1024 0,
    .ringIdleMove 0 8, .panExtReadDone 65536 none, .wareClassify 65536, .extensionFetchDone 65536 none, .dataFetchDone 65536 none,
    .engineTakeWare 68 0, .engineTakeWare 0 16, .keyCacheFetchDone 65536, .blobHeaderReadDone 65536 none, .blobBodyReadDone 65536 none,
    .returnBackoffExpire 65536, .firingEnd 65536, .graphStepEnd 65536, .wareRelease 65536 false, .mergeDelayExpire 1024 0, .mergeDelayExpire
    0 8, .coalTimerExpire 1024 0, .coalTimerExpire 0 8, .epochChange (some 256), .epochNotice 256 0] : List Instr).all fun c => !c.wf) = true := by decide

theorem test_wf_refuses_2 : (([
   .epochNotice 0 68, .epochConfirmTimeout 256 0, .epochConfirmTimeout 0 68, .epochKilnLost 256 0, .epochKilnLost 0 68, .snapshotTake 1024,
    .kilnResetRun 68 1 false false, .kilnResetRun 0 0 false false, .kilnResetRun 0 4 false false, .glazeBankLoad 68 none, .kilnWake 68,
    .kilnWakeDone 68, .kilnDrain 68 0, .kilnDrain 0 4, .drainComplete 68, .drainAbandon 68, .drainRetryTimer 68, .kilnPark 68,
    .kilnReturnService 68, .kilnRetire 68, .keyInvalidate 256 none none, .bepochRetireCleanup 256, .keystoreLoad 256 0, .keystoreLoad 0 16,
    .keystoreCeremonyWrite 256 0 [], .keystoreCeremonyWrite 0 16 [], .keystoreErase 256 0, .keystoreErase 0 16, .prtLock 1024 0, .prtLock 0
    262144, .prtCommit 1024 0, .prtCommit 0 262144, .prtAbandon 1024 0, .prtAbandon 0 262144, .segmentWritesSettled 250000, .lockExpire
    250000, .pageWipe 256, .pageWipeDone 256, .sourceTestFail ⟨16, []⟩, .startupTestDone ⟨16, List.replicate 1024 false⟩, .startupTestDone ⟨0, []⟩, .conditionBlockDone ⟨false, []⟩, .coolingExpire 16, .entReseedOne 1024 0,
    .entReseedOne 0 128, .entReseedAll 1024, .entropyWaitTimeout 65536, .go 1024 0, .go 0 8, .ack 1024 0, .ack 0 8, .abort 1024 0, .abort 0
    8, .mbxCommandTimeout 1024 0, .mbxCommandTimeout 0 8, .hello 1024 0, .hello 0 8, .fnStatus 1024 0, .fnStatus 0 8, .deviceInfo 1024 0,
    .deviceInfo 0 8, .fnBind 1024 0] : List Instr).all fun c => !c.wf) = true := by decide

theorem test_wf_refuses_3 : (([
   .fnBind 0 8, .fnUnbind 1024 0, .fnUnbind 0 8, .globalOwner 1024 0, .globalOwner 0 8, .dmaAcquire 1024 0, .dmaAcquire 0 8, .dmaRelease
    1024 0, .dmaRelease 0 8, .dmaReclaim 1024 0, .dmaReclaim 0 8, .stagePages 1024 0, .stagePages 0 8, .saggarStatus 1024 0, .saggarStatus 0
    8, .policyRead 1024 0, .policyRead 0 8, .policyWrite 1024 0, .policyWrite 0 8, .quotaSet 1024 0, .quotaSet 0 8, .drain 1024 0, .drain 0
    8, .undrain 1024 0, .undrain 0 8, .saggarReset 1024 0, .saggarReset 0 8, .keyDestroy 1024 0, .keyDestroy 0 8, .origEnrol 1024 0,
    .origEnrol 0 8, .origWithdraw 1024 0, .origWithdraw 0 8, .bepochAdvance 1024 0, .bepochAdvance 0 8, .bepochRetire 1024 0, .bepochRetire
    0 8, .ksetWrite 1024 0, .ksetWrite 0 8, .segLock 1024 0, .segLock 0 8, .segCommit 1024 0, .segCommit 0 8, .segAbandon 1024 0,
    .segAbandon 0 8, .segAssign 1024 0, .segAssign 0 8, .segRelease 1024 0, .segRelease 0 8, .tableCreate 1024 0, .tableCreate 0 8,
    .tableSwitch 1024 0, .tableSwitch 0 8, .tableDelete 1024 0, .tableDelete 0 8, .kilnReset 1024 0 false false, .kilnReset 0 8 false false,
    .entReinstate 1024 0, .entReinstate 0 8, .marginConfig 1024 0] : List Instr).all fun c => !c.wf) = true := by decide

theorem test_wf_refuses_4 : (([
   .marginConfig 0 8, .imageStage 1024 0 none, .imageStage 0 8 none, .imageStatus 1024 0, .imageStatus 0 8, .imageActivate 1024 0,
    .imageActivate 0 8, .imageCommit 1024 0, .imageCommit 0 8, .cerBegin 1024 0 none, .cerBegin 0 8 none, .cerStatus 1024 0 0, .cerStatus 0 8 0, .cerAbort 1024 0, .cerAbort 0 8, .cerJournal 1024 0 false, .cerJournal 0 8 false, .rosterRead 1024 0, .rosterRead 0 8, .cardInsert
    2, .cardDebounceExpire 2, .cardRemove 2, .atrReceive 2 false {}, .atrTimeout 2, .apduTimeout 2, .getIdentity 2 0 [], .putDeviceCert 2
    0, .authenticate 2 0 [], .releaseShard 2 0 [], .storeShard 2 0 [], .linkLanesLock 3, .mirrorHello 0 2 ⟨false, 0⟩ [], .pairingFrame 0x0F [],
    .pairingFrame 0x15 [], .heartbeat ⟨0, true, false⟩ 8 0 0 false false 0, .resyncReq ⟨0, true, false⟩ 0 4294967296 true, .keyxfer ⟨0,
    true, false⟩ 256 [] {}, .replayEntryExpire 256 0, .replayEntryExpire 0 18446744073709551616, .mirStatus 1024 0, .mirStatus 0 8,
    .mirSwitchback 1024 0, .mirSwitchback 0 8, .mirRetrain 1024 0, .mirRetrain 0 8, .tamperSourceAssert 25 false 1 0, .tamperSourceDeassert
    26, .backupSourceAssert 28 false 1 0, .detectorDisagreeTimeout 25, .detectorSelfTest (some 25), .decisionSecondEval 0 0 0,
    .decisionSecondEval 5 0 0, .beatIntegrityFail 100, .alarmStatClear 1024 0, .tamperConfigWrite 1024 0 0, .tamperRecover 1024 {},
    .faultSourceOccur 100 0 none, .faultSourceOccur 0 99 none, .bankParityFault 100, .faultRecover 1024 {}] : List Instr).all fun c => !c.wf) = true := by decide

theorem test_wf_refuses_5 : (([
   .faultStickyClear 1024 0 0, .faultStickyClear 0 100 0, .coalesceWindowEnd 258 0 0, .norBlockEraseDone 1024 false, .vectorPaceExpire 15,
    .vectorPaceExpire 22, .logStatus 1024 0, .logStatus 0 8, .logRead 1024 0, .logRead 0 8, .logFetch 1024 0 false, .logFetch 0 8 false,
    .logConfig 1024 0, .logConfig 0 8, .logGrant 1024 0, .logGrant 0 8, .canaryTrip 68, .canaryTrip 0x84, .kilnDue 68, .kilnOverdue 68,
    .kilnMeasure 68 (some ⟨none, 0, 0, true⟩), .lifecycleTransition 1024 0 false { readBack := 0 }, .lifecycleTransition 0 16 false { readBack := 0
    }, .lcChallenge 1024 0, .lcChallenge 0 8, .lcAnswer 1024 0 none, .lcAnswer 0 8 none, .lcStatus 1024 0, .lcStatus 0 8, .dmaKick 1024 8,
    .dmaKick 0 32, .dmaEnable 1024 8 0, .dmaEnable 0 32 0, .dmaDisable 1024 8, .dmaDisable
    0 32, .dmaPollTimer 32, .dmaSlotReadDone 32 [], .dmaSlotReadFail 32
    false, .dmaHalfPoint 32, .dmaDescriptorComplete 32 (.done []), .dmaChannelReset 32, .smbUnlistedCommand false 256, .jtagCoreHalt 2, .jtagCoreStep 2, .jtagBreakpoint 2 0, .jtagMemoryAccess
    17592186044416 none, .factoryBist 8 false, .factoryDirectAccess 5 0 none, .rtcLoRead 1024, .rcRegisterRead 1024 0, .registerWrite 1024 0
    0] : List Instr).all fun c => !c.wf) = true := by decide

theorem test_wf_refuses_6 : (([
   .vfEnable false 1024, .hostLinkUp false 999999 0, .hostLinkUp false 0 999999, .dplBitmapReadDone 1024 0, .selectByName 2 0,
    .blockWaitingTimeExpire 2, .waitingTimeExtension 2 false, .cardBlockError 2, .sourceFailure24hExpire 16, .withdrawal24hExpire 68,
    .controlDrbgWaitExpire false 1024 0, .controlDrbgWaitExpire false 0 8, .busyWindowEnd [] (List.replicate 136 0) false, .roCountTimer [0,
    0, 0], .recordAccept { stream := 258, source := 0, code := 0 }, .kilnMeasure 0 (some ⟨none, 41, 0, true⟩), .kilnMeasure 0 (some ⟨some 25, 40, 0,
    true⟩)] : List Instr).all fun c => !c.wf) = true := by decide

/-! ## Hypotheses of the statements, met

One theorem for each statement with hypotheses; each line is one clause of it, at a boundary of its range where the clause has one. -/

/-- `svc` with port A's link up and training. -/
def training : State := svc.modPort false fun p => { p with training := true }

theorem wit_HostPortAndLink :
    (svc.portExists false = true ∧ svc.sys.mode ≠ .dormant) ∧ (split.portExists true = true ∧ split.sys.mode ≠ .dormant) ∧
    (svc.portExists false = true ∧ svc.sys.fnsReady = true ∧ (svc.port false).perst = false) ∧
    (1 ≤ 5 ∧ 16 ∈ [1, 2, 4, 8, 16] ∧ training.host.split = false ∧ training.portExists false = true ∧
      (training.port false).training = true ∧ (training.port false).perst = false) ∧
    (svc.port false).up = true ∧
    (let s := svc.modHost fun h => { h with heldReads := [(3, 0x70, 0), (0, 0x70, 0)] }; s.configLive false = true) ∧
    (split.configLive true = true ∧ State.reset.configLive false = false ∧ State.reset.portExists true = false ∧
      (State.reset.port false).perst = true ∧ ((svc.modPort false fun p => { p with ready := false }).port false).ready = false) := by
  and_intros <;> decide

theorem wit_FunctionResetsAndVfs :
    (0 < 1024 ∧ svc.answers 0 = true) ∧ svc.answers 3 = true ∧ svc.answers 4 = false ∧ split.answers 515 = true ∧
    (let s := (wareIn svc { fn := 3 }).modFn 3 fun f => { f with flr := true }
     (s.fn 3).flr = true ∧ s.tmp.halted = false ∧ ∃ w, s.ware 5 = some w ∧ w.fn = 3) ∧
    (1023 ≤ 1023 ∧ svc.portExists false = true ∧ (svc.port false).ready = true ∧ 1023 ≤ svc.totalVfs ∧ (svc.port false).numVfs ≤ 1023) ∧
    (2 < (svc.port false).numVfs ∧ (svc.port false).numVfs ≤ 1023 ∧ 3 ∈ svc.vfsAbove false 2) := by
  refine ⟨by decide, by decide, by decide, by decide, ⟨by decide, by decide, ⟨_, rfl, by decide⟩⟩, by decide, by decide⟩

theorem wit_FunctionResetCommandsComplete :
    (svc.answers 0 = true ∧ split.answers 515 = true) ∧ svc.answers 4 = false ∧
    (let s := svc.modFn 3 fun f => { f with flr := true }
     (s.fn 3).flr = true ∧ s.tmp.halted = false ∧ (s.modTmp fun t => { t with halted := true }).tmp.halted = true ∧ s.answers 3 = false) ∧
    (svc.fn 3).flr = false ∧
    (1023 ≤ 1023 ∧ svc.portExists false = true ∧ (svc.port false).ready = true ∧ 1023 ≤ svc.totalVfs ∧ (svc.port false).numVfs ≤ 1023) ∧
    (svc.portExists true = false ∧ split.totalVfs < 1023 ∧ 0 < (svc.port false).numVfs) ∧
    (2 < (svc.port false).numVfs ∧ (svc.port false).numVfs ≤ 3) := by and_intros <;> decide

theorem wit_ViolationsAndQuarantine :
    (svc.answers 3 = true ∧ svc.regRead 3 0x3FF0 = none ∧ svc.regRead 0 0xD0018 = none) ∧ (svc.answers 0 = true ∧ svc.isPf 0 = true ∧ svc.ownerPf = 0) ∧
    (svc.portExists false = true ∧ svc.answers (State.pfOf false) = true ∧ svc.portOf (svc.port false).fnSel.toNat = false) ∧
    (split.portExists false = true ∧ split.answers (State.pfOf false) = true ∧ split.portOf (split.port false).fnSel.toNat ≠ false) ∧
    (let s := svc.modHost fun h => { h with ideRequired := true }
     s.host.ideRequired = true ∧ s.answers 3 = true) := by and_intros <;> decide

/-- The responder of port A, negotiated. -/
def spdmAt (x : Spdm) : State := svc.modHost fun h => { h with spdmA := x }

/-- A DRBG in a state. -/
def drbgIn (st : DrbgState) (d : Nat) (s : State) : State := s.modDrbg d fun x => { x with state := st }

/-- The responder of port A negotiated, the control DRBG in a state. -/
def negotiatedWith (st : DrbgState) : State := drbgIn st controlDrbg (spdmAt { versioned := true, capable := true, negotiated := true })

theorem wit_SpdmConnection :
    svc.doeLive false = true ∧ split.doeLive true = true ∧ State.reset.doeLive false = false ∧
    (let s := negotiatedWith .ready
     s.doeLive false = true ∧ (s.spdm false).negotiated = true ∧ ∃ s' r, s.controlBytes 32 = (s', some r)) ∧
    (let s := negotiatedWith .exhausted
     s.doeLive false = true ∧ (s.spdm false).negotiated = true ∧ (∃ s', s.controlBytes 32 = (s', none)) ∧ 6 ≤ 6) ∧
    (let s := negotiatedWith .ready
     s.doeLive false = true ∧ (s.spdm false).negotiated = true ∧ (7 ≠ 0 ∧ .challenge false ⟨7, []⟩ ∈
       [Instr.getCertificate false 7 ⟨0, 0⟩, .challenge false ⟨7, []⟩, .keyExchange false ⟨7, []⟩]) ∧ 6 < 7 ∧ 7 ≠ 0xFF) ∧
    (svc.doeLive false = true ∧ (svc.spdm false).negotiated = false) := by
  refine ⟨by decide, by decide, by decide, ⟨by decide, by decide, ⟨_, _, rfl⟩⟩, ⟨by decide, by decide, ⟨_, rfl⟩, by decide⟩, by decide, by decide⟩

theorem wit_SpdmSession :
    (let s := negotiatedWith .ready
     s.doeLive false = true ∧ (s.spdm false).negotiated = true ∧ ∃ s' e, s.controlBytes 48 = (s', some e)) ∧
    (let s := negotiatedWith .exhausted
     s.doeLive false = true ∧ (s.spdm false).negotiated = true ∧ ∃ s', s.controlBytes 48 = (s', none)) ∧
    (let s := spdmAt { handshake := true }; s.doeLive false = true ∧ (s.spdm false).handshake = true) ∧
    (let s := spdmAt { session := true }; s.doeLive false = true ∧ (s.spdm false).session = true ∧ 4 ≤ 4) ∧
    (svc.doeLive false = true ∧ (svc.spdm false).session = false) := by
  refine ⟨⟨by decide, by decide, ⟨_, _, rfl⟩⟩, ⟨by decide, by decide, ⟨_, rfl⟩⟩, by decide, by decide, by decide⟩

/-- VF 3 with its log on and a page waiting to be marked. -/
def logging (sel : Bool) (reading : Bool) : State :=
  svc.modFn 3 fun f => { f with dpl := { f.dpl with enable := true, select := sel, switched := false }, queue := [.log false 9], reading := reading }

theorem wit_MsixAndDirtyPageLog :
    (255 < svc.vectorsOf 0 ∧ 15 < svc.vectorsOf 3 ∧ svc.answers 3 = true) ∧
    (svc.present 3 = true ∧ svc.answers (State.pfOf (svc.portOf 3)) = true ∧ svc.ownerPf = State.pfOf (svc.portOf 3)) ∧
    (let s := logging false false; (s.fn 3).dpl.switched = false ∧ State.noLogs (s.fn 3) (!(s.fn 3).dpl.select) = true) ∧
    (let s := logging false true
     (s.fn 3).reading = true ∧ (s.fn 3).queue = .log false 9 :: [] ∧ (s.fn 3).dpl.enable = true ∧ (0 : BitVec 64).getLsbD (9 % 64) = false) := by
  and_intros <;> decide

theorem wit_DoorbellsAndDescriptors :
    (ringing.answers 0 = true ∧ (ringing.fn 0).quarantined = false ∧ (ringing.ring 0 0).state = .running ∧
      (15 : Word).toNat < 2 ^ (ringing.ring 0 0).sqLog2 ∧ 2 ^ (ringing.ring 0 0).sqLog2 ≤ (16 : Word).toNat) ∧
    (ringing.ring 3 7).state = .disabled ∧ ((ringing.modRing 3 7 fun r => { r with state := .resetting }).ring 3 7).state = .resetting ∧
    (let s := ringing.modRing 0 0 fun r => { r with cqTail := 3 }
     (s.ring 0 0).state ≠ .resetting ∧ (3 : Word).toNat < 2 ^ (s.ring 0 0).cqLog2 ∧
       ringDist (2 ^ (s.ring 0 0).cqLog2) (3 : Word).toNat (s.ring 0 0).cqHead ≤ (s.ring 0 0).unread) ∧
    2 ^ (ringing.ring 0 0).cqLog2 ≤ (16 : Word).toNat ∧
    (let s := ringing.modRing 0 0 fun r => { r with sqTail := 1 }; s.mayFetch 0 0 = true) ∧
    (let s := ringing.modRing 0 0 fun r => { r with fetches := [0] }; (s.ring 0 0).fetches ≠ [] ∧ s.ware 65535 = none) ∧
    (let s := (inMode .ceremony).modCer fun c => { c with step := 1 }
     s.sys.mode = .ceremony ∧ s.cus.cer.step ≠ 0 ∧ s.ware 65535 = none) ∧
    (let s := ringing.modRing 0 0 fun r => { r with settling := some .sqRange }
     (s.ring 0 0).fetches = [] ∧ (s.ring 0 0).settling = some .sqRange) := by and_intros <;> decide

theorem wit_RingControlAndReset :
    (svc.answers 3 = true ∧ (svc.ring 3 7).state = .disabled) ∧ ((ringing.ring 0 0).state = .running ∧ ringing.answers 0 = true) ∧
    (let s := ringing.modRing 0 0 fun r => { r with state := .error }; (s.ring 0 0).state = .error ∧ s.answers 0 = true) ∧
    (let s := ringing.modRing 0 0 fun r => { r with enable := false }
     (s.ring 0 0).state = .running ∧ (s.ring 0 0).enable = false ∧ (s.ring 0 0).fetches = [] ∧ (s.ring 0 0).settling = none ∧
       s.ringInflight 0 0 = 0) ∧
    (let s := ringing.modRing 0 0 fun r => { r with state := .resetting }
     (s.ring 0 0).state = .resetting ∧ s.ringQuiet 0 0 = true) ∧
    (ringing.ringInflight 0 0 = 0 ∧ (ringing.ring 0 0).state ≠ .resetting) ∧
    (let s := ringing.modRing 0 0 fun r => { r with unsignalled := 1 }
     0 < (s.ring 0 0).unsignalled ∧ (s.fn 0).queue = [] ∧ ((s.modFn 0 fun f => { f with msix := mset {} f.msix 0 { f.entry 0 with masked := false } }).fn 0).entry 0 = { masked := false }) := by
  and_intros <;> decide

/-- Saggar 7's policy admits everything but one code, to every function. -/
def open7 : State := bound.modSaggar 7 fun g => { g with pol := { g.pol with wide := List.replicate 128 0xFF, variants := [(0, List.replicate 128 0xFF)] } }

/-- Descriptor of a single firing of `code`; `flags` at byte 2. -/
def desc (code flags : Nat) : Bytes := leBytes code 2 ++ [byte flags, 0] ++ zeros 124

/-- A stamped ware of the PF. -/
def stamped (code flags : Nat) : Ware := { desc := desc code flags, saggar := 7, panRead := some none }

theorem wit_ClassifyAndDispatch :
    (let w := stamped 0x0F04 0; let s := wareIn bound w
     s.ware 5 = some w ∧ w.phase = .stamped ∧ w.panRead ≠ none ∧ s.earlyChecks w = some St.BAD_FIRING_CODE ∧
       (s.tagsWhere fun x => x.phase == .stamped && x.fn = w.fn && x.ring = w.ring && decide (x.seq < w.seq)) = []) ∧
    (let w := stamped 0x0F01 0; let s := wareIn open7 w
     s.ware 5 = some w ∧ s.earlyChecks w = none ∧ dPanRouted w.desc = false ∧ (s.fn w.fn).bound = some 7 ∧
       polAdmits ((s.saggar 7).pol.record w.pset) (dCode w.desc) (s.privileged w.fn 7) = true) ∧
    svc.eligibleKilns = [] ∧
    (let w := { stamped 0x0F01 0x20 with phase := .returned, placed := some 0 }
     let s := wareIn (kilnIn open7 67 .inService) w
     s.eligibleKilns ≠ [] ∧ s.oldestReturned 0 = some 5 ∧ s.ware 5 = some w ∧ s.choosePlace w = some 67 ∧ w.placed ≠ none ∧
       w.epoch = (s.saggar w.saggar).epoch ∧ dStateChanging w.desc = false ∧ dCode w.desc ≠ 0x0410 ∧ dExtension w.desc = true ∧
       s.fetchOk w.fn = true ∧ (s.port (s.portOf w.fn)).d3hot = false ∧ (s.kiln 67).fetches.length < 8) ∧
    (let w := { stamped 0x0701 0x24 with phase := .returned, placed := some 0 }
     let s := wareIn (kilnIn open7 67 .inService) w
     s.eligibleKilns ≠ [] ∧ s.oldestReturned 0 = some 5 ∧ s.ware 5 = some w ∧ s.choosePlace w = some 67 ∧ w.placed ≠ none ∧
       w.epoch = (s.saggar w.saggar).epoch ∧ dStateChanging w.desc = true ∧ dCode w.desc ≠ 0x0410 ∧ dExtension w.desc = true ∧
       s.fetchOk w.fn = true ∧ (s.port (s.portOf w.fn)).d3hot = false ∧ (s.kiln 67).fetches.length < 8 ∧ s.replayOf w.saggar (dReplay w.desc) = none ∧ s.replayRoom = true) := by
  and_intros <;> decide

theorem wit_PolicyEpochsAndSnapshots :
    ((bound.saggar 7).state = .active ∧ (bound.saggar 7).busy = false ∧ bound.mir.controls = []) ∧
    (let s := (bound.modFw fun f => { f with glazeNext := some 9 }).modKiln 67 fun x =>
        { x with state := .draining, bankA := { valid := true, level := 9 } }
     s.fw.glazeNext = some 9 ∧ s.mir.controls = [] ∧ (∀ g ∈ s.listedSaggars, (s.saggar g).busy = false) ∧
       ∀ k, k < 68 → (s.kiln k).state = .inService ∨ (s.kiln k).state = .draining →
         (s.kiln k).bankA.valid = true ∧ (s.kiln k).bankA.level = 9 ∨ (s.kiln k).bankB.valid = true ∧ (s.kiln k).bankB.level = 9) ∧
    (let w : Ware := { stamped 0x0F01 0 with phase := .ready, placed := some 0, kiln := 67, epoch := 0 }
     let s := (wareIn bound w).modSaggar 7 fun g => { g with epoch := 1, awaiting := [67] }
     67 ∈ (s.saggar 7).awaiting ∧ s.ware 5 = some w ∧ w.saggar = 7 ∧ w.kiln = 67 ∧ w.placed ≠ none ∧ w.epoch ≠ (s.saggar 7).epoch ∧
       w.phase.queuedInKiln = true ∧ 7 ∈ s.noticed 7 67) ∧
    (svc.answers 0 = true ∧ svc.isPf 0 = true ∧ svc.ownerPf = 0 ∧ svc.setter.snapDone = true) ∧
    (svc.modSetter fun x => { x with snapDone := false }).setter.snapDone = false := by
  and_intros <;> decide

/-- A ware of the PF in kiln 67, single firing of `code`. -/
def placed (code flags : Nat) (ph : WarePhase) : Ware := { stamped code flags with phase := ph, placed := some 0, kiln := 67, engine := 15 }

/-- Kiln 67 with a ware on engine 15. -/
def atKiln (w : Ware) (x : Engine) (queue : List Nat) : State :=
  wareIn ((kilnIn open7 67 .inService).modKiln 67 fun k => { k with engines := mset {} k.engines 15 x, queue := queue }) w

/-- The same with the kiln's read at `a` under way. -/
def reading (w : Ware) (a n : Nat) : State := (atKiln w { fg := some 5 } []).modKiln 67 fun k => { k with fetches := [(5, a, n)] }

/-- The header of a blob of saggar 7, handle 0, 8 bytes of material. -/
def header : Bytes := bytesWith 48 [(0, 0x5A), (1, 0x47), (2, 1), (3, 7), (6, 8)]

theorem wit_InputAndPreparation :
    (let w := { stamped 0x0F01 0x60 with panRead := none }; let s := wareIn open7 w
     s.ware 5 = some w ∧ w.phase = .stamped ∧ w.panRead = none ∧ (panReadOf w.desc).any (fun r => s.readHeld w.fn r.1) = false) ∧
    (let w := placed 0x0F01 0x20 .arriving; let s := reading w 0 0
     s.ware 5 = some w ∧ w.dataLeft = 0 ∧ dExtension w.desc = true ∧ w.isGraph = false ∧ s.readHeld w.fn (dExtPtr w.desc) = false ∧
       s.fetchTurn w.kiln 5 = true ∧ s.replayOf w.saggar (dReplay w.desc) = none) ∧
    (let w := { placed 0x0F01 0x20 .arriving with desc := (desc 0x0F01 0x20).set 72 16 }; let s := reading w 0 16
     let w' := { w with ext := padTo (dExtLen w.desc) (zeros 16) }
     s.stepForm w' (w'.stepIn 0) = none ∧ Ware.dataSpan (w'.stepIn 0) = none) ∧
    (let w := { placed 0x0601 0 .arriving with desc := bytesWith 128 [(0, 1), (1, 6), (49, 1), (56, 16)], dataLeft := 1 }
     let s := reading w 256 16
     s.ware 5 = some w ∧ 0 < w.dataLeft ∧ s.replayOf w.saggar (dReplay w.desc) = none ∧
       (w.allSteps.filterMap fun u => (Ware.dataSpan u).map fun x => (u.index, x)).drop w.data.length = [(0, 256, 16)] ∧
       s.readHeld w.fn 256 = false ∧ s.fetchTurn w.kiln 5 = true) ∧
    (let w := placed 0x0F01 0 .ready; let s := atKiln w {} [5]
     s.engineFree 67 15 = true ∧ (s.kiln 67).blocked = false ∧ (s.kiln 67).state = .inService ∧ (s.kiln 67).hold = false ∧
       (mget {} (s.kiln 67).engines 15).bg = none ∧ s.oldestOf 67 [0, 1, 2, 3] = some 5 ∧ s.ware 5 = some w) ∧
    (let w := { placed 0x0F01 0 .ready with lineTag := some 8 }; let s := atKiln w {} [5]
     s.ware 5 = some w ∧ w.phase = .ready ∧ w.lineTag ≠ some w.saggar ∧ s.replayOf w.saggar (dReplay w.desc) = none) ∧
    (let w := placed 0x0F01 0 .suspended; let s := kilnIn (atKiln w { bg := some 5 } []) 67 .draining
     s.engineFree 67 15 = true ∧ (s.kiln 67).blocked = false ∧ (s.kiln 67).state = .draining ∧
       (mget {} (s.kiln 67).engines 15).bg = some 5 ∧ s.ware 5 = some w ∧ w.wheel = none ∧ s.flt.due = []) ∧
    (let w := { placed 0x0501 0 .preparing with waits := .cacheFetch }
     let s := (atKiln w { fg := some 5 } []).setCache 0 (some { owner := 7, bepoch := 1, key := {} })
     s.ware 5 = some w ∧ (State.pendingField w).map (fun x => (x.2.1, x.2.2)) = some (0, .handle 0) ∧ (s.cache 0).isSome = true) ∧
    (let w := { placed 0x0501 8 .preparing with waits := .blobHeader }; let s := reading w 0 48
     s.ware 5 = some w ∧ s.answers w.fn = true ∧ s.readHeld w.fn (dBlobPtr w.desc) = false ∧ s.fetchTurn w.kiln 5 = true ∧
       s.headerCheck w (padTo 48 header) = none ∧ s.headerCheck w (padTo 48 []) = some St.BLOB_AUTH_FAILED ∧
       s.replayOf w.saggar (dReplay w.desc) = none) ∧
    (let w := { placed 0x0501 8 .preparing with waits := .blobBody, blobHeader := header }; let s := reading w 48 24
     s.ware 5 = some w ∧ s.readHeld w.fn (dBlobPtr w.desc + 48) = false ∧ s.fetchTurn w.kiln 5 = true ∧ s.openedKey w (padTo 24 []) = none) ∧
    (let w := { placed 0x0501 0 .backoff with entWaits := true }; let s := atKiln w {} [5]
     s.ware 5 = some w ∧ s.drbgRefuses w.kiln = true ∧ s.replayOf w.saggar (dReplay w.desc) = none ∧
       (s.modDrbg 67 fun d => { d with state := .ready }).drbgRefuses w.kiln = false) := by
  and_intros <;> decide

/-- A ware whose blob's body has been read, its saggar's SSK loaded, the key already in the cache. -/
def opening : Ware := { placed 0x0501 8 .preparing with waits := .blobBody, blobHeader := header }

/-- The state around it. -/
def openingAt : State :=
  ((reading opening 48 24).modSaggar 7 fun g => { g with slots := [(0, some {})], sizeK := 1 }).setCache 0
    (some { owner := 7, bepoch := 0, key := {} })

/-- The verdict of the authenticated decryption is opaque: given that the blob verifies, the other hypotheses are met. -/
theorem wit_InputAndPreparation_blob (mat : Bytes) (h : openBlob (blobKeyOf [] 7 0) header (padTo 24 []) = some mat) :
    openingAt.ware 5 = some opening ∧ opening.phase = .preparing ∧ opening.waits = .blobBody ∧ openingAt.readHeld opening.fn (dBlobPtr opening.desc + 48) = false ∧
    openingAt.fetchTurn opening.kiln 5 = true ∧
    (∃ key, openingAt.openedKey opening (padTo ((blobFields opening.blobHeader).matLen + 16) []) = some key ∧
      (((openingAt.dropFetch opening.kiln 5).setWare 5 (some { opening with waits := .none, blobHeader := [] })).insertKey 5 opening key).2 = .used) := by
  refine ⟨by decide, rfl, rfl, by decide, by decide, { handle := 0, attr := 0, material := mat, serial := 0, bepoch := 0 }, ?_, rfl⟩
  have e : openingAt.openedKey opening (padTo ((blobFields opening.blobHeader).matLen + 16) []) =
      (openBlob (blobKeyOf [] 7 0) header (padTo 24 [])).map fun m => { handle := 0, attr := 0, material := m, serial := 0, bepoch := 0 } := rfl
  rw [e, h]; rfl

/-- The PF's ware fires `code` on kiln 67 with parameters and input of zeros. -/
def firingOf (code flags : Nat) : Ware := placed code flags .firing

theorem wit_FiringEndsAndRelease :
    (let w := firingOf 0x0F01 0; let s := atKiln w { fg := some 5 } []
     s.ware 5 = some w ∧ w.isGraph = false ∧ wrapsBlob (w.stepIn 0).code = false ∧ wareChangesState w.desc = false ∧ s.flt.due = [] ∧
       (fireCode { s.fireIn w (w.stepIn 0) with rand := w.rand, primes := w.primes }).map (fun o => (o.status, o.result, o.again, o.faulty)) =
         some (St.OK, zeros 16, false, false)) ∧
    (let w := firingOf 0x0802 0; let s := atKiln w { fg := some 5 } []
     s.ware 5 = some w ∧ w.isGraph = false ∧ s.flt.due = [] ∧ s.replayOf w.saggar (dReplay w.desc) = none ∧
       (fireCode { s.fireIn w (w.stepIn 0) with rand := w.rand, primes := w.primes }).map (fun o => (o.status, o.again, o.faulty)) =
         some (2052, false, false)) ∧
    (let w := { firingOf 0 0 with desc := bytesWith 128 [(2, 0x21), (3, 2)], ext := bytesWith 384 [(0, 1), (1, 0x0F)] }
     let s := atKiln w { fg := some 5 } []
     s.ware 5 = some w ∧ w.isGraph = true ∧ w.graphFail = none ∧ w.cls ≠ 3 ∧ w.wheel = none ∧ w.page = none ∧ s.flt.due = [] ∧
       (w.stepIn w.graphStep).index + 1 < w.steps ∧
       (fireCode (s.stepFireIn w (w.stepIn w.graphStep))).map (fun o => (o.status, o.again, o.faulty)) = some (St.OK, false, false)) ∧
    (let w := { firingOf 0x0F01 0 with phase := .ended }; let s := atKiln w {} []
     s.ware 5 = some w ∧ s.headsFlow w = true ∧ s.tmp.halted = false ∧ w.delta = none ∧ w.replayed = false ∧
       s.replayOf w.saggar (dReplay w.desc) = none ∧ w.stale = false ∧ w.gen = (s.fn w.fn).gen ∧ w.ceremony = false ∧ w.discard = false ∧ w.inline = true ∧
       (s.fn w.fn).queue = [] ∧ (s.ring w.fn w.ring).held = [] ∧ (s.ring w.fn w.ring).cqTail < 2 ^ (s.ring w.fn w.ring).cqLog2) ∧
    (let w := { firingOf 0x0F01 0 with phase := .refused, stale := true }; let s := atKiln w {} []
     s.ware 5 = some w ∧ s.headsFlow w = true ∧ w.delta = none ∧ s.replayOf w.saggar (dReplay w.desc) = none ∧ w.ceremony = false ∧ w.stale = true) ∧
    (let w := { firingOf 0x0F01 0 with phase := .refused, discard := true }; let s := atKiln w {} []
     s.ware 5 = some w ∧ s.headsFlow w = true ∧ s.replayOf w.saggar (dReplay w.desc) = none ∧ w.stale = false ∧ w.gen = (s.fn w.fn).gen ∧
       w.ceremony = false ∧ w.discard = true) := by
  and_intros <;> decide

theorem wit_KeysAndOperandPages :
    (let s := bound.modSaggar 7 fun g => { g with retired := some 3 }; (s.saggar 7).busy = false ∧ (s.saggar 7).retired = some 3) ∧
    (svc.sys.mode ≠ .dormant ∧ svc.sys.mode ≠ .boot ∧ svc.drbgRefuses controlDrbg = true) ∧
    (drbgIn .ready controlDrbg svc).drbgRefuses controlDrbg = false ∧ ((drbgIn .ready controlDrbg svc).drbg controlDrbg).calls < 2 ^ 32 ∧
    (let s := open7.modStore fun t => { t with total := 8 }
     (s.saggar 7).state = .active ∧ (s.operandPages 7).length + (s.wipingPages 7).length < s.pageQuota 7 ∧ s.nextPage = some 0) ∧
    (svc.nextPage = none ∧ svc.pageQuota 7 ≤ (svc.operandPages 7).length + (svc.wipingPages 7).length) ∧
    ((open7.modStore fun t => { t with total := 8 }).setPage 7 (some { saggar := 7, wiping := true })).wipingPages 7 = [7] ∧
    (let s := (inMode .ceremony).modSaggar 7 fun g => { g with latch := true }
     s.sys.mode = .ceremony ∧ (s.saggar 7).latch = true ∧ s.cus.cer.fromMode ≠ 6 ∧ s.imageKey 7 15 [] = none) ∧
    (svc.sys.mode ≠ .ceremony ∧ (svc.saggar 7).latch = false ∧ (svc.saggar 7).state ≠ .erasing) ∧
    (let s := bound.modSaggar 7 fun g => { g with images := [(15, [])] }
     (s.saggar 7).images.find? (fun e => e.1 = 15) = some (15, []) ∧ s.sys.mode ≠ .boot) ∧
    (let s := (inMode .boot).modSaggar 7 fun g => { g with images := [(15, [])], slots := [(15, some {})] }
     s.sys.mode = .boot ∧ (mget none (s.saggar 7).slots 15).isSome = true) ∧
    ((bound.modSaggar 7 fun g => { g with state := .erasing }).saggar 7).state = .erasing := by
  and_intros <;> decide

/-- An image of slot 15 of saggar 7, 8 bytes of material. -/
def image15 : Bytes := bytesWith 72 [(0, 0x5A), (1, 0x47), (2, 0x81), (3, 7), (6, 8), (8, 15)]

/-- A device in BOOT with a key store, or in CEREMONY under the quorum latch, and the image of slot 15 of saggar 7. -/
def loading (m : Mode) : State :=
  ((inMode m).modKeys fun k => { k with hearth := 2 }).modSaggar 7 fun g => { g with images := [(15, image15)], latch := true }

/-- The verdict of the unwrapping is opaque: given that the image opens, the other hypotheses of a slot's load are met. -/
theorem wit_KeysAndOperandPages_image (m : Mode) (hm : m = .boot ∨ m = .ceremony) (mat : Bytes)
    (h : openBlob (slotWrapKey (loading m).keys.hk 7 ((loading m).saggar 7).cnonce) (slice image15 0 48) (image15.drop 48) = some mat) :
    ((loading m).keys.hearth = 2 ∧ (loading m).sys.mode = m ∧ 7 ≤ (loading m).sys.bootStep ∧ (loading m).cus.cer.fromMode ≠ 6 ∧
      ((loading m).saggar 7).latch = true ∧ mget none ((loading m).saggar 7).slots 15 = none ∧
      ((loading m).saggar 7).images.find? (fun e => e.1 = 15) = some (15, image15)) ∧
    ((loading m).imageKey 7 15 image15).isSome = true := by
  constructor
  · rcases hm with rfl | rfl <;> decide
  · have e : (loading m).imageKey 7 15 image15 =
        (openBlob (slotWrapKey (loading m).keys.hk 7 ((loading m).saggar 7).cnonce) (slice image15 0 48) (image15.drop 48)).map fun mat =>
          { handle := 15, attr := (blobFields image15).attr, material := mat, serial := (blobFields image15).serial, bepoch := 0 } := by
      unfold State.imageKey; rw [if_pos (by decide)]
    rw [e, h]; rfl

/-- The PF owns PRT_CMD; a segment is in a state. -/
def segAt (g : Nat) (st : SegState) : State := svc.modSegment g fun x => { x with state := st, unsettled := true }

theorem wit_RoutingSegmentCommands :
    (let s := segAt 249999 .idle
     s.answers 0 = true ∧ s.isPf 0 = true ∧ s.ownerPf = 0 ∧ s.routing.busy = false ∧ (s.bank 8).fenced = false ∧
       (s.segment 249999).state = .idle ∧ s.lockedSegments (fun _ => true) < 64 ∧
       s.lockedSegments (fun x => x.saggar = (s.segment 249999).saggar) < 16) ∧
    ((segAt 249999 .locked).segment 249999).state = .locked ∧ (svc.segment 262143).state = .free ∧
    (let s := segAt 249999 .committing; (s.segment 249999).state = .committing ∧ (s.segment 249999).unsettled = true) := by
  and_intros <;> decide

theorem wit_KilnStatesAndDrains :
    (((kilnIn svc 67 .parked).kiln 67).state = .parked ∧ svc.sys.mode ≠ .safe ∧ svc.sys.mode ≠ .erased ∧ svc.sys.mode ≠ .dormant) ∧
    (let s := kilnIn svc 0 .retired; s.kilnsIn .spare = [64, 65, 66, 67] ∧ s.activeKilns.length < Config.kilnsOffered) ∧
    (let s := kilnIn svc 67 .waking
     (s.kiln 67).state = .waking ∧ (s.bank (kilnBank 67)).fenced = false ∧
       ((s.modBank (kilnBank 67) fun b => { b with fenced := true }).bank (kilnBank 67)).fenced = true) ∧
    (let s := kilnIn svc 67 .inService; (s.kiln 67).state = .inService ∧ s.mayPark = true ∧ s.lastKiln 67 = false) ∧
    (let s := (kilnIn svc 67 .inService).modConeKiln 67 fun c => { c with overdue := true }
     (s.kiln 67).state = .inService ∧ s.mayMeasure 67 = true) ∧
    (let s := (kilnIn svc 67 .inService).modFw fun f => { f with glazeNext := some 9 }
     (s.loadLevel 67).isSome = true ∧ s.measuringKiln = none) ∧
    (let w := { stamped 0x0F01 0 with phase := .ready, placed := some 0, kiln := 67 }; let s := wareIn (kilnIn svc 67 .inService) w
     s.ware 5 = some w ∧ w.kiln = 67 ∧ w.placed ≠ none ∧ w.phase.queuedInKiln = true) ∧
    (let s := kilnIn svc 67 .draining; (s.kiln 67).state = .draining ∧ s.kilnEmpty 67 = true) ∧
    (let s := ((kilnIn svc 67 .inService).modConeKiln 67 fun c => { c with overdue := true }).modKiln 67 fun k => { k with retryMeasure := true }
     (s.kiln 67).retryMeasure = true ∧ (s.kiln 67).state = .inService ∧ s.mayMeasure 67 = true) ∧
    (let s := (kilnIn svc 67 .drained).modKiln 67 fun k => { k with drainFor := some .park }
     (s.kiln 67).state = .drained ∧ (s.kiln 67).drainFor = some .park) ∧
    (let s := (kilnIn svc 67 .drained).modKiln 67 fun k => { k with bankA := { valid := true, level := svc.fw.glazeLevel } }
     (s.kiln 67).state = .drained ∧ (s.kiln 67).drainFor = none ∧ s.sys.mode ≠ .safe ∧ s.sys.mode ≠ .erased ∧
       (s.kiln 67).holds s.fw.glazeLevel = true) ∧
    (let s := ((kilnIn svc 67 .drained).modKiln 67 fun k =>
        { k with drainFor := some .load, bankA := { valid := true, level := svc.fw.glazeLevel }, bankB := { valid := true, level := 9 } }).modFw
          fun f => { f with glazeNext := some 9 }
     (s.kiln 67).drainFor = some .load ∧ s.fw.glazeNext = some 9 ∧ (s.kiln 67).holds 9 = true ∧ (s.kiln 67).loading = none ∧
       (s.kiln 67).holds s.fw.glazeLevel = true) ∧
    (let s := (kilnIn svc 67 .withdrawn).modKiln 67 fun k => { k with drainFor := some .retire }
     (s.kiln 67).state = .withdrawn ∧ (s.kiln 67).drainFor = some .retire ∧ s.lastKiln 67 = false) ∧
    (let s := ((kilnIn svc 67 .drained).modKiln 67 fun k => { k with drainFor := some .load }).modFw fun f => { f with glazeNext := some 9 }
     (s.kiln 67).state = .drained ∧ (s.kiln 67).drainFor = some .load ∧ s.loadLevel 67 = some s.fw.glazeLevel ∧
       (s.kiln 67).loading = none ∧ ∀ g ∈ s.listedSaggars, (s.saggar g).busy = false) ∧
    (let s := (kilnIn svc 67 .drained).modKiln 67 fun k => { k with drainFor := some .load, loading := some true, loadFails := 1 }
     (s.kiln 67).drainFor = some .load ∧ s.loadLevel 67 = some s.fw.glazeLevel ∧ (s.kiln 67).loading = some true ∧ (s.kiln 67).loadFails ≠ 0 ∧
       ((s.modKiln 67 fun k => { k with loadFails := 0 }).kiln 67).loadFails = 0) ∧
    ((List.replicate 1088 (0 : BitVec 16)).length = 1088 ∧ (List.replicate 136 (0 : BitVec 16)).length = 136) := by
  and_intros <;> decide

theorem wit_KilnLossAndReset :
    (let s := (kilnIn svc 67 .withdrawn).modKiln 67 fun k => { k with blocked := true, bankA := { valid := true, level := svc.fw.glazeLevel } }
     State.resettable (s.kiln 67).state = true ∧ (s.kiln 67).blocked = true ∧ (s.kiln 67).state = .withdrawn ∧
       (s.bank (kilnBank 67)).fenced = false ∧ (s.kiln 67).bankA = { valid := true, level := s.fw.glazeLevel }) ∧
    ((svc.modBank (kilnBank 67) fun b => { b with fenced := true }).bank (kilnBank 67)).fenced = true ∧
    (let w := { stamped 0x0F01 0 with phase := .firing, placed := some 0, kiln := 67 }
     let s := wareIn ((kilnIn bound 67 .inService).modSaggar 7 fun g => { g with awaiting := [67] }) w
     s.ware 5 = some w ∧ s.mir.replay = [] ∧ w.kiln = 67 ∧ w.phase = .firing ∧ w.placed ≠ none ∧ 67 ∈ (s.saggar 7).awaiting ∧
       7 ∈ s.listedSaggars ∧ State.withdrawable (s.kiln 67).state = true ∧ ({ w with phase := .ready } : Ware).phase.queuedInKiln = true) := by
  and_intros <;> decide

/-- Sources 0 to 3 in the pool, one conditioned block short of a seed, a seed queued. -/
def pooled : State :=
  (svc.modEnt fun e => { e with sources := (List.range 4).map fun i => (i, { (State.reset.source i) with state := SrcState.pool }),
                                conditionerOk := true, ready := true, katDue := false, seeds := [zeros 48], arrivals := [(1, 68)] })

/-- 1,024 samples that alternate, which pass both tests, and 81 equal ones, which fail the first. -/
def passing : List Bool := (List.range 1024).map fun n => n % 2 == 0
def failing : List Bool := List.replicate 81 true

theorem wit_EntropySourcesAndSeeds :
    ((svc.source 15).state ≠ .retired ∧ healthFails svc.ent.rctC.toNat svc.ent.aptC.toNat failing = true ∧
      healthFails svc.ent.rctC.toNat svc.ent.aptC.toNat (failing.drop 1) = false) ∧
    ((svc.modSource 15 fun x => { x with state := .startup }).source 15).state = .startup ∧ passing.length = 1024 ∧
    healthFails svc.ent.rctC.toNat svc.ent.aptC.toNat passing = false ∧
    ((failing ++ passing.drop 81).length = 1024 ∧ healthFails svc.ent.rctC.toNat svc.ent.aptC.toNat (failing ++ passing.drop 81) = true) ∧
    ((svc.modSource 15 fun x => { x with state := .cooling }).source 15).state = .cooling ∧
    (pooled.ent.conditionerOk = true ∧ 4 ≤ pooled.inPool ∧ (pooled.bank 9).fenced = false ∧ pooled.sys.mode ≠ .dormant ∧
      pooled.ent.katDue = false ∧ (pooled.modEnt fun e => { e with katDue := true }).ent.katDue = true ∧
      (List.replicate 16 (passing.take 128)).length = 16 ∧
      (rawBits (allSources.filter fun i => (pooled.source i).state == .pool) (List.replicate 16 (passing.take 128))).isSome = true) ∧
    svc.ent.ready = false ∧
    (let s := drbgIn .exhausted 68 pooled
     s.ent.ready = true ∧ s.ent.seeds = [zeros 48] ∧ s.firstRequest = some (1, 68) ∧ s.sys.mode ≠ .boot ∧ s.cus.cer.step ≠ 3 ∧
       s.ent.waiting = []) ∧
    ((drbgIn .unseeded 68 pooled).drbg 68).state = .unseeded ∧
    (let s := drbgIn .ready 68 svc
     s.answers 0 = true ∧ s.isPf 0 = true ∧ s.ownerPf = 0 ∧ State.drbgLive (s.drbg 68) = true ∧ 68 < 69) := by
  and_intros <;> decide

/-- Mailbox 0 of the PF posted with a request. -/
def posting (code : Nat) (body : Bytes) : State :=
  svc.modBox 0 0 fun b => { b with state := .posted, data := request code body }

theorem wit_MailboxProtocol :
    (svc.answers 0 = true ∧ (svc.box 0 7).state = .idle) ∧
    (let s := posting 3 []; (s.box 0 0).state = .posted ∧ (s.box 0 0).running = none ∧ s.answers 0 = true) ∧
    (let s := serving .service 3 []; (s.box 0 0).state = .busy ∧ (s.box 0 0).running = some (request 3 []) ∧ reqCode (request 3 []) ≠ 0x0801) ∧
    (let s := ((serving .service 0x0801 (zeros 24)).modFw fun f => { f with staging := some (false, true) }).modBox 0 0 fun b => { b with acting := true }
     (s.box 0 0).state = .busy ∧ (s.box 0 0).running = some (request 0x0801 (zeros 24)) ∧ reqCode (request 0x0801 (zeros 24)) = 0x0801 ∧
       (s.box 0 0).acting = true ∧ s.fw.staging = some (false, true)) ∧
    (let s := posting 3 []
     s.kazkelRuns = true ∧ s.mbxRunning < 8 ∧ s.mbxNext = some 0 ∧ s.mbxChecks 0 (padTo 448 (s.box 0 0).data) = none) ∧
    (let s := posting 0x0704 []; s.mbxNext = some 0 ∧ (s.box 0 0).running = none ∧ s.mbxChecks 0 (padTo 448 (s.box 0 0).data) = some Mr.NO_LEVEL) ∧
    (let s := serving .service 3 []
     s.kazkelRuns = true ∧ (s.box 0 0).acting = false ∧ (s.mir.controls.any fun c => c.2 == .mailbox 0 0) = false) := by
  and_intros <;> decide

/-- What `Serving` and `Underway` ask, as a test. -/
def servingOk (m : Mode) (code : Nat) (body : Bytes) : Bool :=
  let s := serving m code body
  let r := request code body
  reqCode r == code && s.kazkelRuns && !s.fw.recovery && (cmdRow code).any fun row => (State.reqModes r row).contains s.sys.mode

theorem serving_of (m : Mode) (code : Nat) (body : Bytes) (h : servingOk m code body = true) :
    Serving (serving m code body) 0 0 code (request code body) := by
  simp only [servingOk, Bool.and_eq_true, beq_iff_eq, Bool.not_eq_true'] at h
  exact ⟨by decide, rfl, rfl, rfl, h.1.1.1, h.1.1.2, h.1.2, h.2⟩

/-- Mailbox 0 of the PF has begun to act on a request. -/
def underway (m : Mode) (code : Nat) (body : Bytes) : State := (serving m code body).modBox 0 0 fun b => { b with acting := true }

/-- What `Underway` asks, as a test. -/
def underwayOk (m : Mode) (code : Nat) (body : Bytes) : Bool :=
  reqCode (request code body) == code && (cmdRow code).isSome && (underway m code body).kazkelRuns

theorem underway_of (m : Mode) (code : Nat) (body : Bytes) (h : underwayOk m code body = true) :
    Underway (underway m code body) 0 0 code (request code body) := by
  simp only [underwayOk, Bool.and_eq_true, beq_iff_eq] at h
  exact ⟨by decide, rfl, rfl, h.1.1, h.1.2, h.2⟩

/-- Every command of the mailbox, in a mode that admits it, with a body of a length its row has. -/
def requests : List (Mode × Nat × Nat) :=
  [(.boot, 1, 8), (.safe, 2, 4), (.erased, 3, 0), (.ceremony, 0x0101, 4), (.drain, 0x0102, 4), (.service, 0x0103, 0), (.service, 0x0104, 4),
   (.service, 0x0105, 4), (.service, 0x0106, 4), (.safe, 0x0107, 4), (.service, 0x0201, 4), (.service, 0x0202, 8), (.service, 0x0203, 264),
   (.service, 0x0204, 12), (.service, 0x0205, 4), (.drain, 0x0206, 4), (.standby, 0x0207, 4), (.service, 0x0301, 16), (.service, 0x0302, 20),
   (.drain, 0x0303, 16), (.service, 0x0304, 4), (.service, 0x0305, 4), (.service, 0x0401, 72), (.service, 0x0402, 4), (.service, 0x0403, 4),
   (.service, 0x0404, 4), (.service, 0x0405, 4), (.service, 0x0406, 4)] ++
  [(.service, 0x0407, 4), (.service, 0x0408, 4), (.service, 0x0409, 4), (.safe, 0x0501, 4), (.ceremony, 0x0502, 4), (.service, 0x0503, 8),
   (.service, 0x0601, 0), (.service, 0x0602, 0), (.safe, 0x0603, 0), (.service, 0x0701, 4), (.service, 0x0702, 16), (.erased, 0x0703, 32),
   (.safe, 0x0704, 8), (.service, 0x0705, 4), (.safe, 0x0801, 24), (.service, 0x0802, 4), (.safe, 0x0803, 56), (.service, 0x0804, 4),
   (.erased, 0x0901, 24), (.service, 0x0902, 0), (.ceremony, 0x0903, 4), (.service, 0x0904, 24), (.service, 0x0905, 4), (.drain, 0x0A01, 4),
   (.erased, 0x0A02, 24), (.service, 0x0A03, 0)]

theorem wit_serving : (requests.all fun x => servingOk x.1 x.2.1 (zeros x.2.2) && underwayOk x.1 x.2.1 (zeros x.2.2)) = true := by decide

theorem wit_MailboxSessionAndFunctions :
    (servingOk .service 1 [1, 4, 0, 0, 0, 0, 0, 0] && servingOk .service 1 [9, 9, 0, 0, 0, 0, 0, 0]) = true ∧
    (let s := serving .service 1 [1, 4, 0, 0, 0, 0, 0, 0]; let p := [1, 4, 0, 0, 0, 0, 0, 0]
     max (byteAt p 0) s.runningImage.levelMin ≤ min (byteAt p 1) s.runningImage.levelMax) ∧
    (let s := serving .service 1 [9, 9, 0, 0, 0, 0, 0, 0]; let p := [9, 9, 0, 0, 0, 0, 0, 0]
     min (byteAt p 1) s.runningImage.levelMax < max (byteAt p 0) s.runningImage.levelMin) ∧
    (let s := serving .service 0x0101 [3, 0, 7, 0]
     s.fnBusy 3 = false ∧ (s.saggar 7).state ≠ .active ∧ (bound.modFn 3 fun f => f).fnBusy 0 = true ∧ open7.boundTo 7 3 < polMaxFunctions (open7.policyOf 7)) ∧
    svc.channelsFree ≠ [] ∧ (svc.lentTo 0).length < 8 ∧ byteAt (reqBody (request 0x0105 [31, 0, 0, 0])) 0 < 32 := by
  and_intros <;> decide

theorem wit_SaggarAndPolicyCommands :
    (servingOk .service 0x0203 (7 :: zeros 263) && servingOk .drain 0x0206 [1, 7, 0, 0] && underwayOk .service 0x0207 [7, 0, 0, 0]) = true ∧
    ((serving .service 0x0203 (7 :: zeros 263)).controlWaits 7 = false) ∧
    (open7.saggar 7).state = .active ∧ (svc.saggar 7).state ≠ .active ∧ open7.policyLimits 7 (zeros 256) = none ∧
    open7.policyLimits 7 (List.replicate 256 0xFF) = some Mr.LIMIT ∧ (zeros 256).length = 256 ∧ svc.mirrored = false ∧ svc.paired = false ∧
    (pairedAt .mirrored).mirrored = true ∧ (pairedAt .resync).paired = true ∧ (pairedAt .resync).continues 7 = false := by
  and_intros <;> decide

theorem wit_KeyCommandsByMailbox :
    (servingOk .service 0x0301 (7 :: zeros 15) && servingOk .service 0x0302 (7 :: zeros 19) && servingOk .service 0x0303 (7 :: zeros 15) &&
      servingOk .service 0x0304 [7, 0, 0, 0] && servingOk .service 0x0305 [7, 0, 0, 0]) = true ∧
    (open7.saggar 7).revoked.length < 1024 ∧ (open7.saggar 7).pol.bepochs.size = 1 ∧ (open7.saggar 7).busy = false ∧
    ((open7.modSaggar 7 fun g => { g with origs := [{ handle := 1, serial := 2, allocated := 0 }] }).saggar 7).enrolled 1 2 = true ∧
    (open7.saggar 7).enrolled 1 2 = false := by
  and_intros <;> decide

/-- Saggar 7 has key sets 5 and 6. -/
def ksets7 : State := open7.modSaggar 7 fun g => { g with ksetBase := 5, ksetCount := 2, baseK := 0, sizeK := 1 }

theorem wit_RoutingCommandsByMailbox :
    (let g := ksets7.saggar 7
     ¬ (g.ksetBase ≤ 4 ∧ 4 < g.ksetBase + g.ksetCount) ∧ ¬ (g.ksetBase ≤ 7 ∧ 7 < g.ksetBase + g.ksetCount) ∧ g.ksetBase ≤ 6 ∧
       6 < g.ksetBase + g.ksetCount ∧ g.inRange 1023 = true ∧ g.inRange 1024 = false) ∧
    (let s := serving .service 0x0402 (zeros 4); s.routing.busy = false ∧ (s.bank 8).fenced = false) ∧
    ((svc.modRouting fun u => { u with busy := true }).routing.busy = true) ∧
    ((underway .service 0x0403 (zeros 4)).segment 0).state ≠ .committing ∧
    (open7.granted 7 = false ∧ open7.segmentsOf 7 + 64 ≤ polSegQuota (open7.policyOf 7) ∧ polSegQuota (svc.policyOf 7) < svc.segmentsOf 7 + 1) ∧
    ((svc.modGrant 7 fun g => { g with saggar := some 7 }).grantOf 7 = some 7 ∧ (open7.grantOf 7) = none) := by
  and_intros <;> decide

theorem wit_KilnEntropyMarginAndImageCommands :
    (State.resettable ((kilnIn svc 67 .inService).kiln 67).state = true ∧ (svc.bank (kilnBank 67)).fenced = false) ∧
    ((svc.modSource 15 fun x => { x with state := .retired }).source 15).state = .retired ∧ (svc.source 15).state ≠ .retired ∧
    (svc.fw.staging = none ∧ svc.stageSlot true = some true ∧ (svc.slot true true).state ≠ .trial) ∧
    (let s := (underway .service 0x0801 (zeros 24)).modFw fun f => { f with staging := some (false, true) }
     s.fw.staging = some (false, true) ∧ s.fw.recovery = false ∧ s.stageVerdict false [] = Mr.IMAGE_FORMAT ∧ imageForm [] = false) ∧
    (let s := svc.setSlot false true { state := .authorised }
     let x := s.slot false true
     x.state = .authorised ∧ padTo 48 x.digest = zeros 48 ∧ (s.slot false (!true)).state ≠ .trial) ∧
    (svc.slot false true).state ≠ .authorised ∧ svc.fw.glazeNext = none ∧
    (let s := (svc.setSlot false true { state := .trial }).modFw fun f => { f with runningB := true }
     (s.slot false true).state = .trial ∧ s.fw.runningB = true) ∧ (svc.slot false true).state ≠ .trial := by
  and_intros <;> decide

/-- A ceremony of `kind` at `step`. -/
def cerAt (m : Mode) (kind step : Nat) (s : State) : State :=
  (s.modSys fun x => { x with mode := m }).modCer fun c => { c with number := 4, kind := kind, step := step, fromMode := modeCode .service }

/-- A well-formed record of a card-independent ceremony: KIND 6. -/
def record6 : Bytes := bytesWith 16 [(0, 6), (3, 1), (4, 16)]

theorem wit_CeremonyCommands :
    ((svc.cerRuns = false ∧ lcCeremonies svc.lcc.state = true ∧ svc.kindAdmitted 6 (crSag record6) = true ∧ crForm 6 0 record6 = true ∧
      crForm 6 0 [] = false ∧ svc.crSaggars record6 = false ∧ (open7.modSaggar 0 fun g => { g with state := .active }).crSaggars record6 = true) ∧
      (open7.modSaggar 0 fun g => { g with state := .active }).crConflict record6 = none ∧ crLength record6 ≤ record6.length) ∧
    2 ≤ (cerAt .ceremony 6 2 (underway .service 0x0901 (zeros 24))).cus.cer.step ∧
    (let s := cerAt .service 6 1 svc
     s.cus.cer.step = 1 ∧ s.inflight = 0 ∧ s.cus.cer.bootstrap = false ∧ s.cus.cer.aSet.combined = none) ∧
    (let s := cerAt .ceremony 6 4 svc; 2 ≤ s.cus.cer.step ∧ s.cus.cer.step ≤ 4) ∧
    (let s := cerAt .ceremony 6 3 svc; s.drbgRefuses controlDrbg = true ∧ s.cus.cer.step = 3) ∧
    (let s := serving .drain 0x0A01 [1, 0, 0, 0]
     s.drbgRefuses controlDrbg = true ∧ (s.box 0 0).running = some (request 0x0A01 [1, 0, 0, 0]) ∧
       reqCode (request 0x0A01 [1, 0, 0, 0]) = 0x0A01 ∧ (s.box 0 0).acting = false) ∧
    (let s := cerAt .ceremony 2 5 svc
     s.cerRuns = true ∧ s.sys.mode = .ceremony ∧ s.modeAfter ≠ .ceremony ∧ s.cus.cer.step = 5 ∧
       (s.mir.controls.any fun c => c.2 == .ceremony) = false ∧ s.paired = false) := by
  and_intros <;> decide

/-- Port `p` in CEREMONY with an exchange under way. -/
def cardAt (p : Nat) (x : Exchange) : State := (inMode .ceremony).modCusPort p fun c => { c with present := true, exch := x }

theorem wit_CustodianPorts :
    (svc.cusPort 1).present = false ∧ ((cardAt 1 .debounce).cusPort 1).exch = .debounce ∧ (svc.cusPort 1).exch = .none ∧
    (((cardAt 1 .identity).cusPort 1).exch ≠ .none ∧ ((cardAt 1 .identity).cusPort 1).exch ≠ .debounce) ∧
    (let a : Atr := { ta3 := some 16, tb3 := some 0x9F }
     (cardAt 1 .atr).sys.mode = .ceremony ∧ ((cardAt 1 .atr).cusPort 1).exch = .atr ∧ (∀ v, a.ta3 = some v → 16 ≤ v) ∧
       (∀ v, a.tb3 = some v → v / 16 ≤ 9) ∧ ∃ v, ({ a with ta3 := some 15 } : Atr).ta3 = some v ∧ v < 16) ∧ (cardAt 1 .identity).apduWaits 1 = true ∧
    ((cardAt 1 .select).cusPort 1).exch = .select := by
  refine ⟨by decide, by decide, by decide, by decide, ⟨by decide, by decide, ?_, ?_, ⟨15, rfl, by decide⟩⟩, by decide, by decide⟩
  · intro v h; cases h; decide
  · intro v h; cases h; decide

theorem wit_CustodianCards :
    ((cardAt 1 .identity).sys.mode = .ceremony ∧ ((cardAt 1 .identity).cusPort 1).exch = .identity) ∧
    ((cardAt 1 .deviceCert).cusPort 1).exch = .deviceCert ∧ ((cardAt 1 .authenticate).cusPort 1).exch = .authenticate ∧
    ((cardAt 1 (.release 1)).cusPort 1).exch = .release 1 ∧ ((cardAt 1 (.store 0)).cusPort 1).exch = .store 0 ∧
    (cerAt .ceremony 3 4 svc).setsLeft.contains 1 = true ∧
    (let s := (cardAt 1 (.store 0)).modCer fun c => { c with outputs := [{ custId := [], record := [] }] }; (s.cus.cer.outputs[0]?).isSome = true) := by
  and_intros <;> decide

/-- A paired module with a session, the mirror engine at work. -/
def linked (l : Link) : State :=
  ((pairedAt l).modMir fun m => { m with session := [1] }).modSaggar 0 fun g => { g with state := .active, slots := [(15, some {})] }

/-- An authorisation to pair with module 9 as the standby. -/
def authorised : State := svc.modMir fun m =>
  { m with auth := some { peer := 9, standbyRole := true }, link := .unpaired, lanes := 1, pairing := { step := 1 } }

theorem wit_MirrorLinkAndPairing :
    ((pairedAt .down).mirrorRuns = true ∧ (pairedAt .down).mir.link = .down) ∧
    (pairedAt .training).mir.link = .training ∧ (∃ u n, (drbgIn .ready controlDrbg (pairedAt .training)).controlBytes 32 = (u, some n)) ∧
    (∃ u, (drbgIn .exhausted controlDrbg (pairedAt .training)).controlBytes 32 = (u, none)) ∧
    (authorised.mir.link = .unpaired ∧ authorised.mir.auth ≠ none ∧ (authorised.modMir fun m => { m with lanes := 0 }).mir.lanes = 0) ∧
    ((pairedAt .securing).mirrorRuns = true ∧ (pairedAt .securing).mir.link = .securing ∧ (pairedAt .securing).mir.auth = none ∧
      (pairedAt .securing).mir.pair = some { peer := 9, slot1 := false, pk := [] }) ∧
    (authorised.mirrorRuns = true ∧ authorised.mir.link = .unpaired ∧ authorised.mir.pairing.step = 1 ∧ authorised.mir.lanes ≠ 0 ∧
      authorised.mir.auth = some { peer := 9, standbyRole := true } ∧ true ≠ false ∧ svc.fw.glazeLevel = authorised.fw.glazeLevel) ∧
    (let s := authorised.modMir fun m => { m with pairing := { step := 2 } }; s.mir.pairing.step = 2 ∧ s.mir.auth ≠ none) ∧
    (let s := authorised.modMir fun m => { m with pairing := { step := 3 }, auth := some { peer := 9, standbyRole := false } }
     s.mirrorRuns = true ∧ s.mir.pairing.step = 3) ∧
    (linked .resync).secured = true ∧ (linked .mirrored).mirrored = true ∧ servingOk .service 0x0601 [] = true ∧ (linked .resync).paired = true := by
  refine ⟨by decide, by decide, ⟨_, _, rfl⟩, ⟨_, rfl⟩, by decide, by decide, by decide, by decide, by decide, by decide, by decide, by decide, by decide⟩

theorem wit_DeltasAndResynchronisation :
    ((linked .mirrored).secured = true ∧ (linked .mirrored).mir.active = false ∧ 1 = (linked .mirrored).mir.fcountRx + 1 ∧
      1 = (linked .mirrored).mir.applied + 1 ∧ (linked .mirrored).mir.resyncFull = false) ∧
    (let s := (serving .service 0x0301 (7 :: zeros 15)).modMir fun m => { m with controls := [(4, .mailbox 0 0)] }
     s.mir.controls = [(4, .mailbox 0 0)] ∧ (s.box 0 0).running = some (request 0x0301 (7 :: zeros 15)) ∧
       s.continues (byteAt (reqBody (request 0x0301 (7 :: zeros 15))) 0) = false ∧ s.paired = false) ∧
    (let s := (linked .mirrored).modMir fun m => { m with active := true, dlog := [{ seq := 1, tag := none, deltas := [] }] }
     s.secured = true ∧ s.mirrored = true ∧ s.mir.active = true ∧ ∃ g ∈ s.mir.dlog, g.sent = false) ∧
    (let s := (linked .mirrored).modSaggar 7 fun g => { g with state := .active, cnonce := [1] }
     s.holdsSaggar 7 = true ∧ s.mir.active = false) ∧
    (let s := (drbgIn .ready controlDrbg (linked .mirrored)).modSaggar 7 fun g => { g with state := .active, cnonce := [1] }
     s.secured = true ∧ s.holdsSaggar 7 = true ∧ s.mir.active = false ∧
       (((s.modMir fun m => { m with fcountRx := m.fcountRx + 1 }).setRoster 7 {}).controlBytes 12).2.isSome = true) ∧
    (let s := svc.applyDelta (.replay 255 18446744073709551615 0 [] 0 0 true false [])
     (s.replayOf 255 18446744073709551615).map (·.complete) = some true) ∧
    ((linked .resync).mir.link = .resync ∧ (linked .resync).mir.resyncAsked = false ∧ (linked .resync).mir.resyncFull = false) := by
  and_intros <;> decide

theorem wit_WitnessAndFailOver :
    (linked .mirrored).witRuns = true ∧ svc.cus.cer.step ≠ 5 ∧ (inMode .standby).sys.mode = .standby ∧
    (svc.modMir fun m => { m with active := true }).mir.active = true ∧ svc.mir.active = false ∧ (linked .mirrored).mir.switchback = none ∧
    (svc.modMir fun m => { m with lease := true }).mir.lease = true ∧
    (let s := (linked .mirrored).modMir fun m => { m with switchback := some { mbx := 0 } }
     s.mir.switchback = some { mbx := 0 } ∧ s.changingWares = [] ∧ s.witRuns = true) ∧
    (let s := (wareIn (linked .mirrored) (firingOf 0x0410 4)).modMir fun m => { m with switchback := some { mbx := 0 } }
     s.changingWares ≠ []) ∧
    (let s := (linked .mirrored).modMir fun m => { m with switchback := some { mbx := 0, handedOver := true } }
     s.mir.switchback = some { mbx := 0, handedOver := true }) := by
  and_intros <;> decide

/-- Source `i` asserted. -/
def alarming (i : Nat) : State := svc.modTsource i fun x => { x with own := true }

theorem wit_TamperResponses :
    (svc.sys.mode ≠ .dormant ∧ (svc.tsource 24).fitted = true ∧ svc.alarmLive 24 = false ∧ svc.tmp.sources.length = 28 ∧
      trips (svc.loopOf 24) 24 14 251 = true ∧ trips (svc.loopOf 24) 24 14 250 = false ∧
      ¬ (11 ≤ 24 ∧ 24 ≤ 16)) ∧ ((svc.modTsource 1 fun x => { x with fitted := false }).tsource 1).fitted = false ∧ svc.sys.mode ∉ [.boot, .erased, .dormant, .safe] ∧
    ((alarming 24).alarmLive 24 = true ∧ (alarming 24).tmp.sources.length = 28) ∧
    ((alarming 25).alarmLive 25 = true ∧ ∀ j < 25, ((alarming 25).tsource j).detA = ((alarming 25).tsource j).detB) ∧
    (let s := svc.modTsource 24 fun x => { x with detB := true }; (s.tsource 24).detA ≠ (s.tsource 24).detB) ∧
    ((alarming 26).alarmLive 26 = true ∧ svc.alarmLive 26 = false) := by
  and_intros <;> decide

theorem wit_TamperBlockAndBackupDomain :
    (svc.answers 0 = true ∧ svc.isPf 0 = true ∧ svc.ownerPf = 0) ∧ (svc.tmp.sealed = false ∧ svc.tmp.sources.length = 28 ∧ svc.tmp.loops.length = 8) ∧
    (svc.modTmp fun x => { x with sealed := true }).tmp.sealed = true ∧
    (let e : Evidence := ⟨1, 0, 0, 0, 0, 0, 0, 0, 0, 0, 0⟩
     let s := svc.modTmp fun x => { x with last := 1, ring := [(0, some e)] }
     s.tmp.copied < s.tmp.last ∧ s.tmp.norFull = false ∧ mget none s.tmp.ring (s.tmp.copied % 512) = some e) ∧
    (let s := (inMode .dormant).modSys fun x => { x with backup := true }
     s.sys.backup = true ∧ (s.tsource 0).fitted = true ∧ 0 ∈ backupSources ∧ trips (s.loopOf 0) 0 1 0xFFFFFFFF = true ∧ s.alarmLive 0 = false) ∧
    (svc.modTmp fun x => { x with govern := 3 }).recoverable = true ∧ svc.recoverable = false ∧
    (svc.modSys fun x => { x with backup := false }).sys.backup = false := by
  and_intros <;> decide

theorem wit_FaultBanksAndReactions :
    (faultSev 15 0 ≠ 0 ∧ svc.bankLive 15 = true ∧ (svc.bank 15).distrusted = false) ∧
    (faultSev 99 4 = sevMajor ∧ (let s := (kilnIn svc 67 .inService).modBank 99 fun b => { b with react := mset (defaultOf 99 4) b.react 4 31 }
      s.bankLive 99 = true ∧ (s.bank 99).distrusted = false ∧ State.resettable (s.kiln 67).state = true ∧
        (reactionsOf (s.bank 99) 99 4).getLsbD reactBlock = true)) ∧
    (isBank 19 = true ∧ svc.bankLive 19 = true ∧ isKilnBank 19 = false ∧ svc.sys.mode ∉ [.boot, .erased]) ∧
    (isBank 99 = true ∧ svc.bankLive 99 = false) ∧
    (let s := svc.modFlt fun f => { f with parity := true }; s.flt.parity = true ∧ s.flt.grave = false ∧ s.tmp.govern < 2) := by
  and_intros <;> decide

/-- An event of stream 7. -/
def event7 (reserved : Bool) : Event := { stream := 7, source := 0, code := 0x0101, reserved := reserved }

/-- A record of it at global position 0. -/
def record7 : Rec := ⟨0, 0, 7, 0, 0x0101, 1, 0, 2, 0xFFFF, zeros 28, 0⟩

/-- The recorder with a coalescing window of stream 7. -/
def windowed (n : Nat) : State := svc.modLog fun l => { l with windows := [{ stream := 7, source := 0, code := 0x0101, folded := n }] }

theorem wit_RecordIntake :
    (257 ≤ 257 ∧ svc.sys.mode ≠ .dormant ∧ (svc.bank 13).fenced = false ∧ (event7 true).reserved = true ∧ svc.log.unsettled.length < 32768) ∧
    (svc.modBank 13 fun b => { b with fenced := true }).bank 13 = { (svc.bank 13) with fenced := true } ∧
    ({ stream := 7, source := 0, code := 0x0101, folded := 1 } ∈ (windowed 1).log.windows) ∧
    ((event7 false).reserved = false ∧ svc.log.windows.any (State.sameTriple (event7 false)) = false ∧ svc.log.windows.length < 512) ∧
    (svc.budgetOf (unitOf 0)).level ≠ 0 ∧
    ((windowed 0).log.windows.find? (State.sameTriple { stream := 7, source := 0, code := 0x0101 })).map (·.folded) = some 0 ∧
    ((windowed 5).log.windows.find? (State.sameTriple { stream := 7, source := 0, code := 0x0101 })).map (·.folded) = some 5 ∧
    svc.log.unsettled.length + (svc.log.buckets.filter fun e => e.2.dropped ≠ 0).length ≤ 32768 ∧
    (let s := svc.modLog fun l => { l with pacing := [(21, true)] }
     (s.log.pacing.find? fun e => e.1 = 21) = some (21, true)) := by
  and_intros <;> decide

theorem wit_RecordIntake_full :
    (let s := svc.modLog fun l => { l with unsettled := List.range 32768 }
     s.sys.mode ≠ .dormant ∧ (s.bank 13).fenced = false ∧ 32768 ≤ s.log.unsettled.length) := by
  exact ⟨by decide, by decide, by simp only [State.modLog, List.length_range, Nat.le_refl]⟩

/-- One record waits for stream 7, which has an open block. -/
def writing (budget : Int) : State := svc.modLog fun l =>
  { l with unsettled := [0], ring := [(0, some record7)], budget := budget, streams := [(7, { blocks := [{ index := 3, serial := 1, erases := 0, budget := 0, firstSeq := 1, used := 9 }] })] }

theorem wit_NorWriterAndLogCommands :
    (let s := writing 1
     s.norRuns = true ∧ s.nextRecord = some 0 ∧ s.recAt 0 = some record7 ∧ s.log.held = [] ∧ 0 < s.log.budget ∧ s.blockRoom 7 = true ∧
       (s.bank 13).distrusted = false) ∧
    (let s := writing 0; s.nextRecord = some 0 ∧ s.log.held = [] ∧ s.log.budget ≤ 0 ∧ s.freeOfBudget 0 = false) ∧
    ((writing 1).log.streams.map (·.1)).Nodup ∧ 7 ∈ (writing 1).log.streams.map (·.1) ∧
    (((writing 1).stream 7).blocks.getLast?).isSome = true ∧
    (let s := svc.modLog fun l => { l with flush := .fault 1 }; s.norRuns = true ∧ s.log.flush = .fault 1 ∧ s.flt.chipDue = false) ∧
    (let s := svc.modFlt fun f => { f with chipDue := true }; s.log.flush = .none ∧ s.flt.chipDue = true ∧ s.sys.mode ≠ .dormant ∧ s.tmp.halted = false) ∧
    (let s := (svc.modLog fun l => { l with flush := .power }).modSys fun m => { m with pwrfail := true }
     s.norRuns = true ∧ s.log.flush = .power ∧ s.sys.pwrfail = true) ∧
    (let s := svc.modLog fun l => { l with erasing := [(1023, 99999)] }
     (s.log.erasing.find? fun e => e.1 = 1023) = some (1023, 99999) ∧ s.norRuns = true ∧ s.log.flush ≠ .power ∧ 100000 ≤ 99999 + 1) ∧
    (servingOk .service 0x0704 (zeros 8) && servingOk .service 0x0703 (zeros 32)) = true := by
  and_intros <;> decide

theorem wit_ConesMeasurementAndPlans :
    kilnOn ((kilnIn svc 67 .inService).kiln 67).state = true ∧ svc.sys.mode ≠ .dormant ∧
    (kilnIn svc 3 .drained).otherDrained 67 = true ∧
    (let s := (kilnIn svc 67 .inService).modConeKiln 67 fun c => { c with due := true, overdue := true }
     ((s.kilnsIn .inService).find? fun k => (s.coneKiln k).due) = some 67 ∧ s.mayMeasure 67 = true) ∧
    (let s := (kilnIn svc 67 .drained).modKiln 67 fun k => { k with drainFor := some .measure }
     (s.kiln 67).state = .drained ∧ (s.kiln 67).drainFor = some .measure ∧ s.otherDrained 67 = false ∧ s.sys.mode ≠ .boot ∧
       s.sys.mode ≠ .dormant) ∧
    (let s := kilnIn svc 67 .measuring
     (s.kiln 67).state = .measuring ∧ Measured.ok ⟨some 24, 40, 0, true⟩ = true ∧ Measured.ok ⟨none, 0, 0, true⟩ = true ∧ planOf s.cone.floor ⟨some 24, 40, 0, true⟩ = some (16, 40, false) ∧ planOf s.cone.floor ⟨none, 0, 0, true⟩ = none ∧
       s.lastKiln 67 = false ∧ ({ s with kilns := (List.range 67).map fun k => (k, { state := .retired }) } : State).lastKiln 67 = true) ∧
    ([0, 0, 0, 0] : List (BitVec 16)).length = 4 := by
  and_intros <;> decide

/-- In BOOT before step 8. -/
def booting : State := (inMode .boot).modSys fun x => { x with bootStep := 7, fnsReady := false }

theorem wit_ResetsAndBoot :
    ((svc.modFw fun x => { x with warmDue := true }).warmReady 3 = true ∧
      (svc.modFw fun x => { x with warmDue := true, recovery := true }).warmReady 4 = true ∧
      (svc.modFlt fun x => { x with chipDue := true }).warmReady 5 = true ∧ svc.warmReady 5 = false) ∧
    (svc.tmp.halted = false ∧ svc.sys.mode ≠ .dormant) ∧ (svc.modTmp fun x => { x with halted := true }).tmp.halted = true ∧
    (svc.tmp.cellCopy = true ∧ ∀ i < 28, svc.alarmLive i = false) ∧
    (let t : Slots := { a := { state := .committed }, b := {} }
     t.a.state ≠ .trial ∧ t.b.state ≠ .trial ∧ t.a.state = .committed ∧ 0 ≤ t.a.svn) ∧
    (let t : Slots := { a := { state := .committed }, b := { state := .trial, attempts := 1 } }
     t.a.state ≠ .trial ∧ t.b.state = .trial ∧ t.b.attempts < 2 ∧ 0 ≤ t.b.svn) ∧
    (let t : Slots := { a := { state := .trial, attempts := 2 }, b := {} }; t.a.state = .trial ∧ 2 ≤ t.a.attempts) ∧
    (booting.sys.mode = .boot ∧ booting.sys.bootStep = 7 ∧ booting.tmp.halted = false ∧ booting.mir.pair.isSome = false ∧
      booting.sys.fnsReady = false) ∧
    svc.lcc.state = .field ∧ (svc.flt.grave = false ∧ svc.tmp.govern < 3 ∧ svc.tmp.latchResp < 3 ∧ svc.sys.hearthMade = false) ∧
    ((svc.saggar 0).state = .none ∧ (svc.modSaggar 0 fun g => { g with state := .active }).saggar 0 ≠ {}) ∧
    (svc.sys.pwrfail = false ∧ (svc.modSys fun m => { m with pwrfail := true }).sys.pwrfail = true) ∧
    (svc.modLog fun l => { l with stopped := true }).log.stopped = true := by
  and_intros <;> decide

/-- A device of one lifecycle state, its ledger saying so where one slot can. -/
def inState (l : LcState) (s : State) : State := s.modLcc fun x => { x with state := l }

theorem wit_LifecycleLedger :
    (LcState.testOpen ∈ lcRecorded ∧ (lcSelector .testOpen).isSome = true) ∧
    (let w := lcCodeword ((lcSelector .testOpen).getD 0); [w] ≠ [] ∧ lcDecode [w] = .testOpen) ∧
    lcOfSlot 0 = none ∧ lcDecode [0] = .invalid ∧ lcDecode [lcCodeword ((lcSelector .scrapped).getD 0)] = .scrapped := by
  and_intros <;> decide

/-- PERSONALISED in SAFE, about to enter FIELD. -/
def toField : State := inState .personalised (inMode .safe)

theorem wit_LifecycleTransitions :
    (svc.answers 0 = true ∧ svc.isPf 0 = true ∧ svc.ownerPf = 0) ∧
    (let s := inState .fieldService svc; 2 ≤ lcReach s.lcc.state ∧ 3 ≤ s.sys.bootStep ∧ s.tmp.halted = false ∧ s.sys.mode ≠ .dormant) ∧
    lcReach svc.lcc.state < 2 ∧ (svc.lcRefusal 0 { readBack := 0 }).isSome = true ∧
    (lcTarget 5 = some .fieldService ∧ lcAllowed .field .fieldService = true ∧ lcTarget 4 = some .field ∧
      lcAllowed .personalised .field = true) ∧
    (toField.lcModeOk = true ∧ toField.sys.pwrfail = false ∧
      toField.lcPrecondition toField.lcc.state .field { readBack := BitVec.allOnes 128 } = true) ∧
    (let x : LcFacts := { readBack := BitVec.allOnes 128 }
     toField.lcRefusal 4 x = none ∧ (lcSelector .field).isSome = true ∧ x.secondOk = true ∧ x.confirmed = true ∧ x.stopped = false) ∧
    ({ readBack := 0, stopped := true } : LcFacts).stopped = true ∧
    ((drbgIn .exhausted controlDrbg svc).controlBytes 32).2 = none ∧ ((drbgIn .ready controlDrbg svc).controlBytes 32).2.isSome = true ∧
    (servingOk .drain 0x0A01 [1, 0, 0, 0] && servingOk .erased 0x0A02 ([1] ++ zeros 7 ++ leBytes 4691 4 ++ zeros 12)) = true ∧
    (svc.modLcc fun l => { l with pending := true }).lcc.pending = true := by
  and_intros <;> decide

/-- Channel `c` lent to the PF and enabled, its state and descriptor. -/
def chanAt (c : Nat) (st : DmaState) (reading : Bool) (d : Bytes) : State :=
  svc.modChan c fun x => { x with lent := true, fn := 0, enable := true, state := st, reading := reading, desc := d }

/-- A descriptor: `n` bytes from host memory to host memory or, with `dst`, to an internal address. -/
def dmaDesc (n dst : Nat) : Bytes :=
  bytesWith 64 [(0, 1), (1, 4 * dst), (24, n), (28, 1), (36, n), (40, 1)]

theorem wit_DmaDescriptors :
    (let s := chanAt 31 .idle false []; s.answers 0 = true ∧ s.isPf 0 = true ∧ s.ownerPf = 0 ∧ s.dmaLive 31 = true ∧
      (s.chan 31).state = .idle ∧ (s.chan 31).reading = false ∧ (s.chan 31).pollUs ≠ 0) ∧
    ((svc.chan 8).lent = false ∧ svc.dmaLive 8 = false) ∧
    (let s := chanAt 8 .idle true []; s.dmaLive 8 = true ∧ (s.chan 8).reading = true ∧ dmaOwn (dmaDesc 4 0) = true ∧
      dmaFormOk (dmaDesc 4 0) = true ∧ dmaOwn (zeros 64) = false ∧ dmaFormOk [1] = false) ∧
    (let s := chanAt 31 .running false (dmaDesc 4 0)
     s.dmaLive 31 = true ∧ (s.chan 31).state = .running ∧ (s.chan 31).halfDone = false ∧ dmaSrcSpace (s.chan 31).desc = 0 ∧
       dmaTotal (s.chan 31).desc ≤ (zeros 4).length ∧ dmaDstSpace (s.chan 31).desc = 0) ∧
    (let s := chanAt 31 .running false (dmaDesc 4 1); let d := (s.chan 31).desc
     dmaFormOk d = true ∧ dmaDstSpace d = 1 ∧
       s.dmaReachesAll (s.chan 31).fn (dmaLines (dmaDst d) (dmaDstLines d) (dmaDstStride d)) (dmaDstLen d) = false) := by
  and_intros <;> decide

/-- The PF's saggar holds segment 0, LOCKED, and a descriptor writes into it. -/
def staged : State :=
  let s := (bound.modSegment 0 fun _ => { state := .locked, saggar := 7 })
  s.modChan 31 fun x => { x with lent := true, fn := 0, enable := true, state := .running, desc := (dmaDesc 4 1).set 19 0x40 }

theorem wit_DmaDescriptors_segment :
    (let d := (staged.chan 31).desc
     staged.dmaLive 31 = true ∧ dmaFormOk d = true ∧ dmaDstSpace d = 1 ∧ dmaDst d = 0x40000000 ∧
       staged.dmaReachesAll (staged.chan 31).fn (dmaLines (dmaDst d) (dmaDstLines d) (dmaDstStride d)) (dmaDstLen d) = true) := by
  and_intros <;> decide

/-- A device whose level reaches core debug, with saggar 7's segment 0 and a tweak key of it or none. -/
def debugging (tweak : Bool) : State :=
  (inState .fieldService (svc.modSegment 0 fun _ => { state := .locked, saggar := 7 })).modStore fun t =>
    { t with keys := if tweak then [(7, some [])] else [] }

theorem wit_DmaDescriptors_internal_source :
    (let s := fun key => (staged.modStore fun t => { t with keys := if key then [(7, some [])] else [] }).modChan 31 fun x =>
        { x with desc := (((dmaDesc 4 0).set 1 1).set 11 0x40) }
     let d := ((s true).chan 31).desc
     dmaSrcSpace d = 1 ∧ dmaDstSpace d = 0 ∧ dmaLines (dmaSrc d) (dmaSrcLines d) (dmaSrcStride d) = [0x40000000] ∧ dmaSrcLen d = 4 ∧
       (s true).dmaReachesAll 0 [0x40000000] 4 = true ∧ (∀ k < 4, (s true).tagPasses (0x40000000 + k) = true) ∧
       (s false).tagPasses 0x40000000 = false ∧ svc.dmaReachesAll 0 [0x40000000] 4 = false) := by
  and_intros <;> decide

theorem wit_DmaChannelCommandsComplete :
    (let s := chanAt 31 .idle false []
     s.answers 0 = true ∧ s.isPf 0 = true ∧ s.ownerPf = 0 ∧ s.dmaLive 31 = true ∧ (s.chan 31).state = .idle ∧ (s.chan 31).reading = false ∧
       (s.chan 31).lent = true ∧ (s.chan 31).pollUs ≠ 0) ∧
    (let s := chanAt 8 .idle true []
     s.dmaLive 8 = true ∧ (s.chan 8).lent = true ∧ (s.chan 8).reading = true ∧ dmaOwn (zeros 64) = false ∧ dmaOwn (dmaDesc 4 0) = true ∧
       dmaFormOk (dmaDesc 4 0) = true) ∧
    (let s := chanAt 31 .preempted false ((dmaDesc 4 0).set 0 3)
     s.dmaLive 31 = true ∧ (s.chan 31).lent = true ∧ State.dmaBusy (s.chan 31) = true ∧ dmaHalfIrq (s.chan 31).desc = true ∧
       (s.chan 31).halfDone = false) ∧
    svc.dmaLive 31 = false := by
  and_intros <;> decide

theorem wit_SmbusPort :
    svc.smbusLive = true ∧ State.reset.smbusLive = false ∧ svc.tmp.govern < 8 ∧ svc.lcc.ledger.length ≤ 64 ∧ (0xFF < 256 ∧ 0x17 < 0xFF) ∧
    (svc.modFlt fun f => { f with errOut := true }).flt.errOut = true ∧ (svc.tmp.alarm = 0 ∧ svc.flt.errOut = false) := by
  and_intros <;> decide

theorem wit_JtagAndFactoryModes :
    svc.jtagLevel = some 0 ∧ State.reset.jtagLevel = none ∧ (inState .personalised svc).jtagLevel = some 1 ∧
    (debugging true).jtagLevel = some 2 ∧ (inState .blank svc).jtagLevel = some 3 ∧
    (let s := debugging true
     s.kazkelReaches 0x40000000 false = true ∧ s.kazkelReaches 0x40000000 true = true ∧ s.heldAt 0x40000000 = true ∧
       s.tagPasses 0x40000000 = true ∧ State.takesWrite 0x40000000 = true) ∧
    (debugging false).tagPasses 0x40000000 = false ∧
    (State.inWindow 0x40000000 = true ∧ svc.heldAt 0 = false ∧ targetAt 0 ≠ Target.registers ∧ targetAt 0 ≠ Target.recorderRing) ∧
    (svc.kazkelReaches 17592186044415 true = false ∧ svc.kazkelReaches 17592186044415 false = false ∧ 17592186044415 < 2 ^ 44) ∧
    ((debugging true).regRead 0 0xFFFFC = none ∧ ((debugging true).regRead 0 0).isSome = true) ∧
    (let s := inState .testOpen svc; s.jtagLevel = some 3 ∧ s.lcc.factory = false) ∧
    ((1, 5) ∉ svc.lcc.breakpoints ∧ (1, 5) ∈ (svc.modLcc fun x => { x with breakpoints := [(1, 5)] }).lcc.breakpoints) := by
  and_intros <;> decide

theorem wit_RegisterReadsThatChangeState :
    (svc.answers 0 = true ∧ (svc.regRead 0 0x40010).isSome = true) ∧ (svc.answers 3 = true ∧ svc.regRead 3 0x40010 = none) ∧
    (let s := svc.modFn 3 fun f => { f with flr := true }; s.answers 3 = false ∧ (s.fn 3).flr = true ∧ s.present 3 = true) ∧
    (svc.answers 4 = false ∧ (svc.fn 4).flr = false) ∧ svc.isPf 0 = true ∧ svc.isPf 3 = false ∧ (svc.windowFn 0).isSome = true := by
  and_intros <;> decide

theorem wit_RegistersReadTheirFields :
    (svc.isPf 0 = true ∧ (svc.saggar 255).state = .none ∧ (bound.saggar 7).state ≠ .none ∧ ((kilnIn svc 67 .absent).kiln 67).state = .absent ∧
      (svc.kiln 67).state ≠ .absent ∧ isBank 99 = true) ∧
    (((serving .service 3 []).box 0 0).state = .busy ∧ (svc.box 0 7).state ≠ .posted ∧ (svc.box 0 7).state ≠ .busy) ∧
    split.windowFn 0 = none ∧
    (svc.isPf 3 = false ∧ (svc.fn 3).bound = none ∧ ((svc.modFn 3 fun f => { f with bound := some 255 }).fn 3).bound = some 255) := by
  and_intros <;> decide

theorem wit_RegisterWrites :
    svc.answers 1023 = false ∧ (svc.answers 0 = true ∧ svc.regRead 0 0xFFFFC = none) ∧
    (svc.isPf 0 = true ∧ svc.ownerPf = 0 ∧ (svc.regRead 0 0x4000).isSome = true ∧ svc.pfWrite 0 0x4000 0 = none ∧
      (svc.globalReg 0x4000 0).isSome = true ∧ (svc.regRead 0 0x60010).isSome = true ∧ svc.pfWrite 0 0x40010 0 = none ∧
      svc.globalReg 0x40010 0 = none) ∧
    (split.answers 512 = true ∧ split.isPf 512 = true ∧ split.ownerPf ≠ 512) ∧
    (svc.answers 3 = true ∧ svc.isPf 3 = false ∧ (svc.regRead 3 0x300C).isSome = true) ∧ (faultSev 19 0 ≠ 0 ∧ svc.bankLive 19 = true) ∧
    (let s := svc.modChan 31 fun x => { x with lent := true }; (s.chan 31).lent = true ∧ (s.chan 31).state = .disabled) ∧
    ((chanAt 31 .idle false []).chan 31).state ≠ .disabled ∧ ((svc.box 0 7).state = .idle ∧ ((serving .service 3 []).box 0 0).state ≠ .idle) := by
  and_intros <;> decide

theorem wit_StepTakesTheFrontCommand :
    ({ svc with pending := [.dispatch] }).pending = .dispatch :: [] ∧ svc.pending = [] ∧ svc.sys.backup = true ∧
    (svc.modSys fun m => { m with backup := false }).sys.backup = false := by
  and_intros <;> decide

theorem wit_EveryCommandCompletes : (Instr.flr 1023).wf = true ∧ (Instr.flr 1024).wf = false := by and_intros <;> decide

theorem wit_BootModes :
    (booting.sys.mode = .boot ∧ booting.sys.bootStep = 7 ∧ booting.tmp.halted = false ∧ booting.lcc.state = .field ∧
      booting.flt.paritySafe = false ∧ booting.cone.lastLost = false ∧
      booting.flt.grave = false ∧ booting.tmp.govern ≠ 2 ∧ booting.tmp.latchResp ≠ 2 ∧ (booting.loadMasters.saggar 0).state = .none) ∧
    (let s := booting.modSaggar 0 fun g => { g with state := .active }
     s.tmp.govern < 3 ∧ s.tmp.latchResp < 3 ∧ s.sys.hearthMade = false ∧ (s.loadMasters.saggar 0).state = .active) ∧
    ((booting.modCone fun c => { c with lastLost := true }).cone.lastLost = true ∧ (booting.modFlt fun f => { f with paritySafe := true }).flt.paritySafe = true) := by
  and_intros <;> decide

theorem wit_TransitionsThatExist :
    toField.lcRefusal 4 { readBack := BitVec.allOnes 128 } = none ∧ lcTarget 4 = some .field ∧ (lcSelector .field).isSome = true ∧
    (inState .scrapped svc).lcc.state = .scrapped ∧ (inState .returned svc).lcc.state = .returned := by
  and_intros <;> decide

theorem wit_DescriptorFormCheck :
    (let s := chanAt 31 .idle true []; s.dmaLive 31 = true ∧ (s.chan 31).reading = true ∧ byteAt (dmaDesc 4 0) 0 % 2 = 1) ∧
    dmaFormOk (dmaDesc 4 0) = true ∧ dmaFormOk ((dmaDesc 4 0).set 24 5) = false := by
  and_intros <;> decide

theorem wit_LedgerIsAppendOnly :
    (let s := { svc with pending := [.dispatch] }; ∃ t, step s = .next t) ∧
    ({ toField with pending := [.lifecycleTransition 0 4 false { readBack := BitVec.allOnes 128 }] }).pending ≠ [] := by
  exact ⟨⟨svc, rfl⟩, by decide⟩

theorem wit_LedgerNeverFills :
    (toField.lcc.ledger.length ≤ 52 ∧ lcDecode [lcCodeword ((lcSelector .testOpen).getD 0)] ≠ .invalid) ∧
    ∃ t, step svc = .next t := ⟨by decide, ⟨_, rfl⟩⟩

theorem wit_EraseHaltHolds :
    (let s := svc.modTmp fun x => { x with halted := true, govern := 4 }
     s.tmp.halted = true ∧ 4 ≤ s.tmp.govern ∧ (∀ facts rest, s.pending ≠ .powerOn facts :: rest) ∧
       (∀ rest, s.pending ≠ .mainRailLoss :: rest) ∧ ∃ t, step s = .next t) :=
  ⟨rfl, by decide, fun _ _ h => by simp [svc, State.modTmp, State.reset] at h, fun _ h => by simp [svc, State.modTmp, State.reset] at h,
    ⟨_, rfl⟩⟩

theorem wit_StagingStaysCanonical : Memory.wf svc.mem ∧ ∃ t, step svc = .next t := ⟨by decide, ⟨_, rfl⟩⟩

theorem wit_RollbackNeverFalls : ∃ t, step svc = .next t := ⟨_, rfl⟩

/-! ## The worked examples of the specification, and single rules -/

/-- The bytes given in hexadecimal by the worked examples. -/
def hex (l : List Nat) : Bytes := bytesOf l

/-- What the device emitted, newest first. -/
def outOf (c : Instr) (s : State) : List Out := (after c s).out

/-- Chapter 02, worked example: page 291 sets bit 35 of word 4 at FN_DPL_BMP0 + 0x20. -/
theorem test_dpl_bitmap_write_back :
    outOf (.dplBitmapReadDone 3 0) (svc.modFn 3 fun f =>
      { f with dpl := { f.dpl with enable := true, pages := 0x100000, bmp0 := 0x123450000 }, queue := [.log false 291], reading := true }) =
    [.hostWrite 3 0x123450020 (hex [0, 0, 0, 0, 8, 0, 0, 0])] := by decide

/-- Chapter 03, worked example: the descriptor of ware 0x3A07. -/
def translation : Bytes :=
  hex [0x03, 0x01, 0x02, 0x00, 0x21, 0x4A, 0x50, 0x00, 0x2E, 0x1F, 0, 0, 0, 0, 0, 0, 0x45, 0x23, 0x01, 0, 0, 0, 0, 0, 0, 0, 0, 0, 0, 0, 0, 0,
    0, 0, 0, 0, 0, 0, 0, 0, 0x46, 0x23, 0x01, 0, 0, 0, 0, 0, 0, 0, 0, 0, 0, 0, 0, 0, 0, 0, 0, 0, 0, 0, 0, 0,
    0x9C, 0x41, 0x07, 0xE2, 0x5B, 0xD3, 0x18, 0xA6] ++ zeros 56

theorem test_descriptor_fields :
    dCode translation = 0x0103 ∧ dOrdered translation = true ∧ dFlow translation = 0x04A21 ∧ dGroup translation = 5 ∧
    dReplay translation = 0x1F2E ∧ dKeyRef translation = 0x12345 ∧ flagsOk translation = true ∧ stepsOk translation = true ∧
    codeOk translation = true ∧ lengthsOk translation = true := by decide

theorem test_completion_record :
    completion 0x3A07 { desc := translation, gen := 2, result := hex [0x71, 0x0C, 0xE4, 0x9A, 0x2F, 0x86, 0xB5, 0x3D] } false true =
    hex [0x07, 0x3A, 0x02, 0x03, 0, 0, 0, 0, 0x2E, 0x1F, 0, 0, 0, 0, 0, 0, 0x71, 0x0C, 0xE4, 0x9A, 0x2F, 0x86, 0xB5, 0x3D, 0, 0, 0, 0, 0, 0, 0, 0] := by
  decide

/-- The record and the shadow of the same example, with VF 3 in place of VF 5. -/
theorem test_release_writes_record_and_shadow :
    let r : Ring := { enable := true, sqLog2 := 8, cqLog2 := 8, state := .running, cqBase := 0x4000120000, shadowEn := true,
                      shadow := 0x4000130000, sqHead := 0x18, cqHead := 0x40, cqTail := 0x40 }
    let w : Ware := { fn := 3, ring := 2, gen := 2, desc := translation, phase := .ended, status := 0x0201 }
    let s := (svc.modRing 3 2 fun _ => r).modFn 3 fun f => { f with gen := 2 }
    (outOf (.wareRelease 0x3A07 false) (s.setWare 0x3A07 (some w))).filter (fun o => match o with | .hostWrite .. => true | _ => false) =
    [.hostWrite 3 0x4000130000 (hex [0x18, 0, 0x41, 0, 1, 0, 0, 0]),
     .hostWrite 3 0x4000120800 (hex [0x07, 0x3A, 0x02, 0x03, 0x01, 0x02, 0, 0, 0x2E, 0x1F, 0, 0, 0, 0, 0, 0] ++ zeros 16)] := by decide

/-- Chapter 03: the doorbell of the same example, one past the ring's last slot, is out of range. -/
theorem test_doorbell_in_range :
    ((after (.sqDoorbell 0 0 15) ringing).ring 0 0).sqTail = 15 ∧ ((after (.sqDoorbell 0 0 16) ringing).ring 0 0).sqTail = 0 := by decide

/-- Chapter 06, worked example: PIN 1234 in format 0. -/
theorem test_pin_block_format_0 :
    xorBytes (hex [0x04, 0x12, 0x34, 0xFF, 0xFF, 0xFF, 0xFF, 0xFF]) (panField [4, 0, 0, 0, 0, 0, 1, 2, 3, 4, 5, 6, 7, 8, 9, 9]) =
      hex [0x04, 0x12, 0x34, 0xFE, 0xDC, 0xBA, 0x98, 0x76] ∧
    pinDigits 0 (hex [0x04, 0x12, 0x34, 0xFF, 0xFF, 0xFF, 0xFF, 0xFF]) = some [1, 2, 3, 4] ∧
    pinDigits 0 (hex [0x04, 0x12, 0x34, 0xFF, 0xFF, 0xFF, 0xFF, 0xF0]) = none := by decide

/-- Chapter 06, worked example: the offset 6214 on the natural PIN 3095. -/
theorem test_pin_offset : addDigits [3, 0, 9, 5] [6, 2, 1, 4] = [9, 2, 0, 9] ∧ subDigits [9, 2, 0, 9] [3, 0, 9, 5] = [6, 2, 1, 4] := by decide

/-- Chapter 06, worked example: the check digit of a token, and the bytes of mode 2. -/
theorem test_token_check_digit :
    luhnDigit [4, 0, 0, 0, 0, 0, 8, 0, 5, 2, 1, 7, 7, 8, 9] = 1 ∧ luhnDigit [4, 0, 0, 0, 0, 0, 1, 2, 3, 4, 5, 6, 7, 8, 9] = 9 ∧
    packDigits [4, 0, 0, 0, 0, 0, 8, 0, 5, 2, 1, 7, 7, 8, 9, 2] 10 = hex [0x40, 0, 0, 0x80, 0x52, 0x17, 0x78, 0x92, 0xFF, 0xFF] := by decide

/-- Chapter 07, worked graph: DUKPT to translation. -/
def graph : Bytes :=
  hex [0x01, 0x04, 0x21, 0x02, 0, 0, 0x50, 0, 0x01, 0x2A, 0, 0, 0, 0, 0, 0, 0x10, 0x0A, 0, 0, 0, 0, 0, 0, 0, 0, 0, 0, 0, 0, 0, 0,
    0, 0, 0, 0, 0, 0, 0, 0, 0x35, 0, 0, 0, 0, 0, 0, 0, 0, 0, 0, 0, 0x10, 0, 0x40, 0, 0, 0x12, 0x34, 0x56, 0x78, 0x99, 0xFF, 0xFF,
    0, 0, 0x20, 0, 0x40, 0, 0, 0, 0x6C] ++ zeros 55

/-- Its extension. -/
def graphExt : Bytes :=
  hex [0x01, 0x04, 0x02, 0, 0, 0, 0, 0x40, 0x04, 0x0A, 0x1C, 0, 0, 0, 0, 0, 0x03, 0x01, 0x01, 0, 0, 0, 0, 0x20, 0x07, 0x0A, 0x1C, 0, 0, 0, 0, 0,
    0, 0, 0, 0, 0, 0, 0, 0x02, 0, 0, 0, 0, 0x01, 0, 0, 0, 0, 0, 0, 0, 0, 0, 0, 0, 0x27, 0x0B, 0, 0, 0x04, 0x04, 0, 0] ++ zeros 16 ++
  hex [0x5E, 0x21, 0xC4, 0x90, 0x3B, 0x7A, 0x08, 0xF6, 0xD1, 0x4C, 0x92, 0xE7, 0x35, 0x0B, 0x8A, 0x6F,
    0xA7, 0x31, 0x0C, 0x55, 0xE2, 0x19, 0x40, 0xB3, 0, 0, 0, 0x29]

theorem test_graph_form :
    flagsOk graph = true ∧ stepsOk graph = true ∧ codeOk graph = true ∧ wareChangesState graph = false ∧ lengthsOk graph = true ∧
    ({ desc := graph, ext := graphExt } : Ware).allSteps.map (fun u => (u.code, seEmit u.entry, seOutEn u.entry, u.inp.length)) =
      [(0x0401, false, true, 28), (0x0103, true, false, 28)] ∧
    ({ desc := graph, ext := graphExt } : Ware).fields (({ desc := graph, ext := graphExt } : Ware).stepIn 1) = [.cell 0, .handle 0x0B27, .none] := by
  decide

/-- Chapter 07: the same graph is charged 70 + 40 cost units, with SET_COST_5 70 and SET_COST_3 40. -/
theorem test_graph_cost :
    (svc.modSetter fun t => { t with costs := State.glazeCosts }).costOf graph = 110 := by decide

/-- Chapter 08, worked example: TEMPLATE and the header of the blob. -/
theorem test_blob_header :
    let b := blobFields (hex [0x5A, 0x47, 1, 3, 2, 0, 0x10, 0, 0x27, 0x0B, 0, 0, 0x60, 0x11, 0x80, 0x40, 9, 0, 2, 0,
      0x8E, 0x4D, 0x21, 0xF0, 0x6B, 0x93, 0x0C, 0x57, 0xA4, 0x19, 0x7E, 0] ++ zeros 16)
    b.magicOk = true ∧ b.saggar = 3 ∧ b.bepoch = 2 ∧ b.matLen = 16 ∧ b.handle = 0x0B27 ∧ attrUsage b.attr = 0x60 ∧ attrMode b.attr = 1 ∧
    attrAlg b.attr = 1 ∧ attrSize b.attr = 128 ∧ attrExport b.attr = 1 ∧ attrGroups b.attr = 9 ∧ attrLc b.attr = 2 ∧ b.reservedOk = true := by
  decide

/-- Chapter 09, worked example: one free row; slot 1 gets NO_ROOM, DETAIL 5. -/
theorem test_cam_no_room :
    let s := svc.modSaggar 3 fun g => { g with ksetBase := 0x100, ksetCount := 64 }
    let slot0 := hex [1, 6, 0x40, 0, 0, 0xFF, 0xFF, 0xFF, 0, 1, 0, 0, 0, 0, 0, 0] ++ zeros 16
    let slot1 := hex [1, 8, 0x40, 0, 0, 0x12, 0xFF, 0xFF, 1, 1, 1, 0, 0, 0, 0, 0] ++ zeros 16
    (s.judgeSlots 0x412 { state := .committing, saggar := 3 } [(0, slot0), (1, slot1)] [] 1).map (fun e => (e.1, slice e.2 12 3)) =
      [(0, hex [0, 0, 0]), (1, hex [2, 5, 5])] := by decide

/-- The longest prefix wins, with its policy set: the same example had slot 1 been committed. -/
theorem test_route_longest_prefix :
    let row := fun (n : Nat) (e : Bytes) => ({ saggar := 3, segment := 0x412, slot := n, entry := e } : CamRow)
    let slot0 := hex [1, 6, 0x40, 0, 0, 0xFF, 0xFF, 0xFF, 0, 1, 0, 0, 0, 0, 0, 0] ++ zeros 16
    let slot1 := hex [1, 8, 0x40, 0, 0, 0x12, 0xFF, 0xFF, 1, 1, 1, 0, 0, 0, 0, 0] ++ zeros 16
    let rows := State.insertRow (row 1 slot1) (State.insertRow (row 0 slot0) [])
    ((svc.modRouting fun r => { r with rows := rows }).routeEntry 3 [4, 0, 0, 0, 0, 0, 1, 2, 3, 4, 5, 6, 7, 8, 9, 9]).map
      (fun e => (reKset e, rePset e)) = some (0x101, 1) := by decide

/-- Chapter 10, worked example: the group order that S must not equal. -/
theorem test_group_order :
    groupOrder 255 = leNat (hex ([0xED, 0xD3, 0xF5, 0x5C, 0x1A, 0x63, 0x12, 0x58, 0xD6, 0x9C, 0xF7, 0xA2, 0xDE, 0xF9, 0xDE, 0x14] ++
      List.replicate 15 0 ++ [0x10])) := by decide

/-- Chapter 12, worked example: FN_BIND of VF 5 to saggar 3 by the PF, through mailbox 2, at GEN 1. -/
def binding (room : Bool) : State :=
  (((svc.modHost fun h => { h with portA := { h.portA with numVfs := 5 } }).modFn 5 fun f => { f with gen := 1 }).modSaggar 3 fun g =>
    { g with state := .active, pol := { g.pol with wide := (zeros 128).set 12 1 } }).modRing 5 2 (fun r =>
      { r with state := if room then .disabled else .running }) |>.modBox 0 2 fun b =>
        { b with state := .busy, running := some (padTo 448 (hex [1, 1, 4, 0, 0x77, 0, 0, 0, 5, 0, 3, 0])) }

theorem test_fn_bind :
    (let t := after (.fnBind 0 2) (binding true)
     (t.box 0 2).data.take 12 = hex [1, 1, 4, 0, 0x77, 0, 0, 0, 5, 0, 2, 0] ∧ (t.fn 5).bound = some 3 ∧ (t.fn 5).gen = 2 ∧
       (t.box 0 2).state = .done) ∧
    (let t := after (.fnBind 0 2) (binding false)
     (t.box 0 2).data.take 8 = hex [1, 1, 0, 0, 0x77, 0, 4, 7] ∧ (t.fn 5).bound = none ∧ (t.fn 5).gen = 1) := by and_intros <;> decide

/-- Chapter 13, worked example: the shares of 0x53 with coefficient 0xCA. -/
theorem test_shares : shareByte [0x53, 0xCA] 1 = 0x99 ∧ shareByte [0x53, 0xCA] 2 = 0xDC ∧ interpolate [(1, 0x99), (2, 0xDC)] = 0x53 := by decide

/-- Chapter 15, worked example: the evidence entry of the cut loop. -/
theorem test_evidence_entry :
    evBody ⟨0x1C4, 0x6A1B2C3D * 32768 + 0x1F40, 4, 1, 3, 6, 0xFFFFFFFF, 3, 3, 0, 0⟩ =
    hex [0xC4, 1, 0, 0, 0x40, 0x9F, 0x1E, 0x96, 0x0D, 0x35, 0, 0, 4, 1, 3, 6, 0xFF, 0xFF, 0xFF, 0xFF, 3, 3, 0, 0, 0, 0, 0, 0] := by decide

/-- Chapter 15: the first assertion of source 4 writes it, and the device is ERASED. -/
theorem test_tamper_erase :
    let t := after (.tamperSourceAssert 4 false 1 0xFFFFFFFF) svc
    t.sys.mode = .erased ∧ t.tmp.govern = 3 ∧ t.keys.hearth = 3 ∧ (mget none t.tmp.ring 0).map (fun e => (e.source, e.cause, e.response)) =
      some (4, 1, 3) := by decide

/-- Chapter 16, worked example: FLT_44_REACT_4 reads 0x1F02_0207. -/
theorem test_fault_reaction_word :
    faultSev 44 4 = 2 ∧ (defaultOf 44 4).toNat = 7 ∧ (forcedOf 44 4).toNat = 2 ∧ (availOf 44 4).toNat = 0x1F := by decide

/-- Chapter 16: the occurrence sets the sticky bit and blocks the kiln; the clear takes only the bit. -/
theorem test_fault_occurrence :
    (let t := after (.faultSourceOccur 44 4 none) (kilnIn svc 12 .inService)
     (t.bank 44).sticky = 0x10 ∧ (t.kiln 12).blocked = true ∧ (t.kiln 12).state = .inService ∧ (t.bank 44).fenced = false) ∧
    (let t := after (.faultStickyClear 0 44 0x10) (svc.modBank 44 fun b => { b with sticky := 0x30 }); (t.bank 44).sticky = 0x20) := by
  and_intros <;> decide

/-- Chapter 17, worked example: bytes 16 to 31 of a coalesced record. -/
theorem test_record_bytes :
    slice (recBody ⟨0x200001A40, 0, 256, 0x1000, 0x0602, 35, 2, 3, 0xFFFF, hex [1, 2], 0⟩) 16 16 =
    hex [0, 1, 0, 0x10, 2, 6, 0x23, 0, 2, 3, 0xFF, 0xFF, 1, 2, 0, 0] := by decide

/-- Chapter 18, worked example: FMAX 1,725 MHz, VMIN 735 mV (code 17) with the default floor; then FMAX 1,600 MHz. -/
theorem test_kiln_plan :
    planOf State.reset.cone.floor ⟨some 21, 17, 0, true⟩ = some (16, 21, false) ∧
    (planOf State.reset.cone.floor ⟨some 16, 17, 0, true⟩).map (·.1) = some 14 := by decide

/-- Chapter 19, worked example: a WARM reset for a CHIP reaction keeps FLT_1_STICKY; a PIN reset clears it. -/
theorem test_warm_keeps_sticky :
    let s := (svc.modBank 1 fun b => { b with sticky := 1 }).modFlt fun f => { f with chipDue := true }
    ((after (.warmReset 5 {}) s).bank 1).sticky = 1 ∧ ((after (.pinReset {}) s).bank 1).sticky = 0 ∧
    (after (.warmReset 5 {}) s).sys.lastReset = 2 ∧ (after (.warmReset 5 {}) s).sys.mode = .boot := by and_intros <;> decide

/-- Chapter 20, worked example: the module's ledger. -/
def ledger20 : List (BitVec 128) :=
  [LcState.testOpen, .testSealed, .testOpen, .testSealed, .personalised, .field, .fieldService, .field, .fieldService, .field].map fun st =>
    lcCodeword ((lcSelector st).getD 0)

/-- The module in ERASED after ceremony 0x31, answer armed. -/
def service20 : State :=
  ((inMode .erased).modSys fun x => { x with rtc := 0x6A201A00 * 32768 }).modLcc fun l =>
    { l with ledger := ledger20, state := .field, purpose := 1 }

theorem test_lifecycle_ledger :
    lcDecode ledger20 = .field ∧ service20.fsUsed = 2 ∧ service20.testUsed = 2 ∧
    leBytes (lcCodeword 0x3333).toNat 16 = hex [0xF0, 0xF0, 0x0F, 0x0F, 0xF0, 0xF0, 0x0F, 0x0F, 0xF0, 0xF0, 0x0F, 0x0F, 0xF0, 0xF0, 0x0F, 0x0F] ∧
    lcDecode (ledger20 ++ [lcCodeword 0x3333]) = .fieldService ∧
    lcDecode (ledger20 ++ [lcCodeword 0x3333 &&& 0xFFFFFFFFFFFFFFFF]) = .invalid := by and_intros <;> decide

theorem test_lifecycle_challenge :
    let c := service20.challengeRecord 1 (zeros 32)
    c.take 8 = hex [0x5A, 0x56, 0x4C, 0x43, 1, 4, 5, 2] ∧ slice c 52 12 = hex [0, 0, 0, 0x0D, 0x10, 0x35, 0, 0, 0, 0, 0, 0] ∧ c.length = 64 := by
  and_intros <;> decide

/-- Chapter 20: LCC_STAT after the transition, as SMBus shows it. -/
theorem test_lcc_stat :
    outOf .smbLccStat (service20.modLcc fun l =>
      { l with pending := true, target := 5, outcome := 1, ledger := ledger20 ++ [lcCodeword 0x3333] }) = [.smbus (some 0x00B15404)] := by decide

/-- Chapter 21, worked example: the gather of 128 lines into segment 0x412. -/
def gather : Bytes :=
  hex [0x07, 0x04, 0x02, 0, 0, 0, 0, 0, 0, 0, 0x60, 0, 0x40, 0, 0, 0, 0, 0x20, 0x41, 0x40, 0, 0, 0, 0, 0x20, 0, 0, 0, 0x80, 0, 0, 0,
    0x40, 0, 0, 0, 0, 0x10, 0, 0, 1, 0, 0, 0, 0, 0, 0, 0] ++ zeros 16

theorem test_dma_descriptor_fields :
    dmaOwn gather = true ∧ dmaFormOk gather = true ∧ dmaSrcSpace gather = 0 ∧ dmaDstSpace gather = 1 ∧ dmaSrc gather = 0x4000600000 ∧
    dmaDst gather = 0x40412000 ∧ dmaTotal gather = 4096 ∧ segmentOf 0x40412000 = some 0x412 := by decide

/-- The half point writes byte 3 as 0x04 at slot 3, records DMA_HALF and raises PF vector 32 + 9. -/
theorem test_dma_half_point :
    let s := svc.modChan 9 fun c => { c with lent := true, fn := 0, enable := true, ring := 0x4000700000, index := 3, state := .running, desc := gather }
    Out.hostWrite 0 0x40007000C3 [4] ∈ outOf (.dmaHalfPoint 9) s ∧ (after (.dmaHalfPoint 9) s).fn 0 = { (s.fn 0) with
      pba := ((after (.dmaHalfPoint 9) s).fn 0).pba, irqCause := 0b00010 } ∧ ((after (.dmaHalfPoint 9) s).fn 0).pba.getLsbD 41 = true := by
  and_intros <;> decide

/-- The slot of a refused write: 06 04 02 32, BAD with CAUSE ACCESS. -/
theorem test_dma_access_refused :
    let s := svc.modChan 9 fun c => { c with lent := true, fn := 0, enable := true, ring := 0x4000700000, index := 3, state := .running, desc := gather }
    ((outOf (.dmaDescriptorComplete 9 (.done (zeros 4096))) s).any fun o => match o with
      | .hostWrite 0 a d => a == 0x40007000C0 && d.take 4 == hex [0x06, 0x04, 0x02, 0x32]
      | _ => false) = true ∧ ((after (.dmaDescriptorComplete 9 (.done (zeros 4096))) s).chan 9).lastCause = 3 := by
  and_intros <;> decide

/-- RFC 3720, B.4: 32 bytes of zeros give AA 36 91 8A, and 32 ascending bytes 4E 79 DD 46. -/
theorem test_crc32c : leBytes (crc32c (zeros 32)).toNat 4 = hex [0xAA, 0x36, 0x91, 0x8A] ∧
    leBytes (crc32c ((List.range 32).map byte)).toNat 4 = hex [0x4E, 0x79, 0xDD, 0x46] := by
  and_intros <;> decide


/-- Chapter 22, R513: TM_LOOP3_IN is entry 23, at (17, 52); R514: the counts of four supplies, the pins and the whole grid. -/
theorem test_ball_counts :
    ballAt 17 52 = .pin (.tmLoopIn 3) ∧
    (let count := fun p => ((List.range 54).map fun r => ballsInRow p (r + 1)).sum
     count (· == .vddStore) = 105 ∧ count (· == .vddCore) = 104 ∧ count (· == .vddPhy) = 64 ∧ count (· == .vddIo18) = 16 ∧
       count (fun b => match b with | .pin _ => true | _ => false) = 69 + 19 + 75) := by
  and_intros <;> decide

/-- The POWER_ON values that the register tables give in hexadecimal and that are not zero. -/
theorem test_reset_words :
    ([(0x18, 0x03E80040), (0x20, 1), (0x224, 1), (0x2024, 0x10000), (0x2028, 1), (0x4000, 0x40), (0x4004, 0x83004), (0x4010, 2), (0x5F80, 1),
      (0x20C08, 0x1410), (0x20C10, 0x40), (0x40020, 0x006403E8), (0x40024, 0x00040040), (0x70004, 5), (0x7001C, 0x03480051), (0x9000C, 8),
      (0xB0000, 1), (0xB000C, 0x1001), (0xC1F00, 0x00040A00), (0xD0004, 0x3E8)] : List (Nat × Word)).all
        (fun e => State.reset.regRead 0 e.1 == some e.2) = true := by decide

end Sys2Proof.Tests
end

section
/-! SUPPORT. Where an offset of a BAR lies (R53, R55): the block of the map that holds it, for reads and for what a read changes. -/

namespace Sys2Proof.Machine

/-- An offset lies in block `k` of a run exactly when it is the base of that block and an offset within it. -/
theorem blockAt_eq_some {base stride count o k x : Nat} (hs : 0 < stride) :
    blockAt base stride count o = some (k, x) ↔ k < count ∧ x < stride ∧ o = base + stride * k + x := by
  unfold blockAt
  constructor
  · intro h
    split at h
    case isTrue hr =>
      simp only [Option.some.injEq, Prod.mk.injEq] at h
      obtain ⟨rfl, rfl⟩ := h
      have hdm := Nat.div_add_mod (o - base) stride
      exact ⟨Nat.div_lt_of_lt_mul (by omega), Nat.mod_lt _ hs, by omega⟩
    case isFalse => cases h
  · rintro ⟨hk, hx, rfl⟩
    have hlt : stride * k + x < stride * count := by
      calc stride * k + x < stride * (k + 1) := by rw [Nat.mul_succ]; omega
        _ ≤ stride * count := Nat.mul_le_mul_left _ hk
    rw [if_pos ⟨by omega, by omega⟩, Nat.add_assoc, Nat.add_sub_cancel_left, Nat.mul_add_div hs, Nat.div_eq_of_lt hx, Nat.mul_add_mod,
      Nat.mod_eq_of_lt hx, Nat.add_zero]

theorem blockAt_eq_none {base stride count o : Nat} (h : o < base ∨ base + stride * count ≤ o) : blockAt base stride count o = none :=
  if_neg (by omega)

namespace State

/-! ## The blocks of a PF's BAR0 (R53) -/

section
variable {s : State} {i o q k x : Nat} (hp : s.isPf i = true)
include hp

/-- Between the host port's block and the setter's a PF's BAR0 holds the PF's own blocks only. -/
theorem regRead_pf_own (h : 0x100 ≤ o) (h' : o < 0x4000) : s.regRead i o = s.readPfOwn i o := by
  have hg : s.readGlobal o = none := by rw [readGlobal, if_neg (by omega), if_pos h']
  rw [regRead, if_pos hp, hg, Option.or_none]

/-- Away from a PF's own blocks its BAR0 shows the device registers. -/
theorem regRead_pf_global (h : o < 0x100 ∨ 0x244 ≤ o ∧ o < 0x1000 ∨ 0x3000 ≤ o ∧ o < 0xF0000 ∨ 0xF1020 ≤ o) :
    s.regRead i o = s.readGlobal o := by
  have hown : s.readPfOwn i o = none := by
    rw [readPfOwn, if_neg (by omega), if_neg (by omega), blockAt_eq_none (by omega), blockAt_eq_none (by omega),
      blockAt_eq_none (by omega), blockAt_eq_none (by omega), blockAt_eq_none (by omega)]
  rw [regRead, if_pos hp, hown, Option.none_or]

/-- Between the setter's block and the MSI-X table a PF's BAR0 holds device registers only. -/
theorem regRead_pf_device (h : 0x3000 ≤ o ∧ o < 0xF0000) : s.regRead i o = s.readGlobal o := regRead_pf_global hp (.inr (.inr (.inl h)))

theorem regRead_pf_window (h : 0x200 ≤ o) (h' : o < 0x244) :
    s.regRead i o = (s.windowFn i).bind fun w => if o < 0x220 then s.readFn w (o - 0x200) else readDpl (s.fn w).dpl o := by
  rw [regRead_pf_own hp (by omega) (by omega), readPfOwn, if_neg (by omega), if_pos ⟨h, h'⟩]

theorem regRead_pf_box (hk : k < 8) (hx : x < 0x200) (ho : o = 0x1000 + 0x200 * k + x) : s.regRead i o = s.readBox i k x := by
  rw [regRead_pf_own hp (by omega) (by omega), readPfOwn, if_neg (by omega), if_neg (by omega),
    (blockAt_eq_some (by decide)).2 ⟨hk, hx, ho⟩]

theorem regRead_pf_ring (hq : q < 8) (hx : x < 0x100) (ho : o = 0x2000 + 0x100 * q + x) : s.regRead i o = s.readRing i q x := by
  rw [regRead_pf_own hp (by omega) (by omega), readPfOwn, if_neg (by omega), if_neg (by omega), blockAt_eq_none (by omega),
    (blockAt_eq_some (by decide)).2 ⟨hq, hx, ho⟩]

theorem regRead_pf_doorbell (hq : q < 8) (hx : x < 0x100) (ho : o = 0x2800 + 0x100 * q + x) : s.regRead i o = readDoorbell x := by
  rw [regRead_pf_own hp (by omega) (by omega), readPfOwn, if_neg (by omega), if_neg (by omega), blockAt_eq_none (by omega),
    blockAt_eq_none (by omega), (blockAt_eq_some (by decide)).2 ⟨hq, hx, ho⟩]

end

/-! ## The blocks of a VF's BAR0 (R55) -/

section
variable {s : State} {i o q e x : Nat} (hv : s.isPf i = false)
include hv

theorem regRead_vf_eq : s.regRead i o = s.readVf i o := by rw [regRead, if_neg (by simp [hv])]

theorem regRead_vf_ring (hq : q < 8) (hx : x < 0x100) (ho : o = 0x100 * q + x) : s.regRead i o = s.readRing i q x := by
  rw [regRead_vf_eq hv, readVf, (blockAt_eq_some (by decide)).2 ⟨hq, hx, by omega⟩]

theorem regRead_vf_doorbell (hq : q < 8) (hx : x < 0x100) (ho : o = 0x800 + 0x100 * q + x) : s.regRead i o = readDoorbell x := by
  rw [regRead_vf_eq hv, readVf, blockAt_eq_none (by omega), (blockAt_eq_some (by decide)).2 ⟨hq, hx, ho⟩]

theorem regRead_vf_box (hx : x < 0x200) (ho : o = 0x1000 + x) : s.regRead i o = s.readBox i 0 x := by
  rw [regRead_vf_eq hv, readVf, blockAt_eq_none (by omega), blockAt_eq_none (by omega),
    (blockAt_eq_some (by decide)).2 ⟨Nat.one_pos, hx, by omega⟩]

theorem regRead_vf_msix (he : e < 16) (hx : x < 0x10) (ho : o = 0x2000 + 0x10 * e + x) : s.regRead i o = s.readMsix i e x := by
  rw [regRead_vf_eq hv, readVf, blockAt_eq_none (by omega), blockAt_eq_none (by omega), blockAt_eq_none (by omega),
    (blockAt_eq_some (by decide)).2 ⟨he, hx, ho⟩]

theorem regRead_vf_fn (ho : o = 0x3000 + x) : s.regRead i o = s.readFn i x := by
  subst ho
  rw [regRead_vf_eq hv, readVf, blockAt_eq_none (by omega), blockAt_eq_none (by omega), blockAt_eq_none (by omega),
    blockAt_eq_none (by omega), blockAt_eq_none (by omega)]
  simp only [if_pos (Nat.le_add_right 0x3000 x), Nat.add_sub_cancel_left]

/-- A VF's BAR0 ends with FN_IRQ_CAUSE. -/
theorem regRead_vf_past_end (h : 0x301C ≤ o) : s.regRead i o = none := by
  rw [regRead_vf_fn hv (x := o - 0x3000) (by omega)]
  unfold readFn
  split
  iterate 7 omega
  rfl

end

/-! ## The blocks of the device registers (R53) -/

section
variable {s : State} {o k x : Nat}

theorem readGlobal_setter (h : 0x4000 ≤ o) (h' : o < 0x10000) : s.readGlobal o = s.readSetter o := by
  rw [readGlobal, if_neg (by omega), if_neg (by omega), if_pos h']

theorem readGlobal_kiln (hk : k < 68) (hx : x < 0x400) (ho : o = 0x10000 + 0x400 * k + x) : s.readGlobal o = s.readKiln k x := by
  rw [readGlobal, if_neg (by omega), if_neg (by omega), if_neg (by omega), if_pos (by omega),
    (blockAt_eq_some (by decide)).2 ⟨hk, hx, ho⟩]
  rfl

theorem readGlobal_faults (h : 0x50000 ≤ o) (h' : o < 0x60000) : s.readGlobal o = s.readFaults o := by
  unfold readGlobal
  iterate 6 rw [if_neg (by omega)]
  rw [if_pos h']

/-- The device registers end below a PF's MSI-X table. -/
theorem readGlobal_past_end (h : 0xE0000 ≤ o) : s.readGlobal o = none := by
  unfold readGlobal
  iterate 15 rw [if_neg (by omega)]

theorem readGlobal_dma (hk : k < 32) (hx : x < 0x100) (ho : o = 0xC0000 + 0x100 * k + x) : s.readGlobal o = s.readDmaReg k x := by
  unfold readGlobal
  iterate 13 rw [if_neg (by omega)]
  rw [if_pos (by omega), (blockAt_eq_some (by decide)).2 ⟨hk, hx, ho⟩]
  rfl

/-- A saggar's setter block stands apart from every other register of the setter. -/
theorem readSetter_saggar (hk : k < 256) (hx : x < 0x40) (ho : o = 0x9000 + 0x40 * k + x) : s.readSetter o = s.readSetSag k x := by
  unfold readSetter
  split
  iterate 6 omega
  rw [blockAt_eq_none (by omega), blockAt_eq_none (by omega), blockAt_eq_none (by omega), blockAt_eq_none (by omega),
    (blockAt_eq_some (by decide)).2 ⟨hk, hx, ho⟩]

theorem readSetter_group (hk : k < 64) (hx : x < 0x80) (ho : o = 0x5000 + 0x80 * k + x) : s.readSetter o = s.readGroup k x := by
  unfold readSetter
  split
  iterate 6 omega
  rw [blockAt_eq_none (by omega), blockAt_eq_none (by omega), (blockAt_eq_some (by decide)).2 ⟨hk, hx, ho⟩]

theorem readFaults_bank (hk : k < 100) (hx : x < 0x200) (ho : o = 0x50000 + 0x200 * k + x) : s.readFaults o = s.readBank k x := by
  unfold readFaults
  split
  iterate 2 omega
  rw [(blockAt_eq_some (by decide)).2 ⟨hk, hx, ho⟩]

end

end State

end Sys2Proof.Machine
end

section
/-! SUPPORT. The commands that read a register, what such a read changes (R10, R480), and O44. -/

namespace Sys2Proof.Machine

/-! ## The commands -/

theorem exec_rcRegisterRead {i : Nat} (hi : i < 1024) (o : Nat) (s : State) : exec (.rcRegisterRead i o) s = .next (s.barRead i o) :=
  congrArg Host.Outcome.next (if_pos (decide_eq_true hi))

theorem exec_rtcLoRead {i : Nat} (hi : i < 1024) (s : State) : exec (.rtcLoRead i) s = .next (s.barRead i 0xB0024) :=
  congrArg Host.Outcome.next (if_pos (decide_eq_true hi))

theorem exec_barUnmappedAccess_read {i : Nat} (hi : i < 1024) (o : Nat) (s : State) :
    exec (.barUnmappedAccess i true o) s = .next (s.barRead i o) :=
  congrArg Host.Outcome.next (if_pos (decide_eq_true hi))

namespace State

/-! ## A read by a function that answers, that is in an FLR, or that is silent (R10, R59, R69) -/

section
variable {s : State} {i o : Nat}

theorem barRead_mapped {v : Word} (ha : s.answers i = true) (hr : s.regRead i o = some v) :
    s.barRead i o = (s.rcRead i o).emit (.barRead i o v) := by
  rw [barRead, ha, hr]; rfl

theorem barRead_unmapped (ha : s.answers i = true) (hr : s.regRead i o = none) :
    s.barRead i o = (s.violation i violUnmapped).emit (.barRead i o 0) := by
  rw [barRead, ha, hr, refusedAccess, if_pos ha]; rfl

theorem barRead_of_silent (ha : s.answers i = false) :
    s.barRead i o = when_ ((s.fn i).flr && s.present i) (fun s => s.barAnswer i o 0) s := by
  rw [barRead, ha, refusedAccess, if_neg (by simp [ha]), Bool.true_and]

end

/-! ## What a read changes -/

/-- The RC registers among the device registers that stand alone: those that are no block's of a run. -/
def rcOffsets : List Nat :=
  [0x40010, 0x40014, 0x60028, 0x70014, 0x70018, 0x9001C, 0x90104, 0x90108, 0xBE024, 0xD0020, 0xD0024, 0xD0028, 0xD2010, 0xD2014,
    0xD2018, 0xD201C, 0xD2020, 0xD2024]

section
variable {s : State} {i o q k c n rings boxes : Nat}

/-- The RC registers of a function's own blocks are RING_q_DROPPED and MBX_k_DROPPED. -/
theorem rcOwn_eq_none (hq : ∀ q < 8, o ≠ rings + 0x100 * q + 0x34) (hk : ∀ k < n, o ≠ boxes + 0x200 * k + 0x00C) :
    s.rcOwn i rings boxes n o = none := by
  unfold rcOwn
  split
  case h_1 q h => obtain ⟨hlt, -, ho⟩ := (blockAt_eq_some (by decide)).1 h; exact absurd ho (hq q hlt)
  case h_2 k h _ => obtain ⟨hlt, -, ho⟩ := (blockAt_eq_some (by decide)).1 h; exact absurd ho (hk k hlt)
  case h_3 => rfl

theorem rcOwn_ring (hq : q < 8) (ho : o = rings + 0x100 * q + 0x34) :
    s.rcOwn i rings boxes n o = some (s.modRing i q fun r => { r with dropped := 0 }) := by
  rw [rcOwn, (blockAt_eq_some (by decide)).2 ⟨hq, by decide, ho⟩]
  rfl

theorem rcOwn_box (hr : o < rings ∨ rings + 0x800 ≤ o) (hk : k < n) (ho : o = boxes + 0x200 * k + 0x00C) :
    s.rcOwn i rings boxes n o = some (s.modBox i k fun b => { b with dropped := 0 }) := by
  rw [rcOwn, blockAt_eq_none (by omega), (blockAt_eq_some (by decide)).2 ⟨hk, by decide, ho⟩]
  rfl

/-- A read of a device register that is neither RC nor CLK_RTC_LO changes nothing. -/
theorem rcGlobal_of_unlisted (h : o ∉ rcOffsets) (hrtc : o ≠ 0xB0024) (hg : ∀ g < 256, o ≠ 0x9018 + 0x40 * g)
    (hc : ∀ c < 32, o ≠ 0xC001C + 0x100 * c) : s.rcGlobal o = s := by
  unfold rcGlobal
  split
  case h_9 => exact absurd rfl hrtc
  case h_20 =>
    split
    case h_1 g hb => obtain ⟨hlt, -, ho⟩ := (blockAt_eq_some (by decide)).1 hb; exact absurd (by omega) (hg g hlt)
    case h_2 c hb _ => obtain ⟨hlt, -, ho⟩ := (blockAt_eq_some (by decide)).1 hb; exact absurd (by omega) (hc c hlt)
    case h_3 => rfl
  all_goals exact absurd (by decide) h

theorem rcGlobal_channel (hc : c < 32) (ho : o = 0xC001C + 0x100 * c) : s.rcGlobal o = s.modChan c fun x => { x with bad := 0 } := by
  unfold rcGlobal
  split
  iterate 19 omega
  rw [blockAt_eq_none (by omega), (blockAt_eq_some (by decide)).2 ⟨hc, (by decide : 0x1C < 0x100), by omega⟩]
  rfl

theorem isPf_rcGlobal : (s.rcGlobal o).isPf i = s.isPf i := by
  have hhost : (s.rcGlobal o).host = s.host := by
    unfold rcGlobal
    split
    case h_20 =>
      split
      case h_1 => unfold when_; split <;> rfl
      all_goals rfl
    all_goals rfl
  rw [isPf, isPf, hhost]

/-! ### By a PF -/

section
variable (hp : s.isPf i = true)
include hp

theorem rcRead_pf (ho : o ≠ 0x208) : s.rcRead i o = (s.rcOwn i 0x2000 0x1000 8 o).getD (s.rcGlobal o) := by
  rw [rcRead, if_pos hp, if_neg ho]

theorem rcRead_pf_global (h : 0x3000 ≤ o) : s.rcRead i o = s.rcGlobal o := by
  rw [rcRead_pf hp (by omega), rcOwn_eq_none (by omega) (by omega), Option.getD_none]

theorem rcRead_pf_ring (hq : q < 8) : s.rcRead i (0x2034 + 0x100 * q) = s.modRing i q fun r => { r with dropped := 0 } := by
  rw [rcRead_pf hp (by omega), rcOwn_ring hq (by omega), Option.getD_some]

theorem rcRead_pf_box (hk : k < 8) : s.rcRead i (0x100C + 0x200 * k) = s.modBox i k fun b => { b with dropped := 0 } := by
  rw [rcRead_pf hp (by omega), rcOwn_box (by omega) hk (by omega), Option.getD_some]

theorem rcRead_pf_stale {w : Nat} (hw : s.windowFn i = some w) : s.rcRead i 0x208 = s.modFn w fun f => { f with staleCnt := 0 } := by
  rw [rcRead, if_pos hp, if_pos rfl, hw]; rfl

theorem rcRead_pf_of_unlisted (h : o ∉ rcOffsets) (hst : o ≠ 0x208) (hrtc : o ≠ 0xB0024) (hq : ∀ q < 8, o ≠ 0x2034 + 0x100 * q)
    (hk : ∀ k < 8, o ≠ 0x100C + 0x200 * k) (hg : ∀ g < 256, o ≠ 0x9018 + 0x40 * g) (hc : ∀ c < 32, o ≠ 0xC001C + 0x100 * c) :
    s.rcRead i o = s := by
  have hring : ∀ q < 8, o ≠ 0x2000 + 0x100 * q + 0x34 := fun q h8 he => hq q h8 (by omega)
  have hbox : ∀ k < 8, o ≠ 0x1000 + 0x200 * k + 0x00C := fun k h8 he => hk k h8 (by omega)
  rw [rcRead_pf hp hst, rcOwn_eq_none hring hbox, Option.getD_none, rcGlobal_of_unlisted h hrtc hg hc]

/-- What a second read of a device register finds. -/
theorem regRead_rcRead_pf (h : 0x3000 ≤ o) (h' : o < 0xF0000) : (s.rcRead i o).regRead i o = (s.rcGlobal o).readGlobal o := by
  rw [rcRead_pf_global hp h, regRead_pf_global (isPf_rcGlobal.trans hp) (by omega)]

/-- An RC register reads zero once it has been read. -/
theorem regRead_rcRead_rcOffsets : ∀ o ∈ rcOffsets, (s.rcRead i o).regRead i o = some 0 := by
  have hzero : ∀ o ∈ rcOffsets, (s.rcGlobal o).readGlobal o = some 0 := by
    simp only [rcOffsets, List.forall_mem_cons]
    and_intros
    iterate 18 rfl
    exact List.forall_mem_nil _
  have hrange : ∀ o ∈ rcOffsets, 0x3000 ≤ o ∧ o < 0xF0000 := by decide
  intro o ho
  rw [regRead_rcRead_pf hp (hrange o ho).1 (hrange o ho).2, hzero o ho]

end

/-! ### By a VF -/

section
variable (hv : s.isPf i = false)
include hv

theorem rcRead_vf (ho : o ≠ 0x3008) : s.rcRead i o = (s.rcOwn i 0 0x1000 1 o).getD s := by
  rw [rcRead, if_neg (by simp [hv]), if_neg ho]

theorem rcRead_vf_stale : s.rcRead i 0x3008 = s.modFn i fun f => { f with staleCnt := 0 } := by
  rw [rcRead, if_neg (by simp [hv]), if_pos rfl]; rfl

theorem rcRead_vf_ring (hq : q < 8) : s.rcRead i (0x34 + 0x100 * q) = s.modRing i q fun r => { r with dropped := 0 } := by
  rw [rcRead_vf hv (by omega), rcOwn_ring hq (by omega), Option.getD_some]

theorem rcRead_vf_box : s.rcRead i 0x100C = s.modBox i 0 fun b => { b with dropped := 0 } := by
  rw [rcRead_vf hv (by decide), rcOwn_box (by decide) Nat.one_pos rfl, Option.getD_some]

end

end

/-- TMP_INTEG holds its two counters side by side (R414). -/
theorem readGlobal_tmpInteg (s : State) : ∃ v : Word, s.readGlobal 0x60028 = some v ∧
    field v.toNat 0 16 = s.tmp.fabric.toNat ∧ field v.toNat 16 16 = s.tmp.decision.toNat := by
  have hf := s.tmp.fabric.isLt
  have hd := s.tmp.decision.isLt
  refine ⟨_, rfl, ?_, ?_⟩ <;> simp only [field, word, packed, BitVec.toNat_ofNat] <;> omega

end State

/-! ## O44 -/

section
variable {s : State} {i o : Nat}

theorem completes_read_mapped {v : Word} (hi : i < 1024) (ha : s.answers i = true) (hr : s.regRead i o = some v) :
    (Completes (.rcRegisterRead i o) s fun t => t = (s.rcRead i o).emit (.barRead i o v)) ∧
    Completes (.barUnmappedAccess i true o) s fun t => t = (s.rcRead i o).emit (.barRead i o v) := by
  have hb := State.barRead_mapped ha hr
  exact ⟨⟨_, exec_rcRegisterRead hi o s, hb⟩, ⟨_, exec_barUnmappedAccess_read hi o s, hb⟩⟩

theorem completes_read_unmapped (hi : i < 1024) (ha : s.answers i = true) (hr : s.regRead i o = none) :
    (Completes (.rcRegisterRead i o) s fun t => t = (s.violation i violUnmapped).emit (.barRead i o 0)) ∧
    Completes (.barUnmappedAccess i true o) s fun t => t = (s.violation i violUnmapped).emit (.barRead i o 0) := by
  have hb := State.barRead_unmapped ha hr
  exact ⟨⟨_, exec_rcRegisterRead hi o s, hb⟩, ⟨_, exec_barUnmappedAccess_read hi o s, hb⟩⟩

/-- A function that does not answer reads zero while its FLR runs, and is silent otherwise (R59). -/
theorem read_of_silent (hi : i < 1024) (ha : s.answers i = false) :
    ((s.fn i).flr = true → s.present i = true → Completes (.rcRegisterRead i o) s fun t => t = s.emit (.barRead i o 0)) ∧
    ((s.fn i).flr = false ∨ s.present i = false → NoEffect (.rcRegisterRead i o) s ∧ NoEffect (.rtcLoRead i) s) := by
  refine ⟨fun hf hpr => ⟨_, exec_rcRegisterRead hi o s, ?_⟩, fun h => ?_⟩
  · rw [State.barRead_of_silent ha, hf, hpr]; rfl
  · have hoff : ((s.fn i).flr && s.present i) = false := by rcases h with h | h <;> simp [h]
    have hb : ∀ o, s.barRead i o = s := fun o => by rw [State.barRead_of_silent ha, hoff]; rfl
    exact ⟨(exec_rcRegisterRead hi o s).trans (congrArg _ (hb o)), (exec_rtcLoRead hi s).trans (congrArg _ (hb _))⟩

/-- R480: the low word of the RTC, and the high word latched. -/
theorem completes_rtcLoRead_pf (hi : i < 1024) (ha : s.answers i = true) (hp : s.isPf i = true) :
    Completes (.rtcLoRead i) s fun t =>
      t.sys.rtcHi.toNat = s.sys.rtc.toNat / 2 ^ 32 ∧ t.sys.rtc = s.sys.rtc ∧
      (∃ v : Word, v.toNat = s.sys.rtc.toNat % 2 ^ 32 ∧ t.out = .barRead i 0xB0024 v :: s.out) ∧
      t = { s with sys := { s.sys with rtcHi := t.sys.rtcHi }, out := t.out } := by
  have hr : s.regRead i 0xB0024 = some (loWord s.sys.rtc.toNat) := (State.regRead_pf_global hp (by decide)).trans rfl
  have hc : s.rcRead i 0xB0024 = s.modSys fun m => { m with rtcHi := hiWord m.rtc.toNat } := State.rcRead_pf_global hp (by decide)
  have hrtc := s.sys.rtc.isLt
  refine ⟨_, exec_rtcLoRead hi s, ?_⟩
  rw [State.barRead_mapped ha hr, hc]
  refine ⟨?_, rfl, ⟨_, ?_, rfl⟩, rfl⟩
  · change (hiWord s.sys.rtc.toNat).toNat = _
    rw [hiWord, word, BitVec.toNat_ofNat]; omega
  · rw [loWord, word, BitVec.toNat_ofNat]

theorem completes_rtcLoRead_vf (hi : i < 1024) (ha : s.answers i = true) (hv : s.isPf i = false) :
    Completes (.rtcLoRead i) s fun t => t = (s.violation i violUnmapped).emit (.barRead i 0xB0024 0) :=
  ⟨_, exec_rtcLoRead hi s, State.barRead_unmapped ha (State.regRead_vf_past_end hv (by decide))⟩

end

/-- Settles O44: every read is `State.barRead`; the RC registers are read block by block, and any other offset meets no arm of
`State.rcRead`. -/
theorem registerReadsThatChangeState : Obligations.RegisterReadsThatChangeState := by
  unfold Obligations.RegisterReadsThatChangeState
  refine ⟨fun s i o v => completes_read_mapped, fun s i o => completes_read_unmapped, fun s i o => read_of_silent, ?_, ?_,
    fun s i => completes_rtcLoRead_pf, fun s i => completes_rtcLoRead_vf⟩
  · intro rc s i hp
    have hr : ∀ o, 0x3000 ≤ o ∧ o < 0xF0000 → s.regRead i o = s.readGlobal o := fun o => State.regRead_pf_device hp
    have hc : ∀ o, 0x3000 ≤ o → s.rcRead i o = s.rcGlobal o := fun o => State.rcRead_pf_global hp
    refine ⟨State.regRead_rcRead_rcOffsets hp, fun o => State.rcRead_pf_of_unlisted hp,
      hr _ (by decide), hc _ (by decide), hr _ (by decide), hc _ (by decide), hr _ (by decide), hc _ (by decide),
      hr _ (by decide), hc _ (by decide), hr _ (by decide), hc _ (by decide), hr _ (by decide), hc _ (by decide),
      hr _ (by decide), hc _ (by decide), hr _ (by decide), hc _ (by decide), hr _ (by decide), hc _ (by decide),
      hr _ (by decide), hc _ (by decide), ?_, hc _ (by decide), fun q hq => ⟨?_, State.rcRead_pf_ring hp hq⟩,
      fun k hk => ⟨?_, State.rcRead_pf_box hp hk⟩, fun c hlt => ⟨?_, ?_⟩, fun w hw => ⟨?_, State.rcRead_pf_stale hp hw⟩⟩
    · rw [hr _ (by decide)]; exact s.readGlobal_tmpInteg
    · exact State.regRead_pf_ring hp hq (x := 0x34) (by decide) (by omega)
    · exact State.regRead_pf_box hp hk (x := 0x00C) (by decide) (by omega)
    · rw [hr _ (by omega)]; exact State.readGlobal_dma hlt (x := 0x1C) (by decide) (by omega)
    · rw [hc _ (by omega)]; exact State.rcGlobal_channel hlt rfl
    · rw [State.regRead_pf_window hp (by decide) (by decide), hw]; rfl
  · intro s i hv
    exact ⟨State.regRead_vf_fn hv (x := 0x08) rfl, State.rcRead_vf_stale hv,
      fun q hq => ⟨State.regRead_vf_ring hv hq (x := 0x34) (by decide) (by omega), State.rcRead_vf_ring hv hq⟩,
      State.regRead_vf_box hv (x := 0x00C) (by decide) rfl, State.rcRead_vf_box hv, State.regRead_vf_past_end hv (by decide)⟩

end Sys2Proof.Machine
end

section
/-! SUPPORT. The values that registers read, field by field, and O45. -/

namespace Sys2Proof.Machine

/-! ## Words -/

theorem word_toNat (n : Nat) : (word n).toNat = n % 2 ^ 32 := BitVec.toNat_ofNat n 32

theorem wordOf_nil_toNat : (wordOf []).toNat = 0 := rfl

theorem wordOf_cons_toNat (v i : Nat) (fs : List (Nat × Nat)) :
    (wordOf ((v, i) :: fs)).toNat = (v * 2 ^ i + (wordOf fs).toNat) % 2 ^ 32 := by
  rw [wordOf, wordOf, BitVec.toNat_ofNat, BitVec.toNat_ofNat, List.map_cons, List.sum_cons, Nat.add_mod_mod]

theorem b2n_le_one (b : Bool) : b2n b ≤ 1 := by cases b <;> decide

theorem bitAt_of_div_mod {x i : Nat} {b : Bool} (h : x / 2 ^ i % 2 = b2n b) : bitAt x i = b := by
  rw [bitAt, Nat.testBit_eq_decide_div_mod_eq, h]
  cases b <;> rfl

theorem toNat_loWord_add_hiWord (a : Addr) : (loWord a.toNat).toNat + 2 ^ 32 * (hiWord a.toNat).toNat = a.toNat := by
  have ha := a.isLt
  rw [loWord, hiWord, word_toNat, word_toNat]
  omega

theorem leNat_lt (bs : Bytes) : leNat bs < 256 ^ bs.length := by
  induction bs with
  | nil => decide
  | cons b bs ih =>
    have hb := b.isLt
    rw [leNat, List.length_cons, Nat.pow_succ]
    omega

theorem leAt_lt (bs : Bytes) (off len : Nat) : leAt bs off len < 256 ^ len := by
  have h := leNat_lt (slice bs off len)
  rwa [slice, List.length_map, List.length_range] at h

namespace State

variable {s : State} {i o g k b q n : Nat}

/-! ## One unit's block -/

/-- Nothing follows MOD_GLOBAL in the host port's block (R71). -/
theorem readHif_past_end (h : 0x24 ≤ o) : s.readHif o = none := by
  unfold readHif
  split
  iterate 6 omega
  rfl

/-- A saggar that does not exist has a setter block that reads zero (R126). -/
theorem readSetSag_of_absent (hs : (s.saggar g).state = .none) : s.readSetSag g 0x08 = some 0 := by
  rw [readSetSag, hs]; rfl

theorem readSetSag_epoch (hs : (s.saggar g).state ≠ .none) : s.readSetSag g 0x08 =
    some (wordOf [((s.saggar g).epoch.toNat, 0), (b2n (s.saggar g).busy, 16), (b2n (s.saggar g).mixed, 17)]) :=
  if_neg (by simpa using hs)

/-- An absent kiln's block reads zero but for STATE (R154). -/
theorem readKiln_clock_of_absent (hk : (s.kiln k).state = .absent) : s.readKiln k 0x08 = some 0 := by
  rw [readKiln, hk]; rfl

theorem readKiln_clock (hk : (s.kiln k).state ≠ .absent) :
    s.readKiln k 0x08 = some (wordOf [((s.kiln k).freq.toNat, 0), ((s.kiln k).volt.toNat, 8)]) :=
  if_neg (by simpa using hk)

theorem lt_of_isBank (hb : isBank b = true) : b < 100 := by
  rw [isBank, Bool.or_eq_true, decide_eq_true_iff, decide_eq_true_iff] at hb
  omega

theorem readBank_sticky (hb : isBank b = true) : s.readBank b 0 = some (if s.bankLive b then (s.bank b).sticky else 0) := by
  rw [readBank, hb]; rfl

/-- The data window of a mailbox shows nothing while a command is posted or served (R313). -/
theorem readBox_data (hn : n < 112) : s.readBox i k (0x40 + 4 * n) =
    some (if (s.box i k).state == .posted || (s.box i k).state == .busy then 0 else word (leAt (s.box i k).data (4 * n) 4)) := by
  unfold readBox
  split
  iterate 4 omega
  rw [if_pos (by omega), Nat.add_sub_cancel_left]

/-! ## The registers of a PF (R53) -/

/-- The device registers whose every field is WO (R10). -/
def writeOnlyOffsets : List Nat := [0x5E004, 0x60004, 0x80008, 0x80010, 0x80014, 0x80018, 0x8001C, 0xD0008]

section
variable (hp : s.isPf i = true)
include hp

theorem regRead_pf_writeOnly : ∀ o ∈ writeOnlyOffsets, s.regRead i o = some 0 := by
  have hzero : ∀ o ∈ writeOnlyOffsets, s.readGlobal o = some 0 := by
    simp only [writeOnlyOffsets, List.forall_mem_cons]
    and_intros
    iterate 8 rfl
    exact List.forall_mem_nil _
  have hrange : ∀ o ∈ writeOnlyOffsets, 0x3000 ≤ o ∧ o < 0xF0000 := by decide
  intro o ho
  rw [regRead_pf_device hp (hrange o ho), hzero o ho]

/-- Outside the blocks of R53 no register stands. -/
theorem regRead_pf_unmapped (h : (0x24 ≤ o ∧ o < 0x100) ∨ (0x244 ≤ o ∧ o < 0x1000) ∨ (0x3000 ≤ o ∧ o < 0x4000) ∨
    (0xE0000 ≤ o ∧ o < 0xF0000) ∨ 0xF1020 ≤ o) : s.regRead i o = none := by
  rw [regRead_pf_global hp (by omega)]
  rcases Nat.lt_or_ge o 0x100 with hlow | hlow
  · rw [readGlobal, if_pos hlow, readHif_past_end (by omega)]
  rcases Nat.lt_or_ge o 0x4000 with hown | hown
  · rw [readGlobal, if_neg (by omega), if_pos hown]
  · exact readGlobal_past_end (by omega)

theorem regRead_pf_hifCtl : ∃ v : Word, s.regRead i 0x14 = some v ∧ v.toNat = b2n s.host.ownerB + 2 * b2n s.host.ideRequired := by
  have ho := b2n_le_one s.host.ownerB
  have hr := b2n_le_one s.host.ideRequired
  refine ⟨_, regRead_pf_global hp (by decide), ?_⟩
  simp only [wordOf_cons_toNat, wordOf_nil_toNat]
  omega

theorem regRead_pf_violLimit : ∃ v : Word, s.regRead i 0x18 = some v ∧
    field v.toNat 0 16 = s.host.violLimit.toNat ∧ field v.toNat 16 16 = s.host.violWindowMs.toNat := by
  have hl := s.host.violLimit.isLt
  have hw := s.host.violWindowMs.isLt
  refine ⟨_, regRead_pf_global hp (by decide), ?_, ?_⟩ <;>
    simp only [field, wordOf_cons_toNat, wordOf_nil_toNat] <;> omega

theorem regRead_pf_alarm : ∃ v : Word, s.regRead i 0x60010 = some v ∧ v.toNat = s.tmp.alarm.toNat :=
  ⟨_, regRead_pf_global hp (by decide), BitVec.toNat_setWidth_of_le (by decide)⟩

theorem regRead_pf_quantum : ∃ v : Word, s.regRead i 0x4000 = some v ∧ v.toNat = s.setter.quantum.toNat :=
  ⟨_, regRead_pf_global hp (by decide), BitVec.toNat_setWidth_of_le (by decide)⟩

theorem regRead_pf_saggarEpoch (hg : g < 256) : s.regRead i (0x9008 + 0x40 * g) = s.readSetSag g 0x08 := by
  rw [regRead_pf_global hp (by omega), readGlobal_setter (by omega) (by omega), readSetter_saggar hg (x := 0x08) (by decide) (by omega)]

theorem saggarEpoch_fields (hg : g < 256) (hs : (s.saggar g).state ≠ .none) : ∃ v : Word, s.regRead i (0x9008 + 0x40 * g) = some v ∧
    field v.toNat 0 16 = (s.saggar g).epoch.toNat ∧ bitAt v.toNat 16 = (s.saggar g).busy ∧ bitAt v.toNat 17 = (s.saggar g).mixed ∧
    v.toNat < 2 ^ 18 := by
  have he := (s.saggar g).epoch.isLt
  have hb := b2n_le_one (s.saggar g).busy
  have hm := b2n_le_one (s.saggar g).mixed
  refine ⟨_, (regRead_pf_saggarEpoch hp hg).trans (readSetSag_epoch hs), ?_⟩
  simp only [field, wordOf_cons_toNat, wordOf_nil_toNat]
  exact ⟨by omega, bitAt_of_div_mod (by omega), bitAt_of_div_mod (by omega), by omega⟩

theorem regRead_pf_kilnClock (hk : k < 68) : s.regRead i (0x10008 + 0x400 * k) = s.readKiln k 0x08 := by
  rw [regRead_pf_global hp (by omega), readGlobal_kiln hk (x := 0x08) (by decide) (by omega)]

theorem kilnClock_fields (hk : k < 68) (hs : (s.kiln k).state ≠ .absent) : ∃ v : Word, s.regRead i (0x10008 + 0x400 * k) = some v ∧
    field v.toNat 0 5 = (s.kiln k).freq.toNat ∧ field v.toNat 8 6 = (s.kiln k).volt.toNat ∧ v.toNat < 2 ^ 14 := by
  have hf := (s.kiln k).freq.isLt
  have hv := (s.kiln k).volt.isLt
  refine ⟨_, (regRead_pf_kilnClock hp hk).trans (readKiln_clock hs), ?_⟩
  simp only [field, wordOf_cons_toNat, wordOf_nil_toNat]
  exact ⟨by omega, by omega, by omega⟩

theorem regRead_pf_bank (hb : isBank b = true) :
    s.regRead i (0x50000 + 0x200 * b) = some (if s.bankLive b then (s.bank b).sticky else 0) := by
  have hlt := lt_of_isBank hb
  rw [regRead_pf_global hp (by omega), readGlobal_faults (by omega) (by omega), readFaults_bank hlt (x := 0) (by decide) (by omega),
    readBank_sticky hb]

/-- RING_q_SQ_BASE_LO and _HI hold the base between them (R101). -/
theorem regRead_pf_sqBase (hq : q < 8) : ∃ v w : Word, s.regRead i (0x2004 + 0x100 * q) = some v ∧
    s.regRead i (0x2008 + 0x100 * q) = some w ∧ v.toNat + 2 ^ 32 * w.toNat = (s.ring i q).sqBase.toNat :=
  ⟨_, _, regRead_pf_ring hp hq (x := 0x04) (by decide) (by omega), regRead_pf_ring hp hq (x := 0x08) (by decide) (by omega),
    toNat_loWord_add_hiWord _⟩

theorem regRead_pf_boxData (hk : k < 8) (hn : n < 112) : s.regRead i (0x1040 + 0x200 * k + 4 * n) =
    some (if (s.box i k).state == .posted || (s.box i k).state == .busy then 0 else word (leAt (s.box i k).data (4 * n) 4)) := by
  rw [regRead_pf_box hp hk (x := 0x40 + 4 * n) (by omega) (by omega), readBox_data hn]

theorem boxData_hidden (hk : k < 8) (hn : n < 112) (hs : (s.box i k).state = .posted ∨ (s.box i k).state = .busy) :
    s.regRead i (0x1040 + 0x200 * k + 4 * n) = some 0 := by
  rw [regRead_pf_boxData hp hk hn, if_pos (by simpa using hs)]

theorem boxData_shown (hk : k < 8) (hn : n < 112) (hpo : (s.box i k).state ≠ .posted) (hbu : (s.box i k).state ≠ .busy) :
    ∃ v : Word, s.regRead i (0x1040 + 0x200 * k + 4 * n) = some v ∧ v.toNat = leAt (s.box i k).data (4 * n) 4 := by
  refine ⟨_, (regRead_pf_boxData hp hk hn).trans (congrArg some (if_neg (by simp [hpo, hbu]))), ?_⟩
  rw [word_toNat]
  exact Nat.mod_eq_of_lt (leAt_lt _ _ 4)

/-- A window that names a function of the other port shows nothing (R69). -/
theorem regRead_pf_window_none (hw : s.windowFn i = none) (h : 0x200 ≤ o) (h' : o < 0x244) : s.regRead i o = none := by
  rw [regRead_pf_window hp h h', hw, Option.bind_none]

end

/-! ## The registers of a VF (R55) -/

section
variable (hv : s.isPf i = false)
include hv

/-- FN_BIND (R50). -/
theorem regRead_vf_bind_none (hb : (s.fn i).bound = none) : s.regRead i 0x3000 = some 0 := by
  rw [regRead_vf_fn hv (x := 0) rfl, readFn, hb]

theorem regRead_vf_bind (hg : g < 256) (hb : (s.fn i).bound = some g) :
    ∃ v : Word, s.regRead i 0x3000 = some v ∧ v.toNat = g + 2 ^ 31 := by
  refine ⟨wordOf [(g, 0), (1, 31)], by rw [regRead_vf_fn hv (x := 0) rfl, readFn, hb], ?_⟩
  simp only [wordOf_cons_toNat, wordOf_nil_toNat]
  omega

theorem regRead_vf_viol : ∃ v : Word, s.regRead i 0x300C = some v ∧ v.toNat = (s.fn i).viol.toNat :=
  ⟨_, regRead_vf_fn hv (x := 0x0C) rfl, BitVec.toNat_setWidth_of_le (by decide)⟩

end

end State

/-- Settles O45: each register is found in its block, and its word taken apart by the fields of its table. -/
theorem registersReadTheirFields : Obligations.RegistersReadTheirFields := by
  unfold Obligations.RegistersReadTheirFields
  refine ⟨fun s i hp => ?_, fun s i hv => ?_⟩
  · exact ⟨State.regRead_pf_writeOnly hp,
      fun q hq => ⟨State.regRead_pf_doorbell hp hq (x := 0) (by decide) rfl,
        State.regRead_pf_doorbell hp hq (x := 4) (by decide) (by omega)⟩,
      fun k hk => State.regRead_pf_box hp hk (x := 0) (by decide) rfl, fun o => State.regRead_pf_unmapped hp,
      State.regRead_pf_global hp (by decide), State.regRead_pf_global hp (by decide), State.regRead_pf_hifCtl hp,
      State.regRead_pf_violLimit hp, State.regRead_pf_alarm hp, State.regRead_pf_quantum hp,
      fun g hg hs => (State.regRead_pf_saggarEpoch hp hg).trans (State.readSetSag_of_absent hs), fun g => State.saggarEpoch_fields hp,
      fun k hk hs => (State.regRead_pf_kilnClock hp hk).trans (State.readKiln_clock_of_absent hs), fun k => State.kilnClock_fields hp,
      fun b => State.regRead_pf_bank hp, fun q => State.regRead_pf_sqBase hp, fun k n => State.boxData_hidden hp,
      fun k n => State.boxData_shown hp, fun hw o => State.regRead_pf_window_none hp hw⟩
  · exact ⟨fun o => State.regRead_vf_past_end hv, State.regRead_vf_bind_none hv, fun g => State.regRead_vf_bind hv,
      State.regRead_vf_viol hv, fun e he => State.regRead_vf_msix hv he (x := 8) (by decide) (by omega),
      fun q hq => State.regRead_vf_doorbell hv hq (x := 0) (by decide) rfl⟩

end Sys2Proof.Machine
end

section
/-! SUPPORT. The command that writes a register, which block takes the write (R10, R54, R69), and O46. -/

namespace Sys2Proof.Machine

/-! ## The command -/

theorem exec_registerWrite {s : State} {i : Nat} (hi : i < 1024) (ha : s.answers i = true) (o : Nat) (v : Word) :
    exec (.registerWrite i o v) s = .next (s.regWrite i o v.toNat) :=
  congrArg Host.Outcome.next ((if_pos (decide_eq_true hi)).trans (if_pos ha))

/-- A function that does not answer takes no write (R59, R69). -/
theorem noEffect_registerWrite_of_silent {s : State} {i : Nat} (hi : i < 1024) (ha : s.answers i = false) (o : Nat) (v : Word) :
    NoEffect (.registerWrite i o v) s :=
  congrArg Host.Outcome.next ((if_pos (decide_eq_true hi)).trans (if_neg (by simp [ha])))

/-! ## Words -/

theorem word_toNat_self (v : Word) : word v.toNat = v := by rw [word, BitVec.ofNat_toNat, BitVec.setWidth_eq]

/-- A W1C write clears the bits that it sets and no other (R10). -/
theorem getLsbD_w1c {w : Nat} (x : BitVec w) (v : Word) (b : Nat) : (w1c x v.toNat).getLsbD b = (x.getLsbD b && !v.getLsbD b) := by
  rw [w1c, BitVec.getLsbD_and, BitVec.getLsbD_not, BitVec.getLsbD_ofNat, ← BitVec.getLsbD]
  by_cases hb : b < w
  · simp [hb]
  · simp [hb, BitVec.getLsbD_of_ge x b (by omega)]

theorem field_zero (x len : Nat) : field x 0 len = x % 2 ^ len := by rw [field, Nat.pow_zero, Nat.div_one]

theorem clamp_eq (lo hi x : Nat) (h : lo ≤ hi) : clamp lo hi x = min hi (max lo x) := by rw [clamp]; omega

/-- A field whose zero counts as one. -/
theorem toNat_max_one_field (w v : Nat) (hw : 0 < w) : (BitVec.ofNat w (max 1 (field v 0 w))).toNat = max 1 (v % 2 ^ w) := by
  have hone : 1 < 2 ^ w := Nat.one_lt_two_pow (by omega)
  have hlt : v % 2 ^ w < 2 ^ w := Nat.mod_lt _ (by omega)
  rw [field_zero, BitVec.toNat_ofNat, Nat.mod_eq_of_lt (by omega)]

/-- The low word of an address register takes the bits above its alignment, and the high word stays. -/
theorem toNat_putLo (a : Addr) {align : Nat} (v : Word) :
    (putLo a align v.toNat).toNat = a.toNat / 2 ^ 32 * 2 ^ 32 + v.toNat / 2 ^ align * 2 ^ align := by
  have ha := a.isLt
  have hv := v.isLt
  have hle := Nat.div_mul_le_self v.toNat (2 ^ align)
  rw [putLo, BitVec.toNat_ofNat]
  exact Nat.mod_eq_of_lt (by omega)

namespace State

/-! ## Which block takes a write -/

section
variable {s : State} {i o v q k e x g b n c : Nat}

theorem regWrite_of_unmapped (hr : s.regRead i o = none) : s.regWrite i o v = s.violation i violUnmapped := by
  rw [regWrite, hr]; rfl

/-- R54: a device-global write acts from the owning port's PF alone. -/
theorem globalWrite_eq {f : State → State} (ha : s.answers i = true) (hp : s.isPf i = true) :
    s.globalWrite i f = if s.ownerPf = i then f s else s.violation i violUnmapped := by
  rw [globalWrite, ha, hp]
  simp only [isPf, Bool.or_eq_true, Bool.and_eq_true, decide_eq_true_eq] at hp
  rcases hp with rfl | ⟨hsplit, rfl⟩
  · cases hs : s.host.split <;> cases ho : s.host.ownerB <;> simp [ownerPf, pfOf, hs, ho]
  · cases ho : s.host.ownerB <;> simp [ownerPf, pfOf, hsplit, ho]

section
variable (hr : (s.regRead i o).isSome = true)
include hr

theorem not_isNone_regRead : ¬ (s.regRead i o).isNone = true := by rw [← Option.not_isSome, hr]; decide

theorem regWrite_vf (hv : s.isPf i = false) : s.regWrite i o v = s.vfWrite i o v := by
  rw [regWrite, if_neg (not_isNone_regRead hr), hv]; rfl

theorem regWrite_pf_own {t : State} (hp : s.isPf i = true) (hw : s.pfWrite i o v = some t) : s.regWrite i o v = t := by
  rw [regWrite, if_neg (not_isNone_regRead hr), hp, hw]; rfl

theorem regWrite_pf_global {u : State} (ha : s.answers i = true) (hp : s.isPf i = true) (hw : s.pfWrite i o v = none)
    (hg : s.globalReg o v = some u) : s.regWrite i o v = if s.ownerPf = i then u else s.violation i violUnmapped := by
  rw [regWrite, if_neg (not_isNone_regRead hr), hp, hw]
  simp only [hg, Option.isSome_some, if_true, globalWrite_eq ha hp, Option.getD_some, Bool.not_true, Bool.false_eq_true, if_false]

theorem regWrite_pf_readOnly (hp : s.isPf i = true) (hw : s.pfWrite i o v = none) (hg : s.globalReg o v = none) :
    s.regWrite i o v = s := by
  rw [regWrite, if_neg (not_isNone_regRead hr), hp, hw, hg]; rfl

end

/-! ### A PF's own blocks (R53) -/

theorem pfWrite_eq_none (h : 0x3000 ≤ o) (h' : o < 0xF0000) : s.pfWrite i o v = none := by
  rw [pfWrite, if_neg (by omega), if_neg (by omega), blockAt_eq_none (by omega), blockAt_eq_none (by omega), blockAt_eq_none (by omega)]

theorem pfWrite_box (hk : k < 8) (hx : x < 0x200) (ho : o = 0x1000 + 0x200 * k + x) : s.pfWrite i o v = some (s.boxWrite i k x v) := by
  rw [pfWrite, if_neg (by omega), if_neg (by omega), (blockAt_eq_some (by decide)).2 ⟨hk, hx, ho⟩]

theorem pfWrite_ring (hq : q < 8) (hx : x < 0x100) (ho : o = 0x2000 + 0x100 * q + x) : s.pfWrite i o v = some (s.ringWrite i q x v) := by
  rw [pfWrite, if_neg (by omega), if_neg (by omega), blockAt_eq_none (by omega), (blockAt_eq_some (by decide)).2 ⟨hq, hx, ho⟩]

/-! ### A VF's blocks (R55) -/

theorem vfWrite_msix (he : e < 16) (hx : x < 0x10) (ho : o = 0x2000 + 0x10 * e + x) : s.vfWrite i o v = s.msixWrite i e x v := by
  rw [vfWrite, blockAt_eq_none (by omega), blockAt_eq_none (by omega), (blockAt_eq_some (by decide)).2 ⟨he, hx, ho⟩]

theorem vfWrite_fn (ho : o = 0x3000 + x) : s.vfWrite i o v = (s.causeWrite i x v).getD s := by
  rw [vfWrite, blockAt_eq_none (by omega), blockAt_eq_none (by omega), blockAt_eq_none (by omega), ho]
  simp only [Nat.add_sub_cancel_left]

/-! ### Runs of device registers -/

theorem globalReg_weight (hg : g < 64) : s.globalReg (0x5000 + 0x80 * g) v =
    some (s.modSetter fun t => { t with weights := mset 1 t.weights g (max 1 (field v 0 8)) }) := by
  unfold globalReg
  split
  iterate 25 omega
  rw [(blockAt_eq_some (by decide)).2 ⟨hg, (by decide : 0 < 0x80), by omega⟩]
  rfl

theorem globalReg_react (hb : b < 100) (hn : n < 32) : s.globalReg (0x50100 + 0x200 * b + 4 * n) v = some (s.reactWrite b n v) := by
  unfold globalReg
  split
  iterate 25 omega
  rw [blockAt_eq_none (by omega), (blockAt_eq_some (by decide)).2 ⟨hb, (by omega : 4 * n + 0x100 < 0x200), by omega⟩]
  have hn4 : (4 * n + 0x100 - 0x100) / 4 = n := by omega
  exact (if_pos (by omega)).trans (by rw [hn4])

theorem globalReg_dma_ringLo (hc : c < 32) : s.globalReg (0xC0008 + 0x100 * c) v = some (s.dmaWrite c 0x08 v) := by
  unfold globalReg
  split
  iterate 25 omega
  rw [blockAt_eq_none (by omega), blockAt_eq_none (by omega), blockAt_eq_none (by omega),
    (blockAt_eq_some (by decide)).2 ⟨hc, (by decide : 0x08 < 0x100), by omega⟩]
  rfl

/-! ## What a write changes -/

/-- The word of a source that exists can be read (R421). -/
theorem isBank_of_faultSev (hf : faultSev b n ≠ 0) : isBank b = true :=
  Decidable.byContradiction fun hb => hf (if_pos (by rw [eq_false_of_ne_true hb]; rfl))

theorem isSome_readBank_reaction (hb : isBank b = true) (hn : n < 32) : (s.readBank b (0x100 + 4 * n)).isSome = true := by
  rw [readBank, hb, if_neg (by decide), if_neg (by omega), if_neg (by omega),
    (blockAt_eq_some (by decide)).2 ⟨hn, (by decide : 0 < 4), by omega⟩]
  rfl

theorem reactWrite_eq (hf : faultSev b n ≠ 0) (hl : s.bankLive b = true) :
    s.reactWrite b n v = (s.modBank b fun x => { x with react := minsert x.react n (BitVec.ofNat 5 v) }).errPin :=
  if_neg (by simp [hf, hl])

theorem dmaWrite_ringLo (hc : 8 ≤ c) (hc' : c < 32) (hl : (s.chan c).lent = true) : s.dmaWrite c 0x08 v =
    if (s.chan c).state == .disabled then s.modChan c fun ch => { ch with ring := putLo ch.ring 6 v } else s := by
  rw [dmaWrite, if_neg (by simp [dmaChan, hc, hc', hl])]

/-- A ring's bases take a write only while the ring is DISABLED (R97). -/
theorem ringWrite_sqBaseLo : s.ringWrite i q 0x04 v =
    s.modRing i q fun r => if r.state == .disabled then { r with sqBase := putLo r.sqBase 12 v } else r := rfl

/-- A mailbox's data window takes a write only in IDLE and DONE (R313). -/
theorem boxWrite_data (hn : n < 112) : s.boxWrite i k (0x40 + 4 * n) v = s.modBox i k fun b =>
    if b.state == .idle || b.state == .done then
      { b with data := (padTo 448 b.data).take (4 * n) ++ leBytes v 4 ++ (padTo 448 b.data).drop (4 * n + 4) }
    else { b with dropped := satInc b.dropped } := by
  rw [boxWrite, if_pos (by omega), Nat.add_sub_cancel_left]

theorem msixWrite_data (v : Word) : s.msixWrite i e 0x8 v.toNat =
    s.modFn i fun f => { f with msix := mmod {} f.msix e fun x => { x with data := v } } := by
  rw [msixWrite, BitVec.ofNat_toNat, BitVec.setWidth_eq]

/-- A port's registers stand in the host port's state. -/
theorem modPort_eq (s : State) (b : Bool) (f : Port → Port) : s.modPort b f = { s with host := (s.modPort b f).host } := by
  cases b <;> rfl

end
end State

/-! ## O46 -/

section
variable {s : State} {i o : Nat} {v : Word} (hi : i < 1024) (ha : s.answers i = true)
include hi ha

theorem exec_registerWrite_vf (hv : s.isPf i = false) (hr : (s.regRead i o).isSome = true) :
    exec (.registerWrite i o v) s = .next (s.vfWrite i o v.toNat) := by
  rw [exec_registerWrite hi ha, State.regWrite_vf hr hv]

section
variable (hp : s.isPf i = true)
include hp

theorem exec_registerWrite_own {t : State} (hr : (s.regRead i o).isSome = true) (hw : s.pfWrite i o v.toNat = some t) :
    exec (.registerWrite i o v) s = .next t := by
  rw [exec_registerWrite hi ha, State.regWrite_pf_own hr hp hw]

/-- The owning port's PF writes a device register. -/
theorem exec_registerWrite_owner (hown : s.ownerPf = i) {u : State} (h : 0x3000 ≤ o ∧ o < 0xF0000)
    (hr : (s.readGlobal o).isSome = true) (hg : s.globalReg o v.toNat = some u) : exec (.registerWrite i o v) s = .next u := by
  have hreg : (s.regRead i o).isSome = true := by rw [State.regRead_pf_device hp h]; exact hr
  rw [exec_registerWrite hi ha, State.regWrite_pf_global hreg ha hp (State.pfWrite_eq_none h.1 h.2) hg, if_pos hown]

end
end

section
variable {s : State} {i o : Nat} (v : Word) (hi : i < 1024) (ha : s.answers i = true)
include hi ha

theorem registerWrite_unmapped (hr : s.regRead i o = none) :
    Completes (.registerWrite i o v) s fun t => t = s.violation i violUnmapped :=
  ⟨_, exec_registerWrite hi ha o v, State.regWrite_of_unmapped hr⟩

/-- R54: a device register takes the owning PF's write; the other PF's is a violation, and one without a writable field takes none. -/
theorem registerWrite_global (hp : s.isPf i = true) (hr : (s.regRead i o).isSome = true) (hw : s.pfWrite i o v.toNat = none) :
    (∀ u, s.globalReg o v.toNat = some u →
      Completes (.registerWrite i o v) s fun t => t = if s.ownerPf = i then u else s.violation i violUnmapped) ∧
    (s.globalReg o v.toNat = none → NoEffect (.registerWrite i o v) s) :=
  ⟨fun _ hg => ⟨_, exec_registerWrite hi ha o v, State.regWrite_pf_global hr ha hp hw hg⟩,
    fun hg => (exec_registerWrite hi ha o v).trans (congrArg _ (State.regWrite_pf_readOnly hr hp hw hg))⟩

/-! ### The owning port's PF -/

section
variable (hp : s.isPf i = true) (hown : s.ownerPf = i)
include hp hown

theorem registerWrite_weight {g : Nat} (hg : g < 64) : Completes (.registerWrite i (0x5000 + 0x80 * g) v) s fun t =>
    mget 1 t.setter.weights g = max 1 (v.toNat % 256) ∧ (∀ h, h ≠ g → mget 1 t.setter.weights h = mget 1 s.setter.weights h) ∧
    t = { s with setter := { s.setter with weights := t.setter.weights } } := by
  have hr : (s.readGlobal (0x5000 + 0x80 * g)).isSome = true := by
    rw [State.readGlobal_setter (by omega) (by omega), State.readSetter_group hg (x := 0) (by decide) (by omega)]; rfl
  refine ⟨_, exec_registerWrite_owner hi ha hp hown (by omega) hr (State.globalReg_weight hg), ?_, fun h hne => ?_, rfl⟩
  · rw [State.modSetter_setter, mget_mset, if_pos rfl]
    exact congrArg (max 1) (field_zero _ 8)
  · rw [State.modSetter_setter, mget_mset, if_neg hne]

/-- LCC_TOKEN_w (R485). -/
theorem registerWrite_token {n : Nat} (hn : n < 4) : Completes (.registerWrite i (0x80010 + 4 * n) v) s fun t =>
    t.lcc.token = s.lcc.token.set n v ∧ t = { s with lcc := { s.lcc with token := t.lcc.token } } := by
  have hreg : ∀ n < 4, (s.readGlobal (0x80010 + 4 * n)).isSome = true ∧ s.globalReg (0x80010 + 4 * n) v.toNat =
      some (s.modLcc fun l => { l with token := l.token.set n (word v.toNat) }) := by
    intro n hn
    match n, hn with
    | 0, _ => exact ⟨rfl, rfl⟩
    | 1, _ => exact ⟨rfl, rfl⟩
    | 2, _ => exact ⟨rfl, rfl⟩
    | 3, _ => exact ⟨rfl, rfl⟩
  obtain ⟨hr, hg⟩ := hreg n hn
  refine ⟨_, exec_registerWrite_owner hi ha hp hown (by omega) hr hg, ?_, rfl⟩
  rw [State.modLcc_lcc, word_toNat_self]

theorem registerWrite_reaction {b n : Nat} (hb : b < 100) (hn : n < 32) (hf : faultSev b n ≠ 0) (hl : s.bankLive b = true) :
    Completes (.registerWrite i (0x50100 + 0x200 * b + 4 * n) v) s fun t =>
      mget 0 (t.bank b).react n = BitVec.ofNat 5 v.toNat ∧ (∀ x, x ≠ b → t.bank x = s.bank x) ∧ t = { s with flt := t.flt } := by
  have hr : (s.readGlobal (0x50100 + 0x200 * b + 4 * n)).isSome = true := by
    rw [State.readGlobal_faults (by omega) (by omega), State.readFaults_bank hb (x := 0x100 + 4 * n) (by omega) (by omega)]
    exact State.isSome_readBank_reaction (State.isBank_of_faultSev hf) hn
  refine ⟨_, exec_registerWrite_owner hi ha hp hown (by omega) hr (State.globalReg_react hb hn), ?_⟩
  rw [State.reactWrite_eq hf hl]
  have hbank : ∀ (u : State) x, u.errPin.bank x = u.bank x := fun _ _ => rfl
  refine ⟨?_, fun x hne => ?_, rfl⟩
  · rw [hbank, State.bank_modBank, if_pos rfl, mget_minsert, if_pos rfl]
  · rw [hbank, State.bank_modBank, if_neg hne]

/-- A lent channel's ring base takes a write only while the channel is DISABLED (R511). -/
theorem registerWrite_dmaRing {c : Nat} (hc : 8 ≤ c) (hc' : c < 32) (hl : (s.chan c).lent = true) :
    ((s.chan c).state = .disabled → Completes (.registerWrite i (0xC0008 + 0x100 * c) v) s fun t =>
      (t.chan c).ring.toNat = (s.chan c).ring.toNat / 2 ^ 32 * 2 ^ 32 + v.toNat / 64 * 64 ∧ (∀ x, x ≠ c → t.chan x = s.chan x) ∧
      t = { s with dma := t.dma }) ∧
    ((s.chan c).state ≠ .disabled → NoEffect (.registerWrite i (0xC0008 + 0x100 * c) v) s) := by
  have hr : (s.readGlobal (0xC0008 + 0x100 * c)).isSome = true := by
    rw [State.readGlobal_dma hc' (x := 0x08) (by decide) (by omega)]; rfl
  have hex := exec_registerWrite_owner (v := v) hi ha hp hown (by omega) hr (State.globalReg_dma_ringLo hc')
  rw [State.dmaWrite_ringLo hc hc' hl] at hex
  constructor
  · intro hoff
    rw [if_pos (by simpa using hoff)] at hex
    refine ⟨_, hex, ?_, fun x hne => ?_, rfl⟩
    · rw [State.chan_modChan, if_pos rfl]
      exact toNat_putLo _ v
    · rw [State.chan_modChan, if_neg hne]
  · intro hon
    rwa [if_neg (by simpa using hon)] at hex

end

/-! ### A PF's own blocks -/

section
variable (hp : s.isPf i = true)
include hp

theorem registerWrite_fnSel : Completes (.registerWrite i 0x100 v) s fun t =>
    (t.port (s.portOf i)).fnSel.toNat = v.toNat % 1024 ∧ (t.port (!s.portOf i)).fnSel = (s.port (!s.portOf i)).fnSel ∧
    t = { s with host := t.host } := by
  have hr : (s.regRead i 0x100).isSome = true := by rw [State.regRead_pf_own hp (by decide) (by decide)]; rfl
  refine ⟨_, exec_registerWrite_own hi ha hp hr rfl, ?_, ?_, State.modPort_eq _ _ _⟩
  · rw [State.port_modPort, if_pos rfl]
    exact BitVec.toNat_ofNat _ _
  · rw [State.port_modPort, if_neg (by simp)]

theorem registerWrite_sqBaseLo {q : Nat} (hq : q < 8) : Completes (.registerWrite i (0x2004 + 0x100 * q) v) s fun t =>
    (t.ring i q).sqBase.toNat = (if (s.ring i q).state = .disabled then
      (s.ring i q).sqBase.toNat / 2 ^ 32 * 2 ^ 32 + v.toNat / 4096 * 4096 else (s.ring i q).sqBase.toNat) ∧
    (∀ j p, 8 * j + p ≠ 8 * i + q → t.ring j p = s.ring j p) ∧ t = { s with host := t.host } := by
  have hr : (s.regRead i (0x2004 + 0x100 * q)).isSome = true := by
    rw [State.regRead_pf_ring hp hq (x := 0x04) (by decide) (by omega)]; rfl
  refine ⟨_, exec_registerWrite_own hi ha hp hr (State.pfWrite_ring hq (x := 0x04) (by decide) (by omega)), ?_⟩
  rw [State.ringWrite_sqBaseLo]
  refine ⟨?_, fun j p hne => ?_, rfl⟩
  · rw [State.ring_modRing, if_pos rfl]
    by_cases hoff : (s.ring i q).state = .disabled
    · rw [if_pos hoff, if_pos (by simpa using hoff)]
      exact toNat_putLo _ v
    · rw [if_neg hoff, if_neg (by simpa using hoff)]
  · rw [State.ring_modRing, if_neg hne]

theorem registerWrite_boxData {k n : Nat} (hk : k < 8) (hn : n < 112) :
    ((s.box i k).state = .idle ∨ (s.box i k).state = .done → Completes (.registerWrite i (0x1040 + 0x200 * k + 4 * n) v) s fun t =>
      (t.box i k).data = (padTo 448 (s.box i k).data).take (4 * n) ++ leBytes v.toNat 4 ++ (padTo 448 (s.box i k).data).drop (4 * n + 4) ∧
      (t.box i k).dropped = (s.box i k).dropped ∧ t = { s with mbx := { s.mbx with boxes := t.mbx.boxes } }) ∧
    ((s.box i k).state ≠ .idle → (s.box i k).state ≠ .done → Completes (.registerWrite i (0x1040 + 0x200 * k + 4 * n) v) s fun t =>
      (t.box i k).data = (s.box i k).data ∧ (t.box i k).dropped = satInc (s.box i k).dropped ∧
      t = { s with mbx := { s.mbx with boxes := t.mbx.boxes } }) := by
  have hr : (s.regRead i (0x1040 + 0x200 * k + 4 * n)).isSome = true := by rw [State.regRead_pf_boxData hp hk hn]; rfl
  have hex := exec_registerWrite_own (v := v) hi ha hp hr (State.pfWrite_box hk (x := 0x40 + 4 * n) (by omega) (by omega))
  rw [State.boxWrite_data hn] at hex
  constructor
  · intro hfree
    refine ⟨_, hex, ?_, ?_, rfl⟩ <;> rw [State.box_modBox, if_pos rfl, if_pos (by simpa using hfree)]
  · intro hidle hdone
    refine ⟨_, hex, ?_, ?_, rfl⟩ <;> rw [State.box_modBox, if_pos rfl, if_neg (by simp [hidle, hdone])]

end

/-! ### A VF's blocks -/

section
variable (hv : s.isPf i = false)
include hv

theorem exec_registerWrite_vfFn {x : Nat} {t : State} (ho : o = 0x3000 + x) (hr : (s.readFn i x).isSome = true)
    (hc : s.causeWrite i x v.toNat = some t) : exec (.registerWrite i o v) s = .next t := by
  rw [exec_registerWrite_vf hi ha hv (by rwa [State.regRead_vf_fn hv ho]), State.vfWrite_fn ho, hc, Option.getD_some]

theorem registerWrite_vfViol : Completes (.registerWrite i 0x300C v) s fun t =>
    (∀ b, (t.fn i).viol.getLsbD b = ((s.fn i).viol.getLsbD b && !v.getLsbD b)) ∧
    (∀ j, j ≠ i → t.fn j = s.fn j) ∧ t = { s with host := t.host } := by
  refine ⟨_, exec_registerWrite_vfFn v hi ha hv (x := 0x0C) rfl rfl rfl, fun b => ?_, fun j hj => ?_, rfl⟩
  · rw [State.fn_modFn, if_pos rfl]
    exact getLsbD_w1c _ v b
  · rw [State.fn_modFn, if_neg hj]

theorem registerWrite_vfIrqCause : Completes (.registerWrite i 0x3018 v) s fun t =>
    (∀ b, (t.fn i).irqCause.getLsbD b = ((s.fn i).irqCause.getLsbD b && !v.getLsbD b)) ∧
    (∀ j, j ≠ i → t.fn j = s.fn j) ∧ t = { s with host := t.host } := by
  refine ⟨_, exec_registerWrite_vfFn v hi ha hv (x := 0x18) rfl rfl rfl, fun b => ?_, fun j hj => ?_, rfl⟩
  · rw [State.fn_modFn, if_pos rfl]
    exact getLsbD_w1c _ v b
  · rw [State.fn_modFn, if_neg hj]

/-- An entry of the MSI-X table of a VF (R55). -/
theorem registerWrite_vfMsixData {e : Nat} (he : e < 16) : Completes (.registerWrite i (0x2008 + 0x10 * e) v) s fun t =>
    (mget {} (t.fn i).msix e).data = v ∧ (mget {} (t.fn i).msix e).addr = (mget {} (s.fn i).msix e).addr ∧
    (∀ j, j ≠ i → t.fn j = s.fn j) ∧ t = { s with host := t.host } := by
  have hr : (s.regRead i (0x2008 + 0x10 * e)).isSome = true := by
    rw [State.regRead_vf_msix hv he (x := 0x8) (by decide) (by omega)]; rfl
  refine ⟨_, exec_registerWrite_vf hi ha hv hr, ?_⟩
  rw [State.vfWrite_msix he (x := 0x8) (by decide) (by omega), State.msixWrite_data]
  refine ⟨?_, ?_, fun j hj => ?_, rfl⟩
  · rw [State.fn_modFn, if_pos rfl, mget_mmod, if_pos rfl]
  · rw [State.fn_modFn, if_pos rfl, mget_mmod, if_pos rfl]
  · rw [State.fn_modFn, if_neg hj]

end
end

/-- Settles O46: a write is found its block; what the block keeps of it is its table's. -/
theorem registerWrites : Obligations.RegisterWrites := by
  unfold Obligations.RegisterWrites
  refine ⟨fun s i o v hi ha => noEffect_registerWrite_of_silent hi ha o v, fun s i o v => registerWrite_unmapped v,
    fun s i o v => registerWrite_global v, fun s i o v hi ha hv hr => ⟨_, exec_registerWrite_vf hi ha hv hr, rfl⟩, ?_, ?_, ?_⟩
  · intro s i v hi ha hp hown
    have put : ∀ {o : Nat} {u : State}, 0x3000 ≤ o ∧ o < 0xF0000 → (s.readGlobal o).isSome = true →
        s.globalReg o v.toNat = some u → exec (.registerWrite i o v) s = .next u := exec_registerWrite_owner hi ha hp hown
    exact ⟨⟨_, put (by decide) rfl rfl, toNat_max_one_field 12 _ (by decide), rfl⟩,
      ⟨_, put (by decide) rfl rfl, BitVec.toNat_ofNat _ _, rfl, rfl, rfl⟩, fun g => registerWrite_weight v hi ha hp hown,
      ⟨_, put (by decide) rfl rfl, fun b _ => getLsbD_w1c _ v b, rfl⟩,
      ⟨_, put (by decide) rfl rfl, congrArg (max 10) (field_zero _ 12), rfl, rfl⟩,
      ⟨_, put (by decide) rfl rfl, congrArg (max 1) (field_zero _ 8), rfl, rfl⟩,
      ⟨_, put (by decide) rfl rfl, congrArg (min 1000) (field_zero _ 10), rfl⟩,
      ⟨_, put (by decide) rfl rfl, getLsbD_w1c _ v, rfl⟩, fun n => registerWrite_token v hi ha hp hown,
      ⟨_, put (by decide) rfl rfl, (congrArg (clamp 1 64) (field_zero _ 7)).trans (clamp_eq 1 64 _ (by decide)), rfl⟩,
      ⟨_, put (by decide) rfl rfl, rfl, clamp_eq 1 64 _ (by decide), rfl⟩,
      ⟨_, put (by decide) rfl rfl, toNat_max_one_field 16 _ (by decide), rfl⟩,
      ⟨_, put (by decide) rfl rfl, BitVec.toNat_ofNat _ _, rfl⟩,
      fun b n => registerWrite_reaction v hi ha hp hown, fun c => registerWrite_dmaRing v hi ha hp hown⟩
  · intro s i v hi ha hp
    exact ⟨registerWrite_fnSel v hi ha hp, fun q => registerWrite_sqBaseLo v hi ha hp, fun k n => registerWrite_boxData v hi ha hp⟩
  · intro s i v hi ha hv
    exact ⟨registerWrite_vfViol v hi ha hv, registerWrite_vfIrqCause v hi ha hv, fun e => registerWrite_vfMsixData v hi ha hv⟩

end Sys2Proof.Machine
end

section
/-! SUPPORT. What the operations of the entropy block leave of its sources, seeds and DRBGs (R290 to R306). -/

namespace Sys2Proof.Machine

/-! ## Operands and folds -/

theorem onUnit_present {s t : State} {c : Bool} (h : c = true) : onUnit s c t = .next t := congrArg Host.Outcome.next (if_pos h)

theorem when_holds {c : Bool} {f : State → State} {s : State} (h : c = true) : when_ c f s = f s := if_pos h

theorem when_fails {c : Bool} {f : State → State} {s : State} (h : c = false) : when_ c f s = s := if_neg (by simp [h])

/-- What every round of a fold keeps, the fold keeps. -/
theorem forEach_keeps {α β : Type} (g : State → β) {f : α → State → State} (h : ∀ x s, g (f x s) = g s) (xs : List α) (s : State) :
    g (forEach xs f s) = g s := by
  induction xs generalizing s with
  | nil => rfl
  | cons x xs ih => exact (ih (f x s)).trans (h x s)

theorem getLsbD_setBit_self {w : Nat} (x : BitVec w) {i : Nat} (hi : i < w) : (setBit x i).getLsbD i = true := by
  rw [setBit, BitVec.getLsbD_or, BitVec.getLsbD_ofNat, Nat.testBit_two_pow_self, decide_eq_true hi, Bool.and_self, Bool.or_true]

/-! ## What interrupts, records and READY leave alone -/

/-- The entropy block but for its interrupt bits, READY and LOW. -/
def Entropy.core (e : Entropy) : Entropy := { e with irq := 0, ready := false, stopped := false }

/-- A source after a failed test (R294). -/
def Source.failed (x : Source) : Source :=
  { x with state := if x.recent + 1 < 64 then .cooling else .retired, left := true, recent := min 64 (x.recent + 1), total := satInc x.total }

theorem Source.failed_state_retired_iff (x : Source) : x.failed.state = .retired ↔ ¬ x.recent + 1 < 64 := by
  unfold Source.failed
  split <;> simp [*]

namespace State

section
variable (s : State) (i bit before : Nat)

@[simp] theorem raiseDevice_ent (v : Nat) : (s.raiseDevice v).ent = s.ent :=
  ent_of_blank { host := true, log := true, out := true } s _ (raiseDevice_blank _ rfl rfl rfl v s) rfl

@[simp] theorem kazkelRecord_ent (code : Nat) (data : Bytes) (reserved : Bool) : (s.kazkelRecord code data reserved).ent = s.ent :=
  ent_of_blank { host := true, log := true, out := true } s _ (kazkelRecord_blank _ rfl rfl rfl code data reserved s) rfl

@[simp] theorem sourceRecord_ent : (s.sourceRecord i).ent = s.ent := kazkelRecord_ent s _ _ _

@[simp] theorem entIrq_core : (s.entIrq bit).ent.core = s.ent.core := by
  unfold entIrq
  split
  · rfl
  · rw [raiseDevice_ent]; rfl

@[simp] theorem poolChanged_core : (s.poolChanged before).ent.core = s.ent.core := by
  unfold poolChanged
  split
  · exact entIrq_core _ _
  · split <;> rfl

@[simp] theorem entReadyCheck_core : s.entReadyCheck.ent.core = s.ent.core := by
  unfold entReadyCheck
  dsimp only
  split
  · exact entIrq_core _ _
  · rfl

theorem entIrq_sets (hb : bit < 7) : (s.entIrq bit).ent.irq.getLsbD bit = true := by
  unfold entIrq
  split
  case isTrue h => exact h
  case isFalse => rw [raiseDevice_ent]; exact getLsbD_setBit_self _ hb

end

section
variable {s t : State}

theorem source_of_core (h : t.ent.core = s.ent.core) (j : Nat) : t.source j = s.source j :=
  (congrArg (fun e : Entropy => mget ({} : Source) e.sources j) h :)

theorem drbgs_of_core (h : t.ent.core = s.ent.core) : t.ent.drbgs = s.ent.drbgs := (congrArg Entropy.drbgs h :)

theorem sources_of_core (h : t.ent.core = s.ent.core) : t.ent.sources = s.ent.sources := (congrArg Entropy.sources h :)

theorem retiredList_of_core (h : t.ent.core = s.ent.core) : t.ent.retiredList = s.ent.retiredList := (congrArg Entropy.retiredList h :)

/-! ## Frames -/

/-- An operation of the entropy block that may interrupt and record. -/
theorem eq_of_blank_noisy (h : t.blank { host := true, ent := true, log := true, out := true } =
    s.blank { host := true, ent := true, log := true, out := true }) :
    t = { s with host := t.host, ent := t.ent, log := t.log, out := t.out } := merge_of_blank _ s t h

/-- An operation of the entropy block alone. -/
theorem eq_of_blank_ent (h : t.blank { ent := true } = s.blank { ent := true }) : t = { s with ent := t.ent } := merge_of_blank _ s t h

end

/-! ## A failed test (R294) -/

/-- The source fails and, at its 64th failure of 24 h, goes to the retirement list. -/
theorem sourceFails_core (s : State) (i : Nat) : (s.sourceFails i).ent.core = ((s.modSource i Source.failed).modEnt fun e =>
    { e with retiredList := e.retiredList ++ (if (s.source i).recent + 1 < 64 then [] else [i]) }).ent.core := by
  let u := (s.modSource i Source.failed).entIrq entSrcFail
  have hu : u.ent.core = (s.modSource i Source.failed).ent.core := entIrq_core _ _
  have hret : (u.source i).state = .retired ↔ ¬ (s.source i).recent + 1 < 64 := by
    rw [source_of_core hu, source_modSource, if_pos rfl, Source.failed_state_retired_iff]
  have heq : s.sourceFails i = (((if (u.source i).state == .retired then
      (u.modEnt fun e => { e with retiredList := e.retiredList ++ [i] }).entIrq entSrcRetired else u).sourceRecord i).poolChanged
        s.inPool).entReadyCheck := rfl
  rw [heq, entReadyCheck_core, poolChanged_core, sourceRecord_ent]
  by_cases hr : (s.source i).recent + 1 < 64
  · rw [if_neg (by rw [beq_iff_eq, hret]; exact not_not_intro hr), if_pos hr, hu, modEnt_ent, List.append_nil]
  · rw [if_pos (by rw [beq_iff_eq, hret]; exact hr), if_neg hr, entIrq_core]
    exact (congrArg (fun e : Entropy => { e with retiredList := e.retiredList ++ [i] }) hu :)

/-! ## Seeds and DRBGs (R298, R302, R306) -/

/-- A change of a DRBG counts by what it makes of that DRBG as it is. -/
theorem changeDrbg_congr {s : State} {d : Nat} {f g : Drbg → Drbg} (h : f (s.drbg d) = g (s.drbg d)) :
    s.changeDrbg d f = s.changeDrbg d g := by
  rw [changeDrbg, changeDrbg, modDrbg, modDrbg, h]

section
variable (s : State) (d : Nat) (f : Drbg → Drbg)

@[simp] theorem drbg_changeDrbg (e : Nat) : (s.changeDrbg d f).drbg e = if e = d then f (s.drbg d) else s.drbg e :=
  drbg_modDrbg s d e f

@[simp] theorem changeDrbg_seeds : (s.changeDrbg d f).ent.seeds = s.ent.seeds := rfl
@[simp] theorem changeDrbg_sources : (s.changeDrbg d f).ent.sources = s.ent.sources := rfl
@[simp] theorem changeDrbg_waiting : (s.changeDrbg d f).ent.waiting = s.ent.waiting := rfl

end

end State

/-- A DRBG after a demand: only one that has been instantiated takes it (R306). -/
def Drbg.demanded (r : Drbg) : Drbg := if State.drbgLive r then { r with demand := true } else r

theorem Drbg.demanded_idem (r : Drbg) : r.demanded.demanded = r.demanded := by
  unfold Drbg.demanded
  by_cases h : State.drbgLive r = true
  · rw [if_pos h]; exact if_pos h
  · rw [if_neg h, if_neg h]

/-- A DRBG after the seed that its request of a rank has waited for: `pers` for an instantiation, `control` the control DRBG (R298, R301). -/
def Drbg.seeded (r : Drbg) (selfTest : Bool) (control : Prop) [Decidable control] (rank : Nat) (seed pers : Bytes) : Drbg :=
  if r.state = .unseeded then
    if selfTest then { ctrInstantiate r seed pers with state := .ready, calls := 0, demand := false, insts := r.insts + 1 }
    else { r with state := .failed }
  else if r.state = .stretched ∨ r.state = .exhausted ∨ 2 ^ 20 ≤ r.calls ∨ rank = 6 ∨ control ∧ r.spare.isSome then
    State.drbgReseeded seed r
  else { r with spare := some seed }

namespace State

section
variable (s : State) (d : Nat)

theorem drbg_demandReseed (e : Nat) : (s.demandReseed d).drbg e = if e = d then (s.drbg e).demanded else s.drbg e := by
  unfold demandReseed Drbg.demanded
  by_cases he : e = d
  · subst he
    rw [if_pos rfl]
    split
    · rw [drbg_changeDrbg, if_pos rfl]
    · rfl
  · rw [if_neg he]
    split
    · rw [drbg_changeDrbg, if_neg he]
    · rfl

theorem demandReseed_sources : (s.demandReseed d).ent.sources = s.ent.sources := by
  unfold demandReseed
  split <;> rfl

/-- A demand of several DRBGs reaches each of them, however often it is named. -/
theorem drbg_forEach_demandReseed (ds : List Nat) (e : Nat) :
    (forEach ds (fun d s => s.demandReseed d) s).drbg e = if e ∈ ds then (s.drbg e).demanded else s.drbg e := by
  induction ds generalizing s with
  | nil => rfl
  | cons d ds ih =>
    refine (ih (s.demandReseed d)).trans ?_
    rw [drbg_demandReseed]
    by_cases hd : e = d
    · simp [hd, Drbg.demanded_idem]
    · simp [hd]

end

/-- The first seed leaves the queue for the DRBG of the first request. -/
theorem deliverSeed_eq {s : State} {rank d : Nat} (hr : s.seedReady = true) (hf : s.firstRequest = some (rank, d)) (selfTest : Bool) :
    s.deliverSeed selfTest = (s.modEnt fun e => { e with seeds := e.seeds.drop 1 }).changeDrbg d fun r =>
      r.seeded selfTest (d = controlDrbg) rank (s.ent.seeds.headD []) (s.personal d (r.insts + 1)) := by
  unfold deliverSeed
  rw [if_pos hr, hf]
  dsimp only
  split
  case isTrue hun =>
    have hun : (s.drbg d).state = .unseeded := beq_iff_eq.1 hun
    split
    case isTrue ht => exact changeDrbg_congr ((if_pos hun).trans (if_pos ht)).symm
    case isFalse ht => exact changeDrbg_congr ((if_pos hun).trans (if_neg ht)).symm
  case isFalse hun =>
    have hun : (s.drbg d).state ≠ .unseeded := fun h => hun (beq_iff_eq.2 h)
    split
    case isTrue hre => exact changeDrbg_congr ((if_neg hun).trans (if_pos (by simpa [or_assoc] using hre))).symm
    case isFalse hre => exact changeDrbg_congr ((if_neg hun).trans (if_neg (by simpa [or_assoc] using hre))).symm

/-! ## What follows the delivery of a seed (R307, R316, R469) -/

section
variable {s : State}

theorem bootStep7_of_not_boot (h : s.sys.mode ≠ .boot) : s.bootStep7 = s := if_pos (by simp [h])

theorem applyStep_of_not_step3 (h : s.cus.cer.step ≠ 3) : s.applyStep = s := if_pos h

theorem resumeWaits_of_none (h : s.ent.waiting = []) : s.resumeWaits = s := by
  unfold resumeWaits
  split
  · rfl
  · rw [h]
    change ({ s with ent := { s.ent with waiting := [] } } : State) = s
    rw [← h]

end

end State

end Sys2Proof.Machine
end

section
/-! SUPPORT. The commands of the noise sources, the conditioner and the seeds, and O18. -/

namespace Sys2Proof.Machine

section
variable {s : State} {i d : Nat} {xs : List Bool}

/-! ## Sources (R292 to R294) -/

theorem exec_sourceTestFail (hi : i < 16) (hl : (s.source i).state ≠ .retired)
    (hx : healthFails s.ent.rctC.toNat s.ent.aptC.toNat xs = true) : exec (.sourceTestFail ⟨i, xs⟩) s = .next (s.sourceFails i) :=
  (onUnit_present (decide_eq_true hi)).trans
    (congrArg _ (when_holds (by rw [Bool.and_eq_true, bne_iff_ne]; exact ⟨hl, hx⟩)))

/-- Samples that pass both tests fail no source (R292). -/
theorem noEffect_sourceTestFail (hi : i < 16) (hx : healthFails s.ent.rctC.toNat s.ent.aptC.toNat xs = false) :
    NoEffect (.sourceTestFail ⟨i, xs⟩) s :=
  (onUnit_present (decide_eq_true hi)).trans (congrArg _ (when_fails (by rw [Bool.and_eq_false_iff]; exact .inr hx)))

theorem sourceTestFail_completes (hi : i < 16) (hl : (s.source i).state ≠ .retired)
    (hx : healthFails s.ent.rctC.toNat s.ent.aptC.toNat xs = true) :
    Completes (.sourceTestFail ⟨i, xs⟩) s fun t =>
      t.source i = { s.source i with state := if (s.source i).recent + 1 < 64 then .cooling else .retired, left := true,
                                     recent := min 64 ((s.source i).recent + 1), total := satInc (s.source i).total } ∧
      t.ent.retiredList = s.ent.retiredList ++ (if (s.source i).recent + 1 < 64 then [] else [i]) ∧
      (∀ j, j ≠ i → t.source j = s.source j) ∧ t.ent.drbgs = s.ent.drbgs ∧
      t = { s with host := t.host, ent := t.ent, log := t.log, out := t.out } := by
  have hcore := s.sourceFails_core i
  have hsource : ∀ j, (s.sourceFails i).source j = if j = i then (s.source i).failed else s.source j := fun j =>
    (State.source_of_core hcore j).trans (State.source_modSource s i j _)
  exact ⟨_, exec_sourceTestFail hi hl hx, (hsource i).trans (if_pos rfl), State.retiredList_of_core hcore,
    fun j hj => (hsource j).trans (if_neg hj), (State.drbgs_of_core hcore :),
    State.eq_of_blank_noisy (State.sourceFails_blank _ rfl rfl rfl rfl i s)⟩

/-- The start-up test has run over its samples (R293). -/
theorem exec_startupTestDone (hi : i < 16) (hst : (s.source i).state = .startup) (hn : xs.length = 1024) :
    exec (.startupTestDone ⟨i, xs⟩) s = .next (if healthFails s.ent.rctC.toNat s.ent.aptC.toNat xs then s.sourceFails i
      else ((s.modSource i fun x => { x with state := .pool, left := true }).poolChanged s.inPool).entReadyCheck) :=
  (onUnit_present (decide_eq_true ⟨hi, hn⟩)).trans (congrArg _ (when_holds (beq_iff_eq.2 hst)))

/-- A failed start-up test is a failure like any other. -/
theorem exec_startupTestDone_fail (hi : i < 16) (hst : (s.source i).state = .startup) (hn : xs.length = 1024)
    (hx : healthFails s.ent.rctC.toNat s.ent.aptC.toNat xs = true) :
    exec (.startupTestDone ⟨i, xs⟩) s = exec (.sourceTestFail ⟨i, xs⟩) s := by
  rw [exec_startupTestDone hi hst hn, if_pos hx, exec_sourceTestFail hi (by simp [hst]) hx]

theorem startupTestDone_completes (hi : i < 16) (hst : (s.source i).state = .startup) (hn : xs.length = 1024)
    (hx : healthFails s.ent.rctC.toNat s.ent.aptC.toNat xs = false) :
    Completes (.startupTestDone ⟨i, xs⟩) s fun t =>
      t.source i = { s.source i with state := .pool, left := true } ∧ (∀ j, j ≠ i → t.source j = s.source j) ∧
      t.ent.drbgs = s.ent.drbgs ∧ t = { s with host := t.host, ent := t.ent, log := t.log, out := t.out } := by
  have hex := exec_startupTestDone hi hst hn
  rw [if_neg (by simp [hx])] at hex
  let u := s.modSource i fun x => { x with state := .pool, left := true }
  have hcore : (u.poolChanged s.inPool).entReadyCheck.ent.core = u.ent.core := by
    rw [State.entReadyCheck_core, State.poolChanged_core]
  have hsource := fun j => (State.source_of_core hcore j).trans (State.source_modSource s i j _)
  refine ⟨_, hex, (hsource i).trans (if_pos rfl), fun j hj => (hsource j).trans (if_neg hj), (State.drbgs_of_core hcore :),
    State.eq_of_blank_noisy ?_⟩
  rw [State.entReadyCheck_blank _ rfl rfl rfl rfl, State.poolChanged_blank _ rfl rfl rfl rfl, State.modSource_blank _ rfl]

theorem coolingExpire_completes (hi : i < 16) (hc : (s.source i).state = .cooling) :
    Completes (.coolingExpire i) s fun t => t = s.modSource i fun x => { x with state := .startup } :=
  ⟨_, onUnit_present (decide_eq_true hi), when_holds (beq_iff_eq.2 hc)⟩

theorem sourceFailure24hExpire_completes (hi : i < 16) :
    Completes (.sourceFailure24hExpire i) s fun t => t = s.modSource i fun x => { x with recent := x.recent - 1 } :=
  ⟨_, onUnit_present (decide_eq_true hi), rfl⟩

theorem entropyLateTimeout_completes (hr : s.ent.ready = false) :
    Completes .entropyLateTimeout s fun t =>
      t.ent.irq.getLsbD 1 = true ∧ t.ent.drbgs = s.ent.drbgs ∧ t.ent.sources = s.ent.sources ∧
      t = { s with host := t.host, ent := t.ent, log := t.log, out := t.out } := by
  have hex : exec .entropyLateTimeout s = .next ((s.kazkelRecord 0x0502 []).entIrq entLateIrq) :=
    (onUnit_present rfl).trans (congrArg _ (when_holds (by rw [hr]; rfl)))
  have hcore : ((s.kazkelRecord 0x0502 []).entIrq entLateIrq).ent.core = s.ent.core := by
    rw [State.entIrq_core, State.kazkelRecord_ent]
  refine ⟨_, hex, State.entIrq_sets _ _ (by decide), (State.drbgs_of_core hcore :), State.sources_of_core hcore, State.eq_of_blank_noisy ?_⟩
  rw [State.entIrq_blank _ rfl rfl rfl rfl, State.kazkelRecord_blank _ rfl rfl rfl]

/-! ## Demands (R306) -/

theorem mem_allDrbgs : d ∈ allDrbgs ↔ d ≤ 68 := List.mem_range.trans Nat.lt_succ_iff

section
variable (hi : i < 1024) (ha : s.answers i = true) (hp : s.isPf i = true) (hown : s.ownerPf = i)
include hi ha hp hown

theorem exec_entReseedOne (hd : d < 128) :
    exec (.entReseedOne i d) s = .next (when_ (d ≤ 68) (fun s => s.demandReseed d) s) := by
  refine (onUnit_present (decide_eq_true ⟨hi, hd⟩)).trans (congrArg _ ?_)
  rw [State.globalWrite_eq ha hp, if_pos hown]

theorem entReseedOne_completes (hd : d ≤ 68) (hl : State.drbgLive (s.drbg d) = true) :
    Completes (.entReseedOne i d) s fun t =>
      t.drbg d = { s.drbg d with demand := true } ∧ (∀ e, e ≠ d → t.drbg e = s.drbg e) ∧ t = { s with ent := t.ent } := by
  refine ⟨_, (exec_entReseedOne hi ha hp hown (by omega)).trans (congrArg _ (when_holds (decide_eq_true hd))), ?_,
    fun e he => ?_, State.eq_of_blank_ent (State.demandReseed_blank _ rfl d s)⟩
  · rw [State.drbg_demandReseed, if_pos rfl]; exact if_pos hl
  · rw [State.drbg_demandReseed, if_neg he]

/-- An index past the last DRBG demands nothing (R310). -/
theorem noEffect_entReseedOne (hd : 68 < d) (hd' : d < 128) : NoEffect (.entReseedOne i d) s :=
  (exec_entReseedOne hi ha hp hown hd').trans (congrArg _ (when_fails (decide_eq_false (by omega))))

theorem entReseedAll_completes :
    Completes (.entReseedAll i) s fun t =>
      (∀ d, d ≤ 68 → t.drbg d = if State.drbgLive (s.drbg d) then { s.drbg d with demand := true } else s.drbg d) ∧
      t.ent.sources = s.ent.sources ∧ t = { s with ent := t.ent } := by
  have hex : exec (.entReseedAll i) s = .next (forEach allDrbgs (fun d s => s.demandReseed d) s) := by
    refine (onUnit_present (decide_eq_true hi)).trans (congrArg _ ?_)
    rw [State.globalWrite_eq ha hp, if_pos hown]
  refine ⟨_, hex, fun d hd => ?_, forEach_keeps (·.ent.sources) (fun d s => s.demandReseed_sources d) _ _,
    State.eq_of_blank_ent (blank_forEach _ _ _ _ (State.demandReseed_blank _ rfl))⟩
  rw [State.drbg_forEach_demandReseed, if_pos (mem_allDrbgs.2 hd)]
  rfl

end
end

/-! ## The conditioner (R296, R301) -/

/-- The entropy block once the conditioner has made a block: the third in a row makes a seed (R296). -/
def Entropy.blockMade (e : Entropy) (block : Bytes) : Entropy :=
  let made := e.blocks ++ [block]
  { e with
    katDue := false, blocks := if made.length < 3 then made else [], startBlocks := min 4 (e.startBlocks + 1),
    seeds := if made.length < 3 then e.seeds else (e.seeds ++ [made.flatten]).take 256 }

section
variable {s : State} {b : Bool} {xs : List (List Bool)} (hn : xs.length = 16) (hok : s.ent.conditionerOk = true) (hp : 4 ≤ s.inPool)
  (hf : (s.bank 9).fenced = false) (hm : s.sys.mode ≠ .dormant)
include hn hok hp hf hm

theorem conditionBlockDone_kat_fails (hk : s.ent.katDue = true) :
    Completes (.conditionBlockDone ⟨false, xs⟩) s fun t =>
      t = (s.modEnt fun e => { e with conditionerOk := false, katDue := false, blocks := [] }).occur 9 4 none := by
  refine ⟨_, onUnit_present (decide_eq_true hn), (when_holds (by simp [hok, hp, hf, hm])).trans ?_⟩
  rw [hk]; rfl

theorem exec_conditionBlockDone {bits : List Bool} (hk : s.ent.katDue = false ∨ b = true)
    (hb : rawBits (allSources.filter fun i => (s.source i).state == .pool) xs = some bits) :
    exec (.conditionBlockDone ⟨b, xs⟩) s = .next (s.modEnt fun e => e.blockMade (conditionBlock bits)).entReadyCheck := by
  refine (onUnit_present (decide_eq_true hn)).trans (congrArg _ ((when_holds (by simp [hok, hp, hf, hm])).trans ?_))
  rw [if_neg (by rcases hk with hk | hk <;> simp [hk]), hb]
  simp only [Entropy.blockMade, decide_eq_true_iff, ← Nat.not_lt, ite_not]
  rfl

theorem conditionBlockDone_completes {bits : List Bool} (hk : s.ent.katDue = false ∨ b = true)
    (hb : rawBits (allSources.filter fun i => (s.source i).state == .pool) xs = some bits) :
    Completes (.conditionBlockDone ⟨b, xs⟩) s fun t =>
      (let made := s.ent.blocks ++ [conditionBlock bits]
       t.ent.katDue = false ∧ t.ent.blocks = (if made.length < 3 then made else []) ∧
       t.ent.seeds = (if made.length < 3 then s.ent.seeds else (s.ent.seeds ++ [made.flatten]).take 256)) ∧
      t.ent.startBlocks = min 4 (s.ent.startBlocks + 1) ∧
      t.ent.drbgs = s.ent.drbgs ∧ t.ent.sources = s.ent.sources ∧
      t = { s with host := t.host, ent := t.ent, log := t.log, out := t.out } := by
  have hcore := (s.modEnt fun e => e.blockMade (conditionBlock bits)).entReadyCheck_core
  refine ⟨_, exec_conditionBlockDone hn hok hp hf hm hk hb, ⟨(congrArg Entropy.katDue hcore :), (congrArg Entropy.blocks hcore :),
    (congrArg Entropy.seeds hcore :)⟩, (congrArg Entropy.startBlocks hcore :), (State.drbgs_of_core hcore :),
    (State.sources_of_core hcore :), State.eq_of_blank_noisy ?_⟩
  rw [State.entReadyCheck_blank _ rfl rfl rfl rfl, State.modEnt_blank _ rfl]

end

/-! ## Seeds (R298, R301) -/

section
variable {s : State} {rank d : Nat} {seed : Bytes} {rest : List Bytes} (hr : s.ent.ready = true) (hs : s.ent.seeds = seed :: rest)
  (hf : s.firstRequest = some (rank, d))
include hr hs hf

/-- The command: a failed known-answer test is a fault of the DRBG's bank; otherwise the boot, a ceremony and what waits may go on. -/
theorem exec_seedDeliver (selfTest : Bool) : exec (.seedDeliver selfTest) s = .next (
    if (s.drbg d).state == .unseeded && !selfTest then
      (if d = controlDrbg then (s.deliverSeed selfTest).occur 11 8 none else (s.deliverSeed selfTest).occur (kilnBank d) 11 none)
    else (s.deliverSeed selfTest).bootStep7.applyStep.resumeWaits) := by
  refine (onUnit_present rfl).trans (congrArg _ ?_)
  dsimp only
  rw [if_pos (by simp [State.seedReady, hr, hs]), hf]

theorem deliverSeed_of_queue (selfTest : Bool) : s.deliverSeed selfTest =
    (s.modEnt fun e => { e with seeds := e.seeds.drop 1 }).changeDrbg d fun r =>
      r.seeded selfTest (d = controlDrbg) rank seed (s.personal d (r.insts + 1)) := by
  have h := State.deliverSeed_eq (s := s) (by simp [State.seedReady, hr, hs]) hf selfTest
  rwa [hs] at h

theorem drbg_deliverSeed (selfTest : Bool) (e : Nat) : (s.deliverSeed selfTest).drbg e = if e = d then
    (s.drbg d).seeded selfTest (d = controlDrbg) rank seed (s.personal d ((s.drbg d).insts + 1)) else s.drbg e := by
  rw [deliverSeed_of_queue hr hs hf, State.drbg_changeDrbg]; rfl

theorem seedDeliver_completes (hm : s.sys.mode ≠ .boot) (hc : s.cus.cer.step ≠ 3) (hw : s.ent.waiting = []) :
    Completes (.seedDeliver true) s fun t =>
      (let r := s.drbg d
       t.drbg d = if r.state = .unseeded then
           { ctrInstantiate r seed (s.personal d (r.insts + 1)) with state := .ready, calls := 0, demand := false, insts := r.insts + 1 }
         else if r.state = .stretched ∨ r.state = .exhausted ∨ 2 ^ 20 ≤ r.calls ∨ rank = 6 ∨ d = controlDrbg ∧ r.spare.isSome then
           { ctrUpdate r seed with state := .ready, calls := 0, demand := false }
         else { r with spare := some seed }) ∧
      t.ent.seeds = rest ∧ (∀ e, e ≠ d → t.drbg e = s.drbg e) ∧ t.ent.sources = s.ent.sources ∧ t = { s with ent := t.ent } := by
  have heq := deliverSeed_of_queue hr hs hf true
  have hdrbg := drbg_deliverSeed hr hs hf true
  have hframe := State.eq_of_blank_ent (State.deliverSeed_blank _ rfl true s)
  have hex : exec (.seedDeliver true) s = .next (s.deliverSeed true) := by
    rw [exec_seedDeliver hr hs hf true, if_neg (by simp), State.bootStep7_of_not_boot (by rw [hframe]; exact hm),
      State.applyStep_of_not_step3 (by rw [hframe]; exact hc), State.resumeWaits_of_none (by rw [heq, State.changeDrbg_waiting]; exact hw)]
  refine ⟨_, hex, (hdrbg d).trans (if_pos rfl), ?_, fun e he => (hdrbg e).trans (if_neg he), ?_, hframe⟩
  · rw [heq, State.changeDrbg_seeds, State.modEnt_ent, hs]; rfl
  · rw [heq, State.changeDrbg_sources]; rfl

theorem seedDeliver_selfTest_fails (hun : (s.drbg d).state = .unseeded) :
    Completes (.seedDeliver false) s fun t =>
      (s.deliverSeed false).drbg d = { s.drbg d with state := .failed } ∧
      t = (s.deliverSeed false).occur (if d = controlDrbg then 11 else kilnBank d) (if d = controlDrbg then 8 else 11) none := by
  refine ⟨_, exec_seedDeliver hr hs hf false, (drbg_deliverSeed hr hs hf false d).trans ((if_pos rfl).trans (if_pos hun)), ?_⟩
  rw [if_pos (by rw [hun]; rfl)]
  split <;> rfl

end

/-- Settles O18: each command is its operation on the entropy block; interrupts, records and READY leave the sources, the seeds and the
DRBGs, and a seed or a demand reaches one DRBG at a time. -/
theorem entropySourcesAndSeeds : Obligations.EntropySourcesAndSeeds := by
  unfold Obligations.EntropySourcesAndSeeds
  exact ⟨fun s i xs => sourceTestFail_completes, fun s i xs => noEffect_sourceTestFail, fun s i xs => exec_startupTestDone_fail,
    fun s i xs => startupTestDone_completes, fun s i => coolingExpire_completes, fun s i => sourceFailure24hExpire_completes,
    fun s b xs bits hn hok hp hf hm => conditionBlockDone_completes hn hok hp hf hm,
    fun s xs => conditionBlockDone_kat_fails, fun s => entropyLateTimeout_completes,
    fun s rank d seed rest hr hs hf => seedDeliver_completes hr hs hf,
    fun s rank d seed rest hr hs hf => seedDeliver_selfTest_fails hr hs hf,
    fun s i d hi hd ha hp hown => entReseedOne_completes hi ha hp hown hd,
    fun s i d hi hd hd' ha hp hown => noEffect_entReseedOne hi ha hp hown hd hd', fun s i => entReseedAll_completes⟩

end Sys2Proof.Machine
end
